-- ==== Sys2Proof/Word.lean ====
section
/-! DEFINITION. The word types of the frames (spec/11) and the index types of the device's units
(spec/00, "Numbers at a glance"). -/

namespace Sys2Proof

/-- One byte of a frame, and every 8-bit value that wraps (transaction tag, report number, depot tag). -/
abbrev Byte := BitVec 8
/-- A two-byte field. -/
abbrev Half := BitVec 16
/-- A four-byte field. -/
abbrev Quad := BitVec 32
/-- A card number: six bytes. -/
abbrev CardNo := BitVec 48

/-- Lanes are numbered 1 to 16; `LaneId` counts them from 0. -/
abbrev LaneId := Fin 16
/-- Berths are numbered 1 to 4; `BerthId` counts them from 0. -/
abbrev BerthId := Fin 4
/-- Pier lines are numbered 1 to 8; `LineId` counts them from 0. -/
abbrev LineId := Fin 8
/-- Rider classes 0 to 7. -/
abbrev ClassId := Fin 8
/-- Route bands 0 to 7. -/
abbrev RouteBand := Fin 8
/-- Time bands 0 to 3. -/
abbrev TimeBand := Fin 4

end Sys2Proof
end

