-- ==== Sys2Proof/Syntax.lean ====
section
/-! DEFINITION. The commands of the device: one constructor of `Instr` for each row of
spec/opcode_table.json. A depot request carries its tag and the fields of its body as spec/11 lays them
out; ANSWER carries the bytes of the answer on the pair; an event of one lane, berth, line or recovery
entry names it. -/

namespace Sys2Proof

/-- One entry of a TABLE WRITE to CARD LIST, as it stands in the frame (spec/11). -/
structure RawCard where
  card   : CardNo
  action : Byte
  deriving DecidableEq, Repr

/-- One entry of a TABLE WRITE to PRODUCTS, as it stands in the frame (spec/11). -/
structure RawProduct where
  flags     : Byte
  kind      : Byte
  riders    : Byte
  window    : Byte
  allowance : Half
  mask      : Byte
  deriving DecidableEq, Repr

/-- One entry of a TABLE WRITE to CLASSES, as it stands in the frame (spec/11). -/
structure RawClass where
  concession : Byte
  cap        : Half
  priority   : Byte
  deriving DecidableEq, Repr

/-- One entry of a TABLE WRITE to TIME BANDS, as it stands in the frame (spec/11). -/
structure RawBoundary where
  start : Half
  band  : Byte
  deriving DecidableEq, Repr

/-- What a TABLE WRITE carries after its start index: the entries for the table it names, or, where the
table named or the entry count is out of range, the count alone (R129, R177). -/
inductive TableBody where
  | cards      (entries : List RawCard)
  | products   (entries : List RawProduct)
  | fares      (entries : List Half)
  | classes    (entries : List RawClass)
  | timeBands  (entries : List RawBoundary)
  | outOfRange (count : Byte)
  deriving DecidableEq, Repr

/-- The level of a pier line. -/
inductive Level where
  | high
  | low
  deriving DecidableEq, Repr

/-- The commands, one for each row of spec/opcode_table.json, in the table's order. -/
inductive Instr where
  /-- POWER_ON (R174). -/
  | powerOn
  /-- POLL_TURN (R3). -/
  | pollTurn
  /-- ANSWER (R2): the end of an answer whose bytes, from first to last, are `bytes`. -/
  | answer (bytes : List Byte)
  /-- ANSWER_WINDOW_EXPIRY (R2). -/
  | answerWindowExpiry
  /-- HOLD_TIMER_EXPIRY (R26). -/
  | holdTimerExpiry (lane : LaneId)
  /-- STAGE_SERVICE (R46). -/
  | stageService
  /-- STAGE_RECOVERY_MATCH (R47). -/
  | stageRecoveryMatch
  /-- STAGE_CARD_STATUS (R48). -/
  | stageCardStatus
  /-- STAGE_PRODUCT (R49). -/
  | stageProduct
  /-- STAGE_PASSBACK (R50). -/
  | stagePassback
  /-- STAGE_BERTH_STATE (R51). -/
  | stageBerthState
  /-- STAGE_FARE (R52). -/
  | stageFare
  /-- STAGE_LANE_ROOM (R53). -/
  | stageLaneRoom
  /-- DECISION_EVENT (R55). -/
  | decisionEvent
  /-- WRITE_TIMER_EXPIRY (R89). -/
  | writeTimerExpiry (lane : LaneId)
  /-- RECOVERY_EXPIRY (R96): the entry is named by its card number, which no other entry carries (R91). -/
  | recoveryExpiry (card : CardNo)
  /-- QUIET_TIMER_EXPIRY (R123). -/
  | quietTimerExpiry (berth : BerthId)
  /-- CLOCK_ADVANCE (R63). -/
  | clockAdvance
  /-- TABLE_WORK_DONE (R128). -/
  | tableWorkDone
  /-- LINE_DEBOUNCE (R156). -/
  | lineDebounce (line : LineId)
  /-- SILENCE_TIMER_EXPIRY (R170). -/
  | silenceTimerExpiry
  /-- DEPOT_BAD_FRAME (R166). -/
  | depotBadFrame
  /-- DEPOT_UNKNOWN_FRAME (R166): a good frame of the kind and tag given. -/
  | depotUnknownFrame (kind tag : Byte)
  /-- TABLE_WRITE (R129). -/
  | tableWrite (tag : Byte) (start : Half) (body : TableBody)
  /-- CARD_INSERT (R132). -/
  | cardInsert (tag : Byte) (entry : RawCard)
  /-- CARD_REMOVE (R133). -/
  | cardRemove (tag : Byte) (card : CardNo)
  /-- TABLE_CLEAR (R134). -/
  | tableClear (tag : Byte)
  /-- TABLE_COPY (R135). -/
  | tableCopy (tag : Byte)
  /-- TABLE_ACTIVATE (R137). -/
  | tableActivate (tag : Byte) (version : Quad) (expected : Half) (timing : Byte) (day : Half) (secs : Quad)
  /-- TABLE_STATUS (R142). -/
  | tableStatus (tag : Byte)
  /-- BERTH_ARRIVE (R107). -/
  | berthArrive (tag berth : Byte) (vessel capacity aboard : Half) (reserve band : Byte)
  /-- BERTH_OPEN (R108). -/
  | berthOpen (tag berth : Byte)
  /-- BERTH_CLOSE (R109). -/
  | berthClose (tag berth : Byte)
  /-- BERTH_DEPART (R110). -/
  | berthDepart (tag berth : Byte)
  /-- BERTH_CAPACITY (R118). -/
  | berthCapacity (tag berth : Byte) (capacity aboard : Half)
  /-- BERTH_SOURCE (R119). -/
  | berthSource (tag berth source : Byte)
  /-- BERTH_READ (R124). -/
  | berthRead (tag berth : Byte)
  /-- LANE_SETUP (R39). -/
  | laneSetup (tag lane mode berth : Byte)
  /-- LANE_RESET (R37). -/
  | laneReset (tag lane : Byte)
  /-- LANE_READ (R40): bit 0 of the option asks for the clearing. -/
  | laneRead (tag lane option : Byte)
  /-- JOURNAL_READ (R150). -/
  | journalRead (tag count : Byte)
  /-- JOURNAL_RELEASE (R151). -/
  | journalRelease (tag : Byte) (sequence : Quad)
  /-- JOURNAL_STATUS (R152): bit 0 of the option asks for the clearing. -/
  | journalStatus (tag option : Byte)
  /-- CLOCK_SET (R65). -/
  | clockSet (tag : Byte) (day : Half) (secs : Quad)
  /-- CLOCK_READ (R66). -/
  | clockRead (tag : Byte)
  /-- SETTING_WRITE (R171). -/
  | settingWrite (tag setting berth : Byte) (value : Half)
  /-- SETTING_READ (R171). -/
  | settingRead (tag : Byte)
  /-- LINE_SETUP (R155). -/
  | lineSetup (tag line entry parameter options : Byte)
  /-- LINE_READ (R159). -/
  | lineRead (tag : Byte)
  /-- RELEASE_START (R160). -/
  | releaseStart (tag : Byte)
  /-- RELEASE_END (R160). -/
  | releaseEnd (tag : Byte)
  /-- NOTICE_READ (R169). -/
  | noticeRead (tag : Byte)
  /-- NOTICE_CLEAR (R169). -/
  | noticeClear (tag : Byte) (named : Half)
  /-- CONTROL_RESET (R173). -/
  | controlReset (tag : Byte)
  /-- IDENTIFY (R175). -/
  | identify (tag : Byte)
  /-- LINE_LEVEL_CHANGE (R156): the level now present at the line from outside. -/
  | lineLevelChange (line : LineId) (level : Level)
  /-- ANSWER_BEGINS (R2). -/
  | answerBegins
  deriving DecidableEq, Repr

end Sys2Proof
end

