-- ==== Sys2Proof/Decode.lean ====
section
/-! DEFINITION. The words of spec/opcode_table.json. The table gives no row any bits ("fields" is empty in
all 57 rows and no row has a mask), so no word spells a command. The bytes of the two links' frames
(spec/11) are in Machine/Frames.lean. -/

namespace Sys2Proof

/-- The command that a word of the table spells: none, for the table gives no row bits (log 23). -/
def decodeTableWord (_nbits _w : Nat) : Option Instr := none

end Sys2Proof
end

