-- ==== Sys2Proof/Config.lean ====
section
/-! DEFINITION. What the device fixes (spec/00, "Numbers at a glance"; spec/10, Identification) and the
free values: constants without a body, so that nothing can be proved of their value. -/

namespace Sys2Proof

/-- Records the journal holds, and the ceiling of its occupancy (R144, R147). -/
def Config.journalCapacity : Nat := 2048
/-- The journal's high mark (R148). -/
def Config.journalHighMark : Nat := 1792
/-- The most passage credits of a lane (R53). -/
def Config.maxCredits : Nat := 15
/-- The most recovery entries (R91). -/
def Config.maxRecovery : Nat := 8
/-- The most entries of a card status list (R130). -/
def Config.maxCards : Nat := 4096
/-- The most boundaries of a time-band list (R130). -/
def Config.maxBoundaries : Nat := 7
/-- The highest capacity, aboard count and gangway limit (R105, R107). -/
def Config.maxPlaces : Nat := 1200
/-- The highest reserve (R107). -/
def Config.maxReserve : Nat := 50
/-- Most records in one JOURNAL READ (R150). -/
def Config.maxRead : Nat := 16
/-- The part code IDENTIFY answers (R175). -/
def Config.partCode : Nat := 416
/-- The revision the manual describes (R175). -/
def Config.revision : Nat := 1
/-- The seconds of a service day (R64). -/
def Config.secondsPerDay : Nat := 86400

/-- FREE VALUE. DESIGN CHOICE (log 8). The route band of a fare computation whose stage 4 met an IDLE
berth, and so read no band, while stage 6 met the berth BOARDING or FULL: R52 takes 'the route band of the
berth as read at stage 4', and none was read. -/
opaque Config.unreadRouteBand : Nat → RouteBand

/-- FREE VALUE. DESIGN CHOICE (log 9). The time band of an empty time-band list. R72 shows that no run
reaches such a lookup. -/
opaque Config.emptyListBand : Nat → TimeBand

end Sys2Proof
end

