-- ==== Sys2Proof/Machine/State.lean ====
section
/-! DEFINITION. The state of the device as plain data, the machine right after power-on, and the reasons a
step can stop. INVENTORY.md lists every field with the rule that names it. Numbers are natural numbers or
integers where the manual counts with them, and bit vectors where it wraps or carries them as bits. -/

namespace Sys2Proof.Machine

/-! ### Lanes and the lane link (spec/01, spec/02) -/

/-- Lane modes (spec/02, "State of a lane unit"). -/
inductive Mode where
  | absent
  | closed
  | entry (berth : BerthId)
  | exit
  deriving DecidableEq, Repr

/-- Link status of a lane. -/
inductive LinkStatus where
  | offline
  | online
  deriving DecidableEq, Repr

/-- Leaf state: SHUT, OPEN with its passage credits, FAULT. -/
inductive Leaf where
  | shut
  | opened (credits : Nat)
  | fault
  deriving DecidableEq, Repr

/-- Gate orders (R19). -/
inductive GateOrder where
  | shut
  | opened (credits : Nat)
  | openFree
  deriving DecidableEq, Repr

/-- Display codes (spec/01, "Downward kinds"). -/
inductive DisplayCode where
  | go | wait | seeStaff | full | boardingClosed | lowValue | cardRefused | passback | wrongBerth
  | outOfService | lastCall | freeExit | laneClosed
  deriving DecidableEq, Repr

/-- Last reset reasons (R38, R40). -/
inductive ResetReason where
  | none | depot | headRestart | offline | controlReset | powerOn
  deriving DecidableEq, Repr

/-- The card image of a TAP (R10). -/
structure CardImage where
  card         : CardNo
  product      : Fin 64
  cls          : ClassId
  balance      : Int
  trips        : Nat
  dayStamp     : Nat
  daySpend     : Nat
  lastMinute   : Nat
  lastPier     : Nat
  transferUsed : Bool
  passExpiry   : Nat
  sequence     : Half
  deriving DecidableEq, Repr

/-- The new card image: every field that a CARD WRITE carries (R82). -/
structure NewImage where
  balance      : Int
  trips        : Nat
  dayStamp     : Nat
  daySpend     : Nat
  lastMinute   : Nat
  lastPier     : Nat
  transferUsed : Bool
  sequence     : Half
  deriving DecidableEq, Repr

/-- What a WRITING transaction holds beside the latched card image (R23, and the tables of spec/02 and
spec/05). `timer` is the period its write timer was loaded with, in seconds. -/
structure CardWrite where
  berth       : BerthId
  riders      : Nat
  charge      : Nat
  image       : NewImage
  reservation : Bool
  orphaned    : Bool
  timer       : Nat
  retry       : Bool
  product     : Fin 64
  cls         : ClassId
  watch       : Bool
  version     : Quad
  deriving DecidableEq, Repr

/-- The transaction of a lane with its record (spec/02). -/
inductive Transaction where
  | none
  | waiting    (image : CardImage)
  | validating (image : CardImage)
  | writing    (image : CardImage) (write : CardWrite)
  deriving DecidableEq, Repr

/-- A command frame waiting in a slot. A GATE keeps no contents (R5); a CARD WRITE's are fixed (R4). -/
inductive CommandFrame where
  | cardWrite (tag : Byte) (card : CardNo) (image : NewImage)
  | gate
  deriving DecidableEq, Repr

/-- The command slot's frame with its marks (R3, R5). -/
structure CommandSlot where
  frame : CommandFrame
  sent  : Bool
  stale : Bool
  deriving DecidableEq, Repr

/-- The display slot's code with its sent mark (R6). -/
structure DisplaySlot where
  code : DisplayCode
  sent : Bool
  deriving DecidableEq, Repr

/-- The link state of one lane (spec/01). `waiting` is the pending command. -/
structure Link where
  command : Option CommandSlot
  waiting : Option CommandFrame
  display : Option DisplaySlot
  misses  : Nat
  tag     : Byte
  acked   : Option Byte
  deriving DecidableEq, Repr

/-- The eight lane counters (R40). `inward` and `outward` are the counters IN and OUT. -/
structure LaneCounters where
  taps       : Nat
  admissions : Nat
  refusals   : Nat
  inward     : Nat
  outward    : Nat
  unpaid     : Nat
  forfeited  : Nat
  misses     : Nat
  deriving DecidableEq, Repr

/-- One lane unit together with its link state. `holdTimer` is the period the hold timer was loaded with,
in seconds, or none while it is stopped. -/
structure Lane where
  mode      : Mode
  status    : LinkStatus
  txn       : Transaction
  leaf      : Leaf
  gateOrder : GateOrder
  holdTimer : Option Nat
  savedMode : Mode
  counters  : LaneCounters
  lastReset : ResetReason
  link      : Link
  deriving DecidableEq, Repr

/-- What the downward frame of a turn was taken from (R3, R7). -/
inductive Carried where
  | command
  | display
  | empty
  deriving DecidableEq, Repr

/-- The body of a downward frame as it is sent (R3, R5). -/
inductive DownBody where
  | empty
  | cardWrite (card : CardNo) (image : NewImage)
  | gate (order : GateOrder)
  | shown (code : DisplayCode)
  deriving DecidableEq, Repr

/-- A downward frame: the lane, the acknowledged report number, the tag and the body (R3). -/
structure DownFrame where
  lane  : LaneId
  acked : Option Byte
  tag   : Byte
  body  : DownBody
  deriving DecidableEq, Repr

/-- The poll turn in progress (R2, R3): the frame it carried, where that came from, whether an answer has
begun, and whether the lane's mode has become ABSENT during the turn (R10, R16). -/
structure Turn where
  lane      : LaneId
  carried   : Carried
  frame     : DownFrame
  answering : Bool
  absented  : Bool
  deriving DecidableEq, Repr

/-- Outcomes of a card write (R10). -/
inductive WriteOutcome where
  | done
  | failed
  | uncertain
  deriving DecidableEq, Repr

/-- Conditions of a LANE STATUS (R31). -/
inductive LaneCondition where
  | leafFault
  | leafClear
  | headRestart
  deriving DecidableEq, Repr

/-- What a good answer reports (R10). A PASSAGE carries its IN and OUT counts, 0 to 7 each. -/
inductive Report where
  | nothing
  | tap (image : CardImage)
  | writeResult (tag : Byte) (card : CardNo) (outcome : WriteOutcome)
  | passage (inward outward : Fin 8)
  | status (condition : LaneCondition)
  deriving DecidableEq, Repr

/-- The three pier counts (R18, R34). -/
structure PierCounts where
  exits    : Nat
  wrongWay : Nat
  unpaid   : Nat
  deriving DecidableEq, Repr

/-! ### Fare tables (spec/07) -/

inductive BankId where
  | a
  | b
  deriving DecidableEq, Repr

/-- Actions of a card entry (R48). -/
inductive CardAction where
  | block
  | watch
  | cls (k : ClassId)
  deriving DecidableEq, Repr

structure CardEntry where
  card   : CardNo
  action : CardAction
  deriving DecidableEq, Repr

inductive ProductKind where
  | storedValue
  | pass
  | bundle
  deriving DecidableEq, Repr

/-- A product entry. Bit `b` of `mask` marks route band `b`. -/
structure Product where
  valid     : Bool
  kind      : ProductKind
  riders    : Nat
  window    : Nat
  allowance : Nat
  mask      : Byte
  deriving DecidableEq, Repr

structure RiderClass where
  concession : Nat
  cap        : Nat
  priority   : Bool
  deriving DecidableEq, Repr

/-- A time-band boundary. -/
structure Boundary where
  start : Nat
  band  : TimeBand
  deriving DecidableEq, Repr

/-- One bank. Its header's card-list count is the length of `cards` (R126). -/
structure Bank where
  cards    : List CardEntry
  products : Vector Product 64
  fares    : Vector Nat 32
  classes  : Vector RiderClass 8
  bands    : List Boundary
  version  : Quad
  deriving DecidableEq, Repr

/-- An instant of the service clock: a day and seconds (R67). -/
structure Instant where
  day  : Nat
  secs : Nat
  deriving DecidableEq, Repr

/-- An empty product entry (R126). -/
def Product.blank : Product := ⟨false, .storedValue, 1, 0, 0, 0⟩
/-- An empty class entry (R126). -/
def RiderClass.blank : RiderClass := ⟨0, 0, false⟩
/-- An empty bank (R126). -/
def Bank.empty : Bank :=
  ⟨[], .replicate 64 Product.blank, .replicate 32 0, .replicate 8 RiderClass.blank, [], 0⟩

/-! ### The validation in flight (spec/03) -/

/-- The stage a validation runs next (R45). Stages 9 and 10 are the decision event. -/
inductive Stage where
  | service | recoveryMatch | cardStatus | product | passback | berthState | fare | laneRoom | decision
  deriving DecidableEq, Repr

/-- The validation in flight: the values fixed at grant (R43), the stage to run next, and the results of
the stages run so far, each absent until its stage has run (spec/03, "State of the engine"). `band` is the
route band as stage 4 read it (R52). -/
structure Validation where
  lane     : LaneId
  berth    : BerthId
  image    : CardImage
  day      : Nat
  secs     : Nat
  clockSet : Bool
  bank     : Option BankId
  stage    : Stage
  cls      : Option ClassId
  watch    : Bool
  product  : Option Product
  band     : Option RouteBand
  fare     : Option (Nat × NewImage)
  deriving DecidableEq, Repr

/-- Refusal codes (R56). -/
inductive RefusalCode where
  | outOfService | cardFormat | blocked | unknownProduct | routeNotCovered | passExpired | lowValue
  | passback | boardingClosed | staffBoarding | halted | laneBusy | full | wrongBerth
  deriving DecidableEq, Repr

/-! ### The recovery list (spec/05) -/

/-- A recovery entry. `timer` is the period its expiry timer was loaded with, in seconds. -/
structure RecoveryEntry where
  card        : CardNo
  lane        : LaneId
  berth       : BerthId
  riders      : Nat
  charge      : Nat
  image       : NewImage
  product     : Fin 64
  cls         : ClassId
  watch       : Bool
  version     : Quad
  reservation : Bool
  timer       : Nat
  deriving DecidableEq, Repr

/-! ### Berths (spec/06) -/

inductive BerthState where
  | idle | alongside | boarding | full | closed
  deriving DecidableEq, Repr

/-- The vessel record (R107). -/
structure Vessel where
  number       : Nat
  capacity     : Nat
  aboard       : Nat
  reserveAsked : Nat
  band         : RouteBand
  deriving DecidableEq, Repr

inductive CountSource where
  | gates
  | tally
  deriving DecidableEq, Repr

/-- The ten counts of a manifest (spec/06). -/
structure Counts where
  held       : Nat
  granted    : Nat
  passed     : Nat
  unpaid     : Nat
  tallied    : Nat
  reverse    : Nat
  forfeited  : Nat
  admissions : Nat
  refusals   : Nat
  revenue    : Nat
  deriving DecidableEq, Repr

/-- A manifest with every count 0. -/
def Counts.zero : Counts := ⟨0, 0, 0, 0, 0, 0, 0, 0, 0, 0⟩

/-- A closed manifest: the vessel number and the counts (R111). -/
structure ClosedManifest where
  vessel : Nat
  counts : Counts
  deriving DecidableEq, Repr

/-- One berth unit. `effective` is E; `quietTimer` is the period the quiet timer was loaded with, in
seconds, or none while it is stopped. -/
structure Berth where
  state      : BerthState
  vessel     : Option Vessel
  effective  : Nat
  reserve    : Nat
  source     : CountSource
  halted     : Bool
  quietTimer : Option Nat
  lastCall   : Bool
  counts     : Counts
  closed     : Option ClosedManifest
  deriving DecidableEq, Repr

/-! ### The journal (spec/08) -/

/-- Record kinds, in the order of their codes (spec/11). -/
inductive RecordKind where
  | admission | fail | refused | recoveredTook | recoveredRetry | unresolved | forfeit | unpaid | manifest
  | activation
  deriving DecidableEq, Repr

/-- Record marks (spec/11). -/
structure Marks where
  watch   : Bool
  orphan  : Bool
  release : Bool
  deriving DecidableEq, Repr

/-- The fields of a record other than MANIFEST; a field a kind does not name holds 0 (spec/08). -/
structure CardFields where
  card       : CardNo
  product    : Nat
  cls        : Nat
  refusal    : Option RefusalCode
  riders     : Nat
  charge     : Nat
  newBalance : Int
  version    : Quad
  deriving DecidableEq, Repr

/-- Every named field 0. -/
def CardFields.zero : CardFields := ⟨0, 0, 0, none, 0, 0, 0, 0⟩

/-- The kind body (R146). -/
inductive RecordBody where
  | fields   (f : CardFields)
  | manifest (m : ClosedManifest)
  deriving DecidableEq, Repr

/-- A record as the block that owns the event hands it to the Journal. A lane or berth of 0 is `none`. -/
structure Draft where
  kind  : RecordKind
  marks : Marks
  lane  : Option LaneId
  berth : Option BerthId
  body  : RecordBody
  deriving DecidableEq, Repr

/-- A stored record: the draft with its sequence number and service time (R144). -/
structure Record where
  sequence : Quad
  day      : Nat
  secs     : Nat
  draft    : Draft
  deriving DecidableEq, Repr

/-- The Journal (R143). `tally` holds the overflow tally counters in the order of the kinds' codes. -/
structure Journal where
  records      : List Record
  reservations : Nat
  next         : Quad
  tally        : Vector Nat 10
  batch        : Nat
  deriving DecidableEq, Repr

/-! ### Service clock, pier lines, settings (spec/04, spec/09, spec/10) -/

/-- The Service Clock (R62). -/
structure Clock where
  isSet   : Bool
  day     : Nat
  secs    : Nat
  running : Bool
  deriving DecidableEq, Repr

/-- A line map entry (spec/09, "The line map"). -/
inductive LineEntry where
  | unused
  | output (event : Fin 18) (invert : Bool)
  | inputRelease
  | inputTally (berth : BerthId)
  | inputHalt (berth : BerthId)
  deriving DecidableEq, Repr

/-- One pier line: its map entry, its debounced level, and the level present from outside (R156). -/
structure PierLine where
  entry     : LineEntry
  debounced : Level
  level     : Level
  deriving DecidableEq, Repr

/-- The settings other than the line map, which the lines hold (R171). -/
structure Settings where
  pierNumber    : Nat
  holdTime      : Nat
  writeTime     : Nat
  recoveryTime  : Nat
  passback      : Nat
  overdraft     : Nat
  quietUnit     : Nat
  depotSilence  : Nat
  journalBatch  : Nat
  missLimit     : Nat
  gangway       : Vector Nat 4
  mask          : Half
  keep          : Bool
  deriving DecidableEq, Repr

/-- The defaults of the settings table (spec/10, "Settings"). -/
def Settings.defaults : Settings :=
  ⟨0, 8, 2, 20, 5, 0, 0, 30, 0, 3, .replicate 4 1200, 0xFFFF, false⟩

/-- The sixteen notice flags in the order of their numbers (spec/10, "Notice flags"). -/
inductive NoticeFlag where
  | unpaidPassage | watchCard | leafFault | laneOffline | berthFull | lastCall | recoveryUnresolved
  | journalHigh | journalFull | journalBatch | activationDone | activationCancelled | depotLost
  | releaseChange | clockRollover | capacityClamped
  deriving DecidableEq, Repr

/-! ### Requests and what is sent on the depot link (spec/07, spec/10, spec/11) -/

/-- The requests, in the order of their kind codes (spec/11). -/
inductive RequestKind where
  | tableWrite | cardInsert | cardRemove | tableClear | tableCopy | tableActivate | tableStatus
  | berthArrive | berthOpen | berthClose | berthDepart | berthCapacity | berthSource | berthRead
  | laneSetup | laneReset | laneRead
  | journalRead | journalRelease | journalStatus
  | clockSet | clockRead | settingWrite | settingRead | lineSetup | lineRead | releaseStart | releaseEnd
  | noticeRead | noticeClear | controlReset | identify
  deriving DecidableEq, Repr

/-- Results (R167); UNKNOWN has a frame of its own. -/
inductive Result where
  | done | busy | state | range | incomplete | notFound | order | capacity | duplicate
  deriving DecidableEq, Repr

/-- What TABLE STATUS answers of one bank (R142). -/
structure BankSummary where
  version    : Quad
  cards      : Nat
  products   : Nat
  boundaries : Nat
  deriving DecidableEq, Repr

/-- What LINE READ answers of one line (R159). -/
structure LineReport where
  entry     : LineEntry
  debounced : Level
  drivenLow : Bool
  deriving DecidableEq, Repr

/-- The contents of a reply. `plain` is the result alone; each other form but `tableWrite` has the result
DONE (spec/11). -/
inductive ReplyBody where
  | plain (result : Result)
  | tableWrite (result : Result) (written notWritten : Nat)
  | activated (swapped : Bool)
  | tableStatus (bankA bankB : BankSummary) (active : Option BankId) (shadow : BankId) (locked : Bool)
      (instant : Option Instant)
  | arrived (capacity aboard reserve effective : Nat)
  | recapacitated (capacity aboard effective : Nat)
  | berth (b : Berth)
  | lane (l : Lane) (pier : PierCounts)
  | records (rs : List Record)
  | released (removed : Nat)
  | journalStatus (records reservations : Nat) (oldest : Option Quad) (next : Quad) (tally : Vector Nat 10)
      (batch : Nat)
  | clockApplied (day secs : Nat)
  | clock (isSet : Bool) (day secs : Nat)
  | settingApplied (setting berth : Byte) (value : Nat)
  | settings (values : Settings)
  | lines (reports : List LineReport)
  | release (active : Bool)
  | notices (flags mask : Half)
  | cleared (flags : Half)
  | identity (partCode revision : Nat) (versionA versionB : Quad) (active : Option BankId)
  deriving DecidableEq, Repr

/-- A frame of the transmit pair: a reply, the reply UNKNOWN with the kind byte received, or a NOTICE
(R166, R167, R168). -/
inductive DepotFrame where
  | reply (kind : RequestKind) (tag : Byte) (body : ReplyBody)
  | unknown (tag kind : Byte)
  | notice (flags : Half)
  deriving DecidableEq, Repr

/-- The requests that change the shadow (R128), with the fields of their bodies. -/
inductive TableRequest where
  | write (start : Half) (body : TableBody)
  | insert (entry : RawCard)
  | remove (card : CardNo)
  | clear
  | copy
  | activate (version : Quad) (expected : Half) (timing : Byte) (day : Half) (secs : Quad)
  deriving DecidableEq, Repr

/-- How far the table request in progress has come: waiting on the read lock, or taken, its outcome
decided and its work under way (R128). -/
inductive TablePhase where
  | waiting
  | working (reply : ReplyBody)
  deriving DecidableEq, Repr

/-- The request in progress (R128, R166). Every other request is answered in the event that takes it. -/
structure TableJob where
  tag     : Byte
  request : TableRequest
  phase   : TablePhase
  deriving DecidableEq, Repr

/-! ### The whole state -/

/-- The state of the device and, last, the queue of commands that wait. -/
structure State where
  lanes             : Vector Lane 16
  lastPolled        : LaneId
  turn              : Option Turn
  pier              : PierCounts
  engine            : Option Validation
  lastGranted       : LaneId
  berths            : Vector Berth 4
  recovery          : List RecoveryEntry
  bankA             : Bank
  bankB             : Bank
  active            : Option BankId
  pendingActivation : Option Instant
  request           : Option TableJob
  journal           : Journal
  clock             : Clock
  lines             : Vector PierLine 8
  frameSource       : Bool
  lineSource        : Bool
  releaseActive     : Bool
  silenceTimer      : Option Nat
  depotLost         : Bool
  flags             : Half
  settings          : Settings
  depotOut          : List DepotFrame
  freeCount         : Nat
  pending           : List Instr
  deriving DecidableEq, Repr

/-! ### Power-on values -/

/-- The link state of a lane after power-on (R17). -/
def Link.powerOn : Link := ⟨none, none, none, 0, 0, none⟩

/-- A lane unit after power-on (R18). -/
def Lane.powerOn : Lane :=
  ⟨.absent, .offline, .none, .shut, .shut, none, .absent, ⟨0, 0, 0, 0, 0, 0, 0, 0⟩, .powerOn, Link.powerOn⟩

/-- A berth unit after power-on (R104). -/
def Berth.powerOn : Berth := ⟨.idle, none, 0, 0, .gates, false, none, false, Counts.zero, none⟩

/-- The Journal after power-on (R143). -/
def Journal.powerOn : Journal := ⟨[], 0, 0, .replicate 10 0, 0⟩

/-- A pier line after power-on (R155). DESIGN CHOICE (log 13): the level present from outside is high. -/
def PierLine.powerOn : PierLine := ⟨.unused, .high, .high⟩

/-- The device right after power-on (R174). DESIGN CHOICE: nothing is on the transmit pair (log 14), and
`freeCount` is 0 (log 20). -/
def State.reset : State where
  lanes             := .replicate 16 Lane.powerOn
  lastPolled        := 15
  turn              := none
  pier              := ⟨0, 0, 0⟩
  engine            := none
  lastGranted       := 15
  berths            := .replicate 4 Berth.powerOn
  recovery          := []
  bankA             := Bank.empty
  bankB             := Bank.empty
  active            := none
  pendingActivation := none
  request           := none
  journal           := Journal.powerOn
  clock             := ⟨false, 0, 0, false⟩
  lines             := .replicate 8 PierLine.powerOn
  frameSource       := false
  lineSource        := false
  releaseActive     := false
  silenceTimer      := some 30
  depotLost         := false
  flags             := 0
  settings          := Settings.defaults
  depotOut          := []
  freeCount         := 0
  pending           := []

/-! ### Reasons to stop -/

/-- Faults. The spec gives the device no event that stops it: each command of the table has an effect in
every state, if only that of changing nothing. So there is no constructor, and no step faults. -/
inductive Fault
  deriving DecidableEq, Repr

/-- Refusals. -/
inductive Refusal where
  /-- Raised by `exec` alone, for a command that has no meaning yet; safe, since nothing can be proved of a
  next state. No arm answers it now. -/
  | notModelled (mnemonic : String)
  deriving DecidableEq, Repr

end Sys2Proof.Machine
end

