-- ==== Sys2Proof/Machine/Fare.lean ====
section
/-! DEFINITION. Minutes, windows, time bands and the fare computation (spec/04). Every intermediate value is
exact (R73); the letters are those of the manual. -/

namespace Sys2Proof.Machine

/-- The minute of a time (R69). -/
def minuteOf (secs : Nat) : Nat := secs / 60

/-- The window test of R70: the card's day stamp is today, and now less its last boarding minute is from 0
to the window. -/
def inWindow (image : CardImage) (today now window : Nat) : Bool :=
  image.dayStamp == today && decide (image.lastMinute ≤ now) && decide (now - image.lastMinute ≤ window)

/-- The time band of a minute (R71): that of the last boundary starting at or below it, else that of the
last boundary of the list; none for an empty list, which no validation meets (R72). -/
def timeBandAt (bands : List Boundary) (m : Nat) : Option TimeBand :=
  match (bands.filter fun x => decide (x.start ≤ m)).getLast? with
  | some x => some x.band
  | none => bands.getLast?.map (·.band)

/-- The index of a base fare: route band × 4 + time band (spec/07). -/
def fareIndex (band : RouteBand) (time : TimeBand) : Fin 32 := ⟨band.val * 4 + time.val, by omega⟩

/-- What a fare computation reads beside the card (spec/04, inputs). -/
structure FareInput where
  base       : Nat
  product    : Product
  concession : Nat
  cap        : Nat
  overdraft  : Nat
  pier       : Nat
  today      : Nat
  now        : Nat
  deriving DecidableEq, Repr

/-- G: the base fare times the riders (R75). -/
def FareInput.gross (x : FareInput) : Nat := x.base * x.product.riders
/-- D: the discount, rounded to the nearest cent with the half cent up (R75). -/
def FareInput.discount (x : FareInput) : Nat := (x.gross * x.concession + 50) / 100
/-- F: the net fare (R75). -/
def FareInput.net (x : FareInput) : Nat := x.gross - x.discount

/-- Whether the boarding is a transfer (R76). -/
def FareInput.transfers (x : FareInput) (image : CardImage) : Bool :=
  x.product.window != 0 && !image.transferUsed && inWindow image x.today x.now x.product.window
/-- T: the transfer credit (R76). -/
def FareInput.credit (x : FareInput) (image : CardImage) : Nat :=
  if x.transfers image then min x.net x.product.allowance else 0
/-- F2: the fare after transfer (R76). -/
def FareInput.afterTransfer (x : FareInput) (image : CardImage) : Nat := x.net - x.credit image

/-- S: the spend so far today (R77). -/
def FareInput.spendSoFar (x : FareInput) (image : CardImage) : Nat :=
  if image.dayStamp = x.today then image.daySpend else 0
/-- Q: the charge under the daily cap (R77). -/
def FareInput.charge (x : FareInput) (image : CardImage) : Nat :=
  if x.cap = 0 then x.afterTransfer image else min (x.afterTransfer image) (x.cap - x.spendSoFar image)

/-- The overdraft check fails (R78). -/
def FareInput.overdrawn (x : FareInput) (image : CardImage) : Bool :=
  decide (0 < x.charge image) && decide (image.balance - (x.charge image : Int) < -(x.overdraft : Int))

/-- The fields every path sets (R82), around the balance, trips and day spend its own path gives. -/
def FareInput.image (x : FareInput) (card : CardImage) (balance : Int) (trips daySpend : Nat) : NewImage where
  balance      := balance
  trips        := trips
  dayStamp     := x.today
  daySpend     := daySpend
  lastMinute   := x.now
  lastPier     := x.pier
  transferUsed := x.transfers card
  sequence     := card.sequence + 1

/-- The fare computation (R73 to R83): none for LOW VALUE, else the charge and the new card image. -/
def computeFare (x : FareInput) (card : CardImage) : Option (Nat × NewImage) :=
  match x.product.kind with
  | .storedValue =>
    if x.overdrawn card then none
    else
      let q := x.charge card
      some (q, x.image card (card.balance - (q : Int)) card.trips (min 65535 (x.spendSoFar card + q)))
  | .pass => some (0, x.image card card.balance card.trips (x.spendSoFar card))
  | .bundle => some (0, x.image card card.balance (card.trips - x.product.riders) (x.spendSoFar card))

end Sys2Proof.Machine
end

