-- ==== Sys2Proof/Machine/Flags.lean ====
section
/-! DEFINITION. The notice flags: their numbers, setting and clearing them, and the NOTICE frame at the end
of an event (R168, R169). Flags and mask are kept as the sixteen-bit words the depot reads, flag `n` in bit
`n` (spec/11). -/

namespace Sys2Proof.Machine

/-- The number of a flag (spec/10, "Notice flags"). -/
def NoticeFlag.number : NoticeFlag → Nat
  | .unpaidPassage       => 0
  | .watchCard           => 1
  | .leafFault           => 2
  | .laneOffline         => 3
  | .berthFull           => 4
  | .lastCall            => 5
  | .recoveryUnresolved  => 6
  | .journalHigh         => 7
  | .journalFull         => 8
  | .journalBatch        => 9
  | .activationDone      => 10
  | .activationCancelled => 11
  | .depotLost           => 12
  | .releaseChange       => 13
  | .clockRollover       => 14
  | .capacityClamped     => 15

/-- The word with this flag alone set. -/
def NoticeFlag.mark (f : NoticeFlag) : Half := 1#16 <<< f.number

/-- Whether a flag is set. -/
def State.flagSet (s : State) (f : NoticeFlag) : Bool := s.flags.getLsbD f.number

/-- An owner sets its flag whatever the mask holds (R168). -/
def State.raise (s : State) (f : NoticeFlag) : State := { s with flags := s.flags ||| f.mark }

/-- `raise` where a condition holds. -/
def State.raiseIf (s : State) (c : Bool) (f : NoticeFlag) : State := if c then s.raise f else s

/-- One frame more on the transmit pair, after those produced before it (R167). -/
def State.transmit (s : State) (f : DepotFrame) : State := { s with depotOut := s.depotOut ++ [f] }

/-- Frames sent one after another (R167). -/
def State.send (s : State) (frames : List DepotFrame) : State := { s with depotOut := s.depotOut ++ frames }

/-- A NOTICE is due when a flag that was clear in `before` is now set and its mask mark is 1 (R168). -/
def State.noticeDue (s : State) (before : Half) : Bool := (s.flags &&& ~~~before &&& s.settings.mask) != 0

/-- The end of an event that began with the flags `before`: one NOTICE with all sixteen flags as they stand,
where one is due (R168). -/
def State.notify (s : State) (before : Half) : State :=
  if s.noticeDue before then s.transmit (.notice s.flags) else s

end Sys2Proof.Machine
end

