-- ==== Sys2Proof/Machine/Operands.lean ====
section
/-! DEFINITION. The operand fields of the requests: numbers and codes of spec/11 read into the device's own
values, each `none` where the field lies outside its range (R167, RANGE), and the clamping of values
(spec/00, Conventions). Reserved bits are ignored (R178). -/

namespace Sys2Proof.Machine

/-- A one-based number from 1 to `n`, counted from 0. -/
def oneBased (n : Nat) (b : Byte) : Option (Fin n) :=
  if h : 1 ≤ b.toNat ∧ b.toNat ≤ n then some ⟨b.toNat - 1, by omega⟩ else none

/-- A lane number 1 to 16 (R37, R39, R40). -/
def laneOf (b : Byte) : Option LaneId := oneBased 16 b
/-- A berth number 1 to 4 (spec/06, "The life of a vessel call"). -/
def berthOf (b : Byte) : Option BerthId := oneBased 4 b
/-- A line number 1 to 8 (R155). -/
def lineOf (b : Byte) : Option LineId := oneBased 8 b

/-- A number below `n`, as a class, band or event code. -/
def below (n : Nat) (v : Nat) : Option (Fin n) := if h : v < n then some ⟨v, h⟩ else none

/-- A value brought to the nearest end of its range. -/
def clamp (low high v : Nat) : Nat := max low (min high v)

/-- The mode of a LANE SETUP, with its berth for ENTRY (R39, spec/11). -/
def modeOf (mode berth : Byte) : Option Mode :=
  match mode.toNat with
  | 0 => some .absent
  | 1 => some .closed
  | 2 => (berthOf berth).map .entry
  | 3 => some .exit
  | _ => none

/-- The count source of a BERTH SOURCE (R119). -/
def sourceOf (b : Byte) : Option CountSource :=
  match b.toNat with
  | 0 => some .gates
  | 1 => some .tally
  | _ => none

/-- The action of a card entry: 0x01 BLOCK, 0x02 WATCH, 0x08 + k CLASS k (spec/11). -/
def actionOf (b : Byte) : Option CardAction :=
  match b.toNat with
  | 1 => some .block
  | 2 => some .watch
  | n => if 8 ≤ n then (below 8 (n - 8)).map .cls else none

/-- A card number a list may hold: neither 0 nor all ones (R130). -/
def cardInRange (c : CardNo) : Bool := c != 0 && c != BitVec.allOnes 48

/-- A card entry with its fields in range (R130, R132). -/
def cardEntryOf (r : RawCard) : Option CardEntry :=
  if cardInRange r.card then (actionOf r.action).map (⟨r.card, ·⟩) else none

/-- The kind byte of a product (spec/11). -/
def productKindOf (b : Byte) : Option ProductKind :=
  match b.toNat with
  | 1 => some .storedValue
  | 2 => some .pass
  | 3 => some .bundle
  | _ => none

/-- A product with its fields in range; they are checked whatever its valid field says (R131). -/
def productOf (r : RawProduct) : Option Product :=
  match productKindOf r.kind with
  | some kind =>
    if 1 ≤ r.riders.toNat ∧ r.riders.toNat ≤ 6 ∧ r.window.toNat ≤ 240 ∧ r.allowance.toNat ≤ 9999 then
      some ⟨r.flags.getLsbD 0, kind, r.riders.toNat, r.window.toNat, r.allowance.toNat, r.mask⟩
    else none
  | none => none

/-- A fare in range (R131). -/
def fareOf (r : Half) : Option Nat := if r.toNat ≤ 9999 then some r.toNat else none

/-- A yes or no byte. -/
def flagOf (b : Byte) : Option Bool :=
  match b.toNat with
  | 0 => some false
  | 1 => some true
  | _ => none

/-- A class with its fields in range (R131). -/
def classOf (r : RawClass) : Option RiderClass :=
  if r.concession.toNat ≤ 100 then
    (flagOf r.priority).map (⟨r.concession.toNat, r.cap.toNat, ·⟩)
  else none

/-- A boundary with its fields in range (R130). -/
def boundaryOf (r : RawBoundary) : Option Boundary :=
  if r.start.toNat ≤ 1439 then (below 4 r.band.toNat).map (⟨r.start.toNat, ·⟩) else none

/-- The map entry of a LINE SETUP (R155, spec/11). -/
def lineEntryOf (entry parameter options : Byte) : Option LineEntry :=
  match entry.toNat with
  | 0 => some .unused
  | 1 => (below 18 parameter.toNat).map (.output · (options.getLsbD 0))
  | 2 => some .inputRelease
  | 3 => (berthOf parameter).map .inputTally
  | 4 => (berthOf parameter).map .inputHalt
  | _ => none

/-- The clear option of LANE READ and JOURNAL STATUS: bit 0 (spec/11). -/
def clearAsked (option : Byte) : Bool := option.getLsbD 0

end Sys2Proof.Machine
end

