-- ==== Sys2Proof/Machine/Ops.lean ====
section
/-! DEFINITION. Access to the units of the state, saturating counts, the rotation that the poll order and the
arbiter share, and the requests that reach the Journal (spec/08). -/

namespace Sys2Proof.Machine

/-! ### Units -/

/-- One lane unit. -/
def State.lane (s : State) (l : LaneId) : Lane := s.lanes[l]
/-- One lane unit changed. -/
def State.onLane (s : State) (l : LaneId) (f : Lane → Lane) : State :=
  { s with lanes := s.lanes.set l (f (s.lane l)) }
/-- One berth unit. -/
def State.berth (s : State) (b : BerthId) : Berth := s.berths[b]
/-- One berth unit changed. -/
def State.onBerth (s : State) (b : BerthId) (f : Berth → Berth) : State :=
  { s with berths := s.berths.set b (f (s.berth b)) }
/-- One pier line. -/
def State.line (s : State) (i : LineId) : PierLine := s.lines[i]
/-- One pier line changed. -/
def State.onLine (s : State) (i : LineId) (f : PierLine → PierLine) : State :=
  { s with lines := s.lines.set i (f (s.line i)) }
/-- One bank. -/
def State.bank (s : State) : BankId → Bank
  | .a => s.bankA
  | .b => s.bankB
/-- One bank replaced. -/
def State.withBank (s : State) (i : BankId) (k : Bank) : State :=
  match i with
  | .a => { s with bankA := k }
  | .b => { s with bankB := k }
/-- The link state of one lane changed. -/
def State.onLink (s : State) (l : LaneId) (f : Link → Link) : State :=
  s.onLane l fun x => { x with link := f x.link }
/-- The counters of one lane changed. -/
def State.onCounters (s : State) (l : LaneId) (f : LaneCounters → LaneCounters) : State :=
  s.onLane l fun x => { x with counters := f x.counters }

/-- The lanes in ascending number. -/
def allLanes : List LaneId := [0, 1, 2, 3, 4, 5, 6, 7, 8, 9, 10, 11, 12, 13, 14, 15]
/-- The berths in ascending number. -/
def allBerths : List BerthId := [0, 1, 2, 3]
/-- The pier lines in ascending number. -/
def allLines : List LineId := [0, 1, 2, 3, 4, 5, 6, 7]

/-- The same act at every lane, in ascending lane number. -/
def State.eachLane (s : State) (act : State → LaneId → State) : State := allLanes.foldl act s

/-- The lanes above `l` in ascending number, then from the lowest, ending at `l` itself (R1, R42). -/
def rotation (l : LaneId) : List LaneId := allLanes.map fun k => l + 1 + k

/-! ### Saturating counts -/

/-- A count raised by `n` that stops at `top` (spec/00, Conventions). -/
def saturate (top n k : Nat) : Nat := min top (n + k)
/-- The largest value of a two-byte counter. -/
def top16 : Nat := 65535
/-- The largest value of a four-byte counter. -/
def top32 : Nat := 4294967295

/-! ### The Journal (spec/08) -/

/-- Records plus reservations (R144). -/
def Journal.occupancy (j : Journal) : Nat := j.records.length + j.reservations

/-- The position of a kind's counter in the overflow tally (R149, spec/11). -/
def RecordKind.index : RecordKind → Fin 10
  | .admission      => 0
  | .fail           => 1
  | .refused        => 2
  | .recoveredTook  => 3
  | .recoveredRetry => 4
  | .unresolved     => 5
  | .forfeit        => 6
  | .unpaid         => 7
  | .manifest       => 8
  | .activation     => 9

/-- A record as stored now: the next sequence number, and the clock's day and second, or 0 and 0 while the
clock is UNSET (R144). -/
def State.stamp (s : State) (d : Draft) : Record :=
  if s.clock.isSet then ⟨s.journal.next, s.clock.day, s.clock.secs, d⟩ else ⟨s.journal.next, 0, 0, d⟩

/-- Whether storing one record makes a batch (R153). -/
def State.batchFull (s : State) : Bool :=
  s.settings.journalBatch != 0 && decide (s.settings.journalBatch ≤ s.journal.batch + 1)

/-- The batch counter after one record is stored (R153). -/
def State.nextBatch (s : State) : Nat :=
  if s.settings.journalBatch = 0 then s.journal.batch
  else if s.batchFull then 0 else s.journal.batch + 1

/-- A record stored after the newest one (R144), counted toward the batch (R153). -/
def State.store (s : State) (d : Draft) : State :=
  { s with journal := { s.journal with
      records := s.journal.records ++ [s.stamp d]
      next    := s.journal.next + 1
      batch   := s.nextBatch } }.raiseIf s.batchFull .journalBatch

/-- The marks compared after an event that raised the occupancy from `before` (R148). -/
def State.compareMarks (s : State) (before : Nat) : State :=
  (s.raiseIf (decide (before < Config.journalHighMark) && decide (Config.journalHighMark ≤ s.journal.occupancy))
    .journalHigh).raiseIf
    (decide (before < Config.journalCapacity) && decide (Config.journalCapacity ≤ s.journal.occupancy)) .journalFull

/-- A record counted in the overflow tally; its contents are discarded (R144, R149). -/
def State.countOverflow (s : State) (k : RecordKind) : State :=
  { s with journal := { s.journal with
      tally := s.journal.tally.set k.index (saturate top16 s.journal.tally[k.index] 1) } }

/-- The Journal takes a record (R144): into its reserved slot, or into a free slot, or into the tally. -/
def State.record (s : State) (reserved : Bool) (d : Draft) : State :=
  if reserved then
    { s with journal := { s.journal with reservations := s.journal.reservations - 1 } }.store d
  else if s.journal.occupancy < Config.journalCapacity then
    (s.store d).compareMarks s.journal.occupancy
  else
    s.countOverflow d.kind

/-- A reservation is taken (R147). -/
def State.reserve (s : State) : State :=
  { s with journal := { s.journal with
      reservations := s.journal.reservations + 1 } }.compareMarks s.journal.occupancy

/-- No mark. -/
def Marks.clear : Marks := ⟨false, false, false⟩

end Sys2Proof.Machine
end

