-- ==== Sys2Proof/Machine/LaneLink.lean ====
section
/-! DEFINITION. The Lane Link Controller's slots and turns (spec/01): placing frames, choosing the downward
frame of a turn, and what a good answer or a miss does to the slots. -/

namespace Sys2Proof.Machine

/-! ### Placing frames -/

def CommandFrame.isCardWrite : CommandFrame → Bool
  | .cardWrite .. => true
  | .gate => false

/-- A frame placed in a slot is unsent and not stale. -/
def CommandSlot.unsent (f : CommandFrame) : CommandSlot := ⟨f, false, false⟩

/-- A CARD WRITE is placed (R4): over the one present, else into the empty command slot, else into the
pending command. -/
def Link.placeCardWrite (tag : Byte) (card : CardNo) (image : NewImage) (k : Link) : Link :=
  let f : CommandFrame := .cardWrite tag card image
  match k.command with
  | some c =>
    if c.frame.isCardWrite then { k with command := some (.unsent f) } else { k with waiting := some f }
  | none =>
    match k.waiting with
    | some (.cardWrite ..) => { k with waiting := some f }
    | _ => { k with command := some (.unsent f) }

/-- A GATE is asked for (R5). `carried` says whether the turn in progress carried this lane's command slot,
so that a sent frame in it is in flight. -/
def Link.placeGate (carried : Bool) (k : Link) : Link :=
  match k.command with
  | some c =>
    match c.frame with
    | .gate => if carried && c.sent then { k with command := some { c with stale := true } } else k
    | .cardWrite .. => { k with waiting := some .gate }
  | none =>
    match k.waiting with
    | some .gate => k
    | _ => { k with command := some (.unsent .gate) }

/-- A display code is asked for (R6). -/
def Link.placeShow (code : DisplayCode) (k : Link) : Link := { k with display := some ⟨code, false⟩ }

/-- The three slots emptied (R16, R38). -/
def Link.emptySlots (k : Link) : Link := { k with command := none, waiting := none, display := none }

/-- Whether frames are accepted for a lane: a request for an OFFLINE or ABSENT lane is discarded (R13, R16). -/
def Lane.takesFrames (l : Lane) : Bool := l.status == .online && l.mode != .absent

/-- Whether the turn in progress is with this lane and carried its command slot's frame (R5). -/
def State.carriedBy (s : State) (l : LaneId) : Bool :=
  match s.turn with
  | some t => t.lane == l && t.carried == .command
  | none => false

/-- The lane unit asks for a GATE (R5, R13, R16). -/
def State.askGate (s : State) (l : LaneId) : State :=
  if (s.lane l).takesFrames then s.onLink l (.placeGate (s.carriedBy l)) else s

/-- The lane unit asks to show a code (R6, R13, R16). -/
def State.askShow (s : State) (l : LaneId) (code : DisplayCode) : State :=
  if (s.lane l).takesFrames then s.onLink l (.placeShow code) else s

/-- The lane unit asks for a CARD WRITE, with the lane's transaction tag (R4, R13, R16). -/
def State.askCardWrite (s : State) (l : LaneId) (card : CardNo) (image : NewImage) : State :=
  if (s.lane l).takesFrames then s.onLink l fun k => k.placeCardWrite k.tag card image else s

/-! ### Turns -/

/-- The lane is in the poll list (R1). -/
def State.polled (s : State) (l : LaneId) : Bool := (s.lane l).mode != .absent

/-- The lane the next turn is with (R1). -/
def State.nextPolled (s : State) : Option LaneId := (rotation s.lastPolled).find? s.polled

/-- Which slot the downward frame of a turn is taken from (R3). -/
def Link.choose (k : Link) : Carried :=
  match k.command, k.display with
  | some _, _ => .command
  | none, some _ => .display
  | none, none => .empty

/-- The downward frame of a turn as it is sent (R3, R5): a CARD WRITE with the tag of its transaction, a
GATE with the gate order as it stands, and every frame but a CARD WRITE with the lane's tag as it stands. -/
def downFrame (l : LaneId) (x : Lane) : DownFrame :=
  match x.link.command, x.link.display with
  | some ⟨.cardWrite tag card image, _, _⟩, _ => ⟨l, x.link.acked, tag, .cardWrite card image⟩
  | some ⟨.gate, _, _⟩, _ => ⟨l, x.link.acked, x.link.tag, .gate x.gateOrder⟩
  | none, some d => ⟨l, x.link.acked, x.link.tag, .shown d.code⟩
  | none, none => ⟨l, x.link.acked, x.link.tag, .empty⟩

/-- The frame taken from a slot is marked sent (R3). -/
def Link.markSent (c : Carried) (k : Link) : Link :=
  match c with
  | .command => { k with command := k.command.map fun x => { x with sent := true, stale := false } }
  | .display => { k with display := k.display.map fun d => { d with sent := true } }
  | .empty => k

/-- A turn begins with a lane (R2, R3). -/
def State.beginTurn (s : State) (l : LaneId) : State :=
  let x := s.lane l
  { s.onLink l (.markSent x.link.choose) with
    lastPolled := l
    turn := some ⟨l, x.link.choose, downFrame l x, false, false⟩ }

/-- The acknowledgement of a good answer, on the slot the carried frame came from (R7). -/
def Link.acknowledge (c : Carried) (k : Link) : Link :=
  match c with
  | .command =>
    match k.command with
    | some x =>
      if x.sent then
        if x.stale then { k with command := some (.unsent x.frame) }
        else { k with command := k.waiting.map .unsent, waiting := none }
      else k
    | none => k
  | .display =>
    match k.display with
    | some d => if d.sent then { k with display := none } else k
    | none => k
  | .empty => k

/-- A miss acknowledges nothing; a stale mark has no further effect (R8). -/
def Link.missed (k : Link) : Link :=
  { k with command := k.command.map fun x => { x with stale := false } }

end Sys2Proof.Machine
end

