-- ==== Sys2Proof/Machine/Berths.lean ====
section
/-! DEFINITION. The berth units (spec/06): effective capacity, room, the states that follow room, and the
eight requests by which the other blocks reach the place counts. -/

namespace Sys2Proof.Machine

/-! ### Capacity and room -/

/-- E by its formula: the smaller of capacity and gangway limit, less the number aboard, or 0 (R105). -/
def effectiveCapacity (capacity aboard gangway : Nat) : Nat := min capacity gangway - aboard

/-- The gangway limit of a berth. -/
def State.gangway (s : State) (b : BerthId) : Nat := s.settings.gangway[b]

/-- Held plus granted plus passed: the places committed (R106, R118). -/
def Counts.committed (c : Counts) : Nat := c.held + c.granted + c.passed

/-- Room: E less the five counts that take places; it may be negative (R106). -/
def Berth.room (b : Berth) : Int :=
  (b.effective : Int) - ((b.counts.committed + b.counts.unpaid + b.counts.tallied : Nat) : Int)

/-- BOARDING or FULL. -/
def BerthState.takesPassengers : BerthState → Bool
  | .boarding | .full => true
  | _ => false

/-- In BOARDING and FULL the state follows room (R106). -/
def Berth.follow (b : Berth) : Berth :=
  if b.state.takesPassengers then { b with state := if b.room ≤ 0 then .full else .boarding } else b

/-- One event at a berth unit that works room out afresh: the change, then the state that follows room, and
BERTH FULL where the state became FULL from BOARDING (R106). DESIGN CHOICE (log 31): in a control reset too, which
R104 and R173 say keeps the berths' states, a FULL berth whose places come back becomes BOARDING. -/
def State.atBerth (s : State) (i : BerthId) (change : Berth → Berth) : State :=
  let changed := change (s.berth i)
  (s.onBerth i fun _ => changed.follow).raiseIf
    (changed.state == .boarding && changed.follow.state == .full) .berthFull

/-- The counts changed. -/
def Berth.onCounts (b : Berth) (f : Counts → Counts) : Berth := { b with counts := f b.counts }

/-! ### The quiet timer (R122) -/

/-- The quiet timer loaded, or stopped while the quiet unit is 0; either way the last-call mark clears. -/
def Berth.loadQuiet (unit : Nat) (b : Berth) : Berth :=
  { b with quietTimer := if unit = 0 then none else some (5 * unit), lastCall := false }

/-! ### Place requests -/

/-- The answer of a berth to hold N (R112): the first failing check, or none when the places are held. -/
def Berth.holdRefusal (b : Berth) (n : Nat) (priority : Bool) : Option RefusalCode :=
  if !b.state.takesPassengers then some .boardingClosed
  else if b.source != .gates then some .staffBoarding
  else if b.halted then some .halted
  else if (if priority then b.room else b.room - (b.reserve : Int)) < (n : Int) then some .full
  else none

/-- hold N granted (R112). -/
def State.hold (s : State) (i : BerthId) (n : Nat) : State :=
  s.atBerth i (·.onCounts fun c => { c with held := c.held + n })

/-- A refused hold counts one refusal, except in IDLE (R112). -/
def State.countHoldRefusal (s : State) (i : BerthId) : State :=
  s.onBerth i fun b =>
    if b.state = .idle then b else b.onCounts fun c => { c with refusals := saturate top16 c.refusals 1 }

/-- convert N with a charge (R113). In IDLE no count request is applied (R111, log 15). -/
def State.convert (s : State) (i : BerthId) (n charge : Nat) : State :=
  s.atBerth i fun b =>
    if b.state = .idle then b else
      let counted := b.onCounts fun c => { c with
        held       := c.held - n
        granted    := c.granted + n
        admissions := saturate top16 c.admissions 1
        revenue    := saturate top32 c.revenue charge }
      if b.state.takesPassengers then counted.loadQuiet s.settings.quietUnit else counted

/-- release N (R114). In IDLE no count request is applied (log 15). -/
def State.release (s : State) (i : BerthId) (n : Nat) : State :=
  s.atBerth i fun b =>
    if b.state = .idle then b else b.onCounts fun c => { c with held := c.held - n }

/-- pass 1 (R115). -/
def State.pass (s : State) (i : BerthId) : State :=
  s.atBerth i fun b =>
    if b.state = .idle then b else b.onCounts fun c => { c with granted := c.granted - 1, passed := c.passed + 1 }

/-- reverse 1 (R115, R116). -/
def State.reverse (s : State) (i : BerthId) : State :=
  s.atBerth i fun b =>
    if b.state = .idle then b else
      b.onCounts fun c => { c with passed := c.passed - 1, reverse := saturate top16 c.reverse 1 }

/-- unpaid 1 (R116). -/
def State.unpaid (s : State) (i : BerthId) : State :=
  s.atBerth i fun b =>
    if b.state = .idle then b else b.onCounts fun c => { c with unpaid := saturate top16 c.unpaid 1 }

/-- forfeit N (R117): applied in BOARDING, FULL and CLOSED, where credits exist. -/
def State.forfeitPlaces (s : State) (i : BerthId) (n : Nat) : State :=
  s.atBerth i fun b =>
    if b.state = .idle ∨ b.state = .alongside then b else
      b.onCounts fun c => { c with granted := c.granted - n, forfeited := saturate top16 c.forfeited n }

/-- tally 1 (R120): counted while the source is TALLY and the state BOARDING or FULL. -/
def State.tally (s : State) (i : BerthId) : State :=
  s.atBerth i fun b =>
    if b.source == .tally && b.state.takesPassengers then
      b.onCounts fun c => { c with tallied := saturate top16 c.tallied 1 }
    else b

/-! ### The life of a vessel call -/

/-- BERTH ARRIVE taken in IDLE (R107). -/
def Berth.arrive (gangway number capacity aboard reserve : Nat) (band : RouteBand) (b : Berth) : Berth :=
  let c := clamp 0 Config.maxPlaces capacity
  let a := clamp 0 Config.maxPlaces aboard
  let r := clamp 0 Config.maxReserve reserve
  let e := effectiveCapacity c a gangway
  { b with
    state     := .alongside
    vessel    := some ⟨number, c, a, r, band⟩
    effective := e
    reserve   := min r e
    source    := .gates }

/-- E at BERTH CAPACITY: the formula's value, or the committed places where that is below them (R118). -/
def Berth.restatedCapacity (gangway capacity aboard : Nat) (b : Berth) : Nat :=
  max (effectiveCapacity capacity aboard gangway) b.counts.committed

/-- The vessel record and E restated (R118, steps 1 to 4); capacity and aboard already clamped. -/
def Berth.restate (gangway capacity aboard : Nat) (b : Berth) : Berth :=
  let e := b.restatedCapacity gangway capacity aboard
  { b with
    vessel    := b.vessel.map fun v => { v with capacity := capacity, aboard := aboard }
    effective := e
    reserve   := min ((b.vessel.map (·.reserveAsked)).getD 0) e }

/-- Step 5 of the turnover: the vessel record cleared and the berth IDLE (R110). -/
def Berth.clearVessel (b : Berth) : Berth :=
  { b with state := .idle, vessel := none, effective := 0, reserve := 0, source := .gates, quietTimer := none,
           lastCall := false }

/-- Step 4 of the turnover: the open manifest becomes the closed manifest, and every open count 0 (R111). -/
def Berth.closeManifest (b : Berth) : Berth :=
  { b with closed := some ⟨(b.vessel.map (·.number)).getD 0, b.counts⟩, counts := Counts.zero }

/-- The MANIFEST record of a berth's closed manifest (R111, R146). -/
def manifestDraft (i : BerthId) (m : ClosedManifest) : Draft :=
  ⟨.manifest, Marks.clear, none, some i, .manifest m⟩

/-- Steps 4 and 5 of the turnover (R110, R111). -/
def State.finishTurnover (s : State) (i : BerthId) : State :=
  let closed := (s.berth i).closeManifest
  ((s.onBerth i fun _ => closed).record false
      (manifestDraft i (closed.closed.getD ⟨0, Counts.zero⟩))).onBerth i Berth.clearVessel

end Sys2Proof.Machine
end

