-- ==== Sys2Proof/Machine/Recovery.lean ====
section
/-! DEFINITION. The recovery list (spec/05): entries made, replaced and evicted, entries closed UNRESOLVED,
and the records of card writes. -/

namespace Sys2Proof.Machine

/-- The card sequence a write replaces: the new sequence less 1, modulo 65536 (spec/05). -/
def NewImage.oldSequence (i : NewImage) : Half := i.sequence - 1

/-! ### Records of writes and entries -/

/-- The record fields of a WRITING transaction (R86). -/
def writeFields (card : CardNo) (w : CardWrite) : CardFields :=
  ⟨card, w.product.val, w.cls.val, none, w.riders, w.charge, w.image.balance, w.version⟩

/-- A record of a WRITING transaction, with the ORPHAN mark where it is orphaned (R86, R87, R90). -/
def writeDraft (kind : RecordKind) (l : LaneId) (w : CardWrite) (fields : CardFields) : Draft :=
  ⟨kind, ⟨w.watch, w.orphaned, false⟩, some l, some w.berth, .fields fields⟩

/-- A record of a recovery entry (R92, R98). -/
def entryDraft (kind : RecordKind) (l : LaneId) (release : Bool) (e : RecoveryEntry) : Draft :=
  ⟨kind, ⟨e.watch, false, release⟩, some l, some e.berth,
    .fields ⟨e.card, e.product.val, e.cls.val, none, e.riders, e.charge, e.image.balance, e.version⟩⟩

/-! ### The list -/

/-- The entry for a card, if one is present (R91). -/
def State.entryFor (s : State) (card : CardNo) : Option RecoveryEntry := s.recovery.find? (·.card == card)

/-- The entry for a card leaves the list; the entries after it keep their order (R92). -/
def State.removeEntry (s : State) (card : CardNo) : State :=
  { s with recovery := s.recovery.eraseP (·.card == card) }

/-- Closing an entry UNRESOLVED (R92). -/
def State.closeEntry (s : State) (release : Bool) (e : RecoveryEntry) : State :=
  (((s.release e.berth e.riders).record e.reservation (entryDraft .unresolved e.lane release e)).raise
    .recoveryUnresolved).removeEntry e.card

/-- Every entry that `which` picks is closed UNRESOLVED, oldest first (R102). -/
def State.closeEntries (s : State) (release : Bool) (which : RecoveryEntry → Bool) : State :=
  (s.recovery.filter which).foldl (fun t e => t.closeEntry release e) s

/-- The entry made from a WRITING transaction, its timer loaded (R93). -/
def entryFrom (l : LaneId) (card : CardNo) (w : CardWrite) (timer : Nat) : RecoveryEntry :=
  ⟨card, l, w.berth, w.riders, w.charge, w.image, w.product, w.cls, w.watch, w.version, w.reservation, timer⟩

/-- Room is made for a new entry: the entry for the same card is closed (R94), else the oldest of a full
list is (R95). -/
def State.makeWay (s : State) (card : CardNo) : State :=
  match s.entryFor card with
  | some old => s.closeEntry false old
  | none =>
    if Config.maxRecovery ≤ s.recovery.length then
      match s.recovery.head? with
      | some oldest => s.closeEntry false oldest
      | none => s
    else s

/-- An uncertain write is handed to the list (R93, R94, R95). -/
def State.handOver (s : State) (l : LaneId) (card : CardNo) (w : CardWrite) : State :=
  let t := s.makeWay card
  { t with recovery := t.recovery ++ [entryFrom l card w s.settings.recoveryTime] }

end Sys2Proof.Machine
end

