-- ==== Sys2Proof/Machine/Lanes.lean ====
section
/-! DEFINITION. The lane units (spec/02, spec/05): gate order, credits, forfeits, taps, passages, leaf
conditions, the ends of a card write, and the lane reset. -/

namespace Sys2Proof.Machine

/-! ### Credits and the gate order -/

/-- Passage credits: the number in OPEN, else 0 (spec/02). -/
def Leaf.credits : Leaf → Nat
  | .opened n => n
  | _ => 0

def Lane.credits (l : Lane) : Nat := l.leaf.credits

/-- The berth of an ENTRY lane. -/
def Mode.berth? : Mode → Option BerthId
  | .entry b => some b
  | _ => none

/-- ENTRY or CLOSED: the modes that release opens (R19, R161). -/
def Mode.releasable : Mode → Bool
  | .entry _ | .closed => true
  | _ => false

/-- The gate order by R19: the first of its four cases that applies. -/
def wantedGateOrder (release : Bool) (mode : Mode) (leaf : Leaf) : GateOrder :=
  if mode = .exit then .openFree
  else if release && mode.releasable then .openFree
  else match leaf with
    | .opened n => .opened n
    | _ => .shut

/-- The gate order a lane should hold now (R19). -/
def State.wantedOrder (s : State) (l : LaneId) : GateOrder :=
  wantedGateOrder s.releaseActive (s.lane l).mode (s.lane l).leaf

/-- The gate order worked out again, without asking for a GATE. -/
def State.setOrder (s : State) (l : LaneId) : State :=
  s.onLane l fun x => { x with gateOrder := s.wantedOrder l }

/-- The gate order worked out again at the end of an event, and a GATE asked for when it differs (R19). -/
def State.reworkGate (s : State) (l : LaneId) : State :=
  if s.wantedOrder l = (s.lane l).gateOrder then s else (s.setOrder l).askGate l

/-- The gate order worked out again, and a GATE asked for whether or not it differs (R14, R36, R38, R39). -/
def State.renewGate (s : State) (l : LaneId) : State := (s.setOrder l).askGate l

/-! ### Forfeits (R27) -/

/-- The FORFEIT record: lane, berth and the credits forfeited as its riders (R27). -/
def forfeitDraft (l : LaneId) (berth : Option BerthId) (n : Nat) (release : Bool) : Draft :=
  ⟨.forfeit, ⟨false, false, release⟩, some l, berth, .fields { CardFields.zero with riders := n }⟩

/-- N places of a lane forfeited: the berth is told, the counter rises, the record is written (R27). DESIGN
CHOICE (log 30): the counter rises in a control reset too, which R18 and R173 say keeps the lane counters. -/
def State.forfeit (s : State) (l : LaneId) (n : Nat) (release : Bool) : State :=
  let told := match (s.lane l).mode.berth? with
    | some b => s.forfeitPlaces b n
    | none => s
  (told.onCounters l fun c => { c with forfeited := saturate top16 c.forfeited n }).record false
    (forfeitDraft l (s.lane l).mode.berth? n release)

/-- All credits of a lane forfeited; nothing where it has none (R27). The gate order is worked out again by
the event that causes it. -/
def State.forfeitAll (s : State) (l : LaneId) (release : Bool) : State :=
  if (s.lane l).credits = 0 then s
  else (s.onLane l fun x => { x with leaf := .shut, holdTimer := none }).forfeit l (s.lane l).credits release

/-! ### Grants (R25) -/

/-- Riders become credits, or are forfeited at once at a faulted leaf; the berth has converted them. -/
def State.grantCredits (s : State) (l : LaneId) (n : Nat) : State :=
  let counted := s.onCounters l fun c => { c with admissions := saturate top16 c.admissions 1 }
  match (s.lane l).leaf with
  | .fault => counted.forfeit l n false
  | leaf =>
    ((counted.onLane l fun x =>
        { x with leaf := .opened (leaf.credits + n), holdTimer := some s.settings.holdTime }).askShow l .go).reworkGate l

/-! ### Taps (R20, R21) -/

/-- The transaction ends and its record is discarded. -/
def State.endTransaction (s : State) (l : LaneId) : State := s.onLane l fun x => { x with txn := .none }

/-- Whether a tap is latched (R20). -/
def State.latches (s : State) (l : LaneId) : Bool :=
  (s.lane l).mode.berth?.isSome && !s.releaseActive && (s.lane l).txn == .none && (s.lane l).leaf != .fault

/-- The code shown for a tap that is not latched (R21). -/
def untakenTapCode (release : Bool) (l : Lane) : DisplayCode :=
  match l.mode with
  | .exit | .absent => .laneClosed
  | .closed => if release then .freeExit else .laneClosed
  | .entry _ =>
    if release then .freeExit
    else if l.txn != .none then .wait
    else .seeStaff

/-- A TAP handed to the lane unit (R20, R21). -/
def State.takeTap (s : State) (l : LaneId) (image : CardImage) : State :=
  let counted := s.onCounters l fun c => { c with taps := saturate top16 c.taps 1 }
  if s.latches l then
    counted.onLane l fun x => { x with txn := .waiting image, link := { x.link with tag := x.link.tag + 1 } }
  else counted.askShow l (untakenTapCode s.releaseActive (s.lane l))

/-! ### Passages (R28, R29, R30, R34) -/

/-- The UNPAID record (R29). -/
def unpaidDraft (l : LaneId) (b : BerthId) : Draft :=
  ⟨.unpaid, Marks.clear, some l, some b, .fields { CardFields.zero with riders := 1 }⟩

/-- The lane's unpaid counter and the UNPAID PASSAGE flag (R29, R34). -/
def State.countUnpaid (s : State) (l : LaneId) : State :=
  (s.onCounters l fun c => { c with unpaid := saturate top16 c.unpaid 1 }).raise .unpaidPassage

/-- One credit used: the leaf and the hold timer after an IN passage (R29). -/
def Lane.useCredit (holdTime : Nat) (x : Lane) : Lane :=
  if x.credits ≤ 1 then { x with leaf := .shut, holdTimer := none }
  else { x with leaf := .opened (x.credits - 1), holdTimer := some holdTime }

/-- One IN passage outside release (R29, R34). -/
def State.passInward (s : State) (l : LaneId) : State :=
  match (s.lane l).mode with
  | .entry b =>
    if (s.lane l).credits = 0 then ((s.unpaid b).countUnpaid l).record false (unpaidDraft l b)
    else (s.onLane l (.useCredit s.settings.holdTime)).pass b
  | .exit => ({ s with pier := { s.pier with wrongWay := saturate top32 s.pier.wrongWay 1 } }).countUnpaid l
  | .closed => ({ s with pier := { s.pier with unpaid := saturate top32 s.pier.unpaid 1 } }).countUnpaid l
  | .absent => s

/-- One OUT passage outside release (R30, R34). -/
def State.passOutward (s : State) (l : LaneId) : State :=
  match (s.lane l).mode with
  | .entry b => s.reverse b
  | .exit | .closed => { s with pier := { s.pier with exits := saturate top32 s.pier.exits 1 } }
  | .absent => s

/-- A PASSAGE handed to the lane unit (R28). -/
def State.takePassage (s : State) (l : LaneId) (inward outward : Nat) : State :=
  let counted := s.onCounters l fun c => { c with
    inward  := saturate top16 c.inward inward
    outward := saturate top16 c.outward outward }
  if s.releaseActive then counted
  else ((State.passOutward · l)^[outward] ((State.passInward · l)^[inward] counted)).reworkGate l

/-! ### The ends of a card write (R85 to R90) -/

/-- A WRITING transaction that is not orphaned becomes orphaned: its places are released (R90). -/
def State.orphan (s : State) (l : LaneId) : State :=
  match (s.lane l).txn with
  | .writing image w =>
    if w.orphaned then s
    else (s.release w.berth w.riders).onLane l fun x => { x with txn := .writing image { w with orphaned := true } }
  | _ => s

/-- The record kind of a confirmed write (R86). -/
def confirmedKind (w : CardWrite) : RecordKind := if w.retry then .recoveredRetry else .admission

/-- A confirmed write (R86, R90). -/
def State.writeDone (s : State) (l : LaneId) (image : CardImage) (w : CardWrite) : State :=
  let draft := writeDraft (confirmedKind w) l w (writeFields image.card w)
  if w.orphaned then (s.record w.reservation draft).endTransaction l
  else (((s.convert w.berth w.riders w.charge).record w.reservation draft).endTransaction l).grantCredits l w.riders

/-- A write that did not change the card (R87). -/
def State.writeFailed (s : State) (l : LaneId) (image : CardImage) (w : CardWrite) : State :=
  let draft := writeDraft .fail l w { writeFields image.card w with charge := 0, newBalance := image.balance }
  if w.orphaned then (s.record w.reservation draft).endTransaction l
  else (((s.release w.berth w.riders).record w.reservation draft).endTransaction l).askShow l .cardRefused

/-- The UNRESOLVED record of a write (R38, R88, R90). -/
def unresolvedWrite (l : LaneId) (image : CardImage) (w : CardWrite) : Draft :=
  writeDraft .unresolved l w (writeFields image.card w)

/-- A write of unknown outcome (R88, R89). -/
def State.writeUncertain (s : State) (l : LaneId) (image : CardImage) (w : CardWrite) : State :=
  if w.orphaned then (s.record w.reservation (unresolvedWrite l image w)).endTransaction l
  else ((s.handOver l image.card w).endTransaction l).askShow l .cardRefused

/-- A WRITE RESULT handed to the lane unit; one that does not match is ignored (R85). -/
def State.takeWriteResult (s : State) (l : LaneId) (tag : Byte) (card : CardNo) (outcome : WriteOutcome) : State :=
  match (s.lane l).txn with
  | .writing image w =>
    if tag = (s.lane l).link.tag ∧ card = image.card then
      match outcome with
      | .done => s.writeDone l image w
      | .failed => s.writeFailed l image w
      | .uncertain => s.writeUncertain l image w
    else s
  | _ => s

/-! ### Lane resets (R38) -/

/-- A validation of this lane in flight is discarded and the engine becomes FREE (R58). -/
def State.abandon (s : State) (l : LaneId) : State :=
  match s.engine with
  | some v => if v.lane = l then { s with engine := none } else s
  | none => s

/-- What a lane reset does to the lane's transaction, before it becomes NONE (R38). -/
def State.resetTransaction (s : State) (l : LaneId) (reason : ResetReason) : State :=
  match (s.lane l).txn with
  | .none | .waiting _ => s
  | .validating _ => s.abandon l
  | .writing image w =>
    if w.orphaned then s.record w.reservation (unresolvedWrite l image w)
    else if reason = .controlReset then
      (s.release w.berth w.riders).record w.reservation (unresolvedWrite l image w)
    else s.handOver l image.card w

/-- Leaf SHUT unless FAULT, hold timer stopped, slots emptied, the reason noted (R38). -/
def Lane.afterReset (reason : ResetReason) (x : Lane) : Lane :=
  { x with
    leaf := if x.leaf = .fault then .fault else .shut
    holdTimer := none
    link := x.link.emptySlots
    lastReset := reason }

/-- While release is active an ENTRY or CLOSED lane asks to show FREE EXIT (R162; logs 16, 17). -/
def State.showFreeExit (s : State) (l : LaneId) : State :=
  if s.releaseActive && (s.lane l).mode.releasable then s.askShow l .freeExit else s

/-- A lane reset (R38, R162). -/
def State.laneReset (s : State) (l : LaneId) (reason : ResetReason) : State :=
  ((((((s.resetTransaction l reason).endTransaction l).forfeitAll l false).onLane l (.afterReset reason)).renewGate
    l)).showFreeExit l

/-! ### Lane status (R31, R35, R36, R37) -/

/-- A LEAF FAULT (R35). -/
def State.takeLeafFault (s : State) (l : LaneId) : State :=
  if (s.lane l).leaf = .fault then s
  else (((s.forfeitAll l false).onLane l fun x => { x with leaf := .fault }).raise .leafFault).reworkGate l

/-- A LEAF CLEAR (R36). -/
def State.takeLeafClear (s : State) (l : LaneId) : State :=
  if (s.lane l).leaf = .fault then (s.onLane l fun x => { x with leaf := .shut }).renewGate l else s

/-- A LANE STATUS handed to the lane unit (R31). -/
def State.takeStatus (s : State) (l : LaneId) : LaneCondition → State
  | .leafFault => s.takeLeafFault l
  | .leafClear => s.takeLeafClear l
  | .headRestart => s.laneReset l .headRestart

/-! ### The end of a turn (R7 to R16) -/

/-- A new report handed to the lane unit (R10). -/
def State.takeReport (s : State) (l : LaneId) : Report → State
  | .nothing => s
  | .tap image => s.takeTap l image
  | .writeResult tag card outcome => s.takeWriteResult l tag card outcome
  | .passage inward outward => s.takePassage l inward outward
  | .status condition => s.takeStatus l condition

/-- Whether an answer brings a report the device has not taken (R9). -/
def reportIsNew (acked : Option Byte) (number : Byte) (r : Report) : Bool := r != .nothing && acked != some number

/-- An OFFLINE lane is brought back online: steps 1 to 3 of R14, and the display of R162. -/
def State.bringOnline (s : State) (l : LaneId) : State :=
  ((s.onLane l fun x => { x with status := .online, leaf := .shut, txn := .none }).renewGate l).showFreeExit l

/-- A good answer acknowledges the frame the turn carried and sets the miss count to 0 (R7, R11). -/
def State.acknowledge (s : State) (l : LaneId) (c : Carried) : State :=
  s.onLink l fun k => { k.acknowledge c with misses := 0 }

/-- The acknowledged report number becomes the answer's where the report is new (R9). -/
def State.noteReport (s : State) (l : LaneId) (number : Byte) : State :=
  s.onLink l fun k => { k with acked := some number }

/-- The lane of a turn has become ABSENT during it, also where it has been set up again since: of the turn's end
R9 alone applies (R10, R16). -/
def State.leftDuring (s : State) (t : Turn) : Bool := t.absented || (s.lane t.lane).mode == .absent

/-- The turn ends in a good answer (R7, R9, R10, R14, R16). -/
def State.goodAnswer (s : State) (t : Turn) (number : Byte) (r : Report) : State :=
  let l := t.lane
  let fresh := reportIsNew (s.lane l).link.acked number r
  if s.leftDuring t then
    if fresh then s.noteReport l number else s
  else
    let acked := s.acknowledge l t.carried
    let online := if (s.lane l).status = .offline then acked.bringOnline l else acked
    if fresh then (online.noteReport l number).takeReport l r else online

/-- The miss counted (R11): the miss count to at most 8, and the lane's miss counter. -/
def Lane.countMiss (x : Lane) : Lane :=
  { x with
    link := { x.link.missed with misses := saturate 8 x.link.misses 1 }
    counters := { x.counters with misses := saturate top16 x.counters.misses 1 } }

/-- An ONLINE lane goes OFFLINE with an offline reset (R12). -/
def State.goOffline (s : State) (l : LaneId) : State :=
  ((s.onLane l fun x => { x with status := .offline }).raise .laneOffline).laneReset l .offline

/-- The turn ends in a miss (R8, R11, R12, R15, R16). -/
def State.missedTurn (s : State) (t : Turn) : State :=
  let l := t.lane
  if s.leftDuring t then s
  else
    let counted := s.onLane l Lane.countMiss
    if (s.lane l).status = .online ∧ s.settings.missLimit ≤ (counted.lane l).link.misses then counted.goOffline l
    else counted

end Sys2Proof.Machine
end

