-- ==== Sys2Proof/WellFormed.lean ====
section
/-! DEFINITION. Well-formed commands. The operand types already bound every field by its width in the
frame; what is left to check is said here. A field that a rule answers RANGE is well-formed: the device
takes it and answers. -/

namespace Sys2Proof

/-- The number of entries a TABLE WRITE body carries. -/
def TableBody.count : TableBody → Nat
  | .cards es      => es.length
  | .products es   => es.length
  | .fares es      => es.length
  | .classes es    => es.length
  | .timeBands es  => es.length
  | .outOfRange c  => c.toNat

/-- A body that names one of the five tables carries 1 to 32 entries (R129); any other count is spelled
`outOfRange`. -/
def TableBody.wellFormed : TableBody → Bool
  | .outOfRange _ => true
  | b => decide (1 ≤ b.count) && decide (b.count ≤ 32)

/-- The request kinds are 0x80 to 0x9F (spec/11, "Depot frame kinds"). -/
def isRequestKind (kind : Byte) : Bool := decide (0x80 ≤ kind.toNat) && decide (kind.toNat ≤ 0x9F)

/-- The checks an operand's type does not make. -/
def Instr.wellFormed : Instr → Bool
  | .answer bytes             => !bytes.isEmpty
  | .depotUnknownFrame kind _ => !isRequestKind kind
  | .tableWrite _ _ body      => body.wellFormed
  | _                         => true

end Sys2Proof
end

