-- ==== Sys2Proof/Machine/Tables.lean ====
section
/-! DEFINITION. The Table Store (spec/07): the shadow and its read lock, the checks of each table request,
the swap, the taking of a request and its work. The entries of a request stand in the shadow from TABLE_WORK_DONE
on, which also sends the reply (R128; logs 5 and 6); a TABLE ACTIVATE has none and is answered when it is taken
(log 7). -/

namespace Sys2Proof.Machine

/-! ### Active bank, shadow, read lock -/

def BankId.other : BankId → BankId
  | .a => .b
  | .b => .a

/-- The shadow: the bank the pointer does not name, and Bank A while it is none (spec/07). -/
def State.shadow (s : State) : BankId :=
  match s.active with
  | some i => i.other
  | none => .a

/-- The shadow's contents. -/
def State.shadowBank (s : State) : Bank := s.bank s.shadow
/-- The shadow replaced. -/
def State.withShadow (s : State) (k : Bank) : State := s.withBank s.shadow k

/-- The bank the validation in flight references (R43, R44). -/
def State.referencedBank (s : State) : Option BankId :=
  match s.engine with
  | some v => v.bank
  | none => none

/-- The read lock: locked while the shadow is the bank the validation in flight references (R140). -/
def State.readLocked (s : State) : Bool := s.referencedBank == some s.shadow

/-! ### Writing tables (R129, R130, R131) -/

/-- How a TABLE WRITE ended: the result and the number of entries written. -/
structure WriteEnd where
  result  : Result
  written : Nat
  deriving DecidableEq, Repr

/-- Entries written one at a time until the first that fails; `put` gives the table after one entry, or the
result it fails with (R129). -/
def writeEach {τ ρ : Type} (put : τ → Nat → ρ → Except Result τ) : τ → Nat → List ρ → τ × WriteEnd
  | t, n, [] => (t, ⟨.done, n⟩)
  | t, n, r :: rs =>
    match put t n r with
    | .ok t' => writeEach put t' (n + 1) rs
    | .error e => (t, ⟨e, n⟩)

/-- One card entry appended: field ranges, then order, then room (R130). -/
def putCard (cards : List CardEntry) (_n : Nat) (r : RawCard) : Except Result (List CardEntry) :=
  match cardEntryOf r with
  | none => .error .range
  | some e =>
    match cards.getLast? with
    | some last =>
      if e.card < last.card then .error .order
      else if e.card = last.card then .error .duplicate
      else if Config.maxCards ≤ cards.length then .error .capacity
      else .ok (cards ++ [e])
    | none => .ok (cards ++ [e])

/-- One boundary appended: field ranges, then order, then room (R130). -/
def putBoundary (bands : List Boundary) (_n : Nat) (r : RawBoundary) : Except Result (List Boundary) :=
  match boundaryOf r with
  | none => .error .range
  | some e =>
    match bands.getLast? with
    | some last =>
      if e.start ≤ last.start then .error .order
      else if Config.maxBoundaries ≤ bands.length then .error .capacity
      else .ok (bands ++ [e])
    | none => .ok (bands ++ [e])

/-- One entry of an indexed table, `start` plus its place (R131). -/
def putIndexed {ρ α : Type} {k : Nat} (read : ρ → Option α) (start : Nat) (table : Vector α k) (n : Nat) (r : ρ) :
    Except Result (Vector α k) :=
  if h : start + n < k then
    match read r with
    | some e => .ok (table.set (start + n) e h)
    | none => .error .range
  else .error .range

/-- An ordered list appends at its present count or restarts at 0; any other start is ORDER (R130). -/
def writeOrdered {ρ α : Type} (put : List α → Nat → ρ → Except Result (List α)) (start : Nat) (present : List α)
    (es : List ρ) : List α × WriteEnd :=
  if start = 0 then writeEach put [] 0 es
  else if start = present.length then writeEach put present 0 es
  else (present, ⟨.order, 0⟩)

/-- The bank after a TABLE WRITE, and how the write ended (R129). -/
def Bank.write (k : Bank) (start : Nat) : TableBody → Bank × WriteEnd
  | .cards es     => let r := writeOrdered putCard start k.cards es; ({ k with cards := r.1 }, r.2)
  | .timeBands es => let r := writeOrdered putBoundary start k.bands es; ({ k with bands := r.1 }, r.2)
  | .products es  => let r := writeEach (putIndexed productOf start) k.products 0 es; ({ k with products := r.1 }, r.2)
  | .fares es     => let r := writeEach (putIndexed fareOf start) k.fares 0 es; ({ k with fares := r.1 }, r.2)
  | .classes es   => let r := writeEach (putIndexed classOf start) k.classes 0 es; ({ k with classes := r.1 }, r.2)
  | .outOfRange _ => (k, ⟨.range, 0⟩)

/-- TABLE WRITE with the count checked first: 0 entries or more than 32 are RANGE (R129). -/
def Bank.writeChecked (k : Bank) (start : Nat) (body : TableBody) : Bank × WriteEnd :=
  if body.count = 0 ∨ 32 < body.count then (k, ⟨.range, 0⟩) else k.write start body

/-! ### The card status list (R132, R133) -/

/-- The entry placed between the last below it and the first above it (R132). -/
def insertCard (e : CardEntry) : List CardEntry → List CardEntry
  | [] => [e]
  | x :: xs => if e.card < x.card then e :: x :: xs else x :: insertCard e xs

/-- CARD INSERT (R132). -/
def Bank.insert (k : Bank) (r : RawCard) : Bank × Result :=
  match cardEntryOf r with
  | none => (k, .range)
  | some e =>
    if k.cards.any (·.card == e.card) then (k, .duplicate)
    else if Config.maxCards ≤ k.cards.length then (k, .capacity)
    else ({ k with cards := insertCard e k.cards }, .done)

/-- CARD REMOVE (R133). -/
def Bank.remove (k : Bank) (card : CardNo) : Bank × Result :=
  if k.cards.any (·.card == card) then ({ k with cards := k.cards.eraseP (·.card == card) }, .done)
  else (k, .notFound)

/-! ### Activation (R136 to R139) -/

/-- The instant is at or before the time (R67). -/
def Instant.reachedAt (i : Instant) (day secs : Nat) : Bool :=
  decide (i.day < day) || (i.day == day && decide (i.secs ≤ secs))

/-- The number of valid products of a bank. -/
def Bank.validProducts (k : Bank) : Nat := (k.products.toList.filter (·.valid)).length

/-- The shadow is ready for activation with the count the depot expects (R137). -/
def Bank.ready (k : Bank) (expected : Nat) : Bool :=
  k.cards.length == expected && k.validProducts != 0 && !k.bands.isEmpty

/-- The ACTIVATION record (R139). -/
def activationDraft (version : Quad) : Draft :=
  ⟨.activation, Marks.clear, none, none, .fields { CardFields.zero with version := version }⟩

/-- The swap (R139). The read lock follows from the pointer. -/
def State.swap (s : State) : State :=
  (({ s with active := some s.shadow, pendingActivation := none }).raise .activationDone).record false
    (activationDraft s.shadowBank.version)

/-- The clock hands its time to the Table Store: a pending activation whose instant is reached is carried out in that
event (R67, R138). -/
def State.handTime (s : State) : State :=
  match s.pendingActivation with
  | some i => if i.reachedAt s.clock.day s.clock.secs then s.swap else s
  | none => s

/-- A shadow-changing request cancels a pending activation (R136). -/
def State.cancelActivation (s : State) : State :=
  match s.pendingActivation with
  | some _ => ({ s with pendingActivation := none }).raise .activationCancelled
  | none => s

/-- When a TABLE ACTIVATE asks for its swap: at once, or at an instant; none where its fields are out of
range (R137). -/
inductive Timing where
  | now
  | at (i : Instant)
  deriving DecidableEq, Repr

def timingOf (timing : Byte) (day : Half) (secs : Quad) : Option Timing :=
  match timing.toNat with
  | 0 => some .now
  | 1 => if secs.toNat ≤ 86399 then some (.at ⟨day.toNat, secs.toNat⟩) else none
  | _ => none

/-- TABLE ACTIVATE taken (R137, R138). -/
def State.takeActivate (s : State) (version : Quad) (expected : Half) (timing : Byte) (day : Half) (secs : Quad) :
    State × ReplyBody :=
  match timingOf timing day secs with
  | none => (s, .plain .range)
  | some t =>
    if s.shadowBank.ready expected.toNat then
      let versioned := s.withShadow { s.shadowBank with version := version }
      match t with
      | .now => (versioned.swap, .activated true)
      | .at i =>
        if s.clock.isSet && i.reachedAt s.clock.day s.clock.secs then (versioned.swap, .activated true)
        else ({ versioned with pendingActivation := some i }, .activated false)
    else (s, .plain .incomplete)

/-! ### The table request as an operation (R128) -/

/-- The kind of a table request. -/
def TableRequest.kind : TableRequest → RequestKind
  | .write .. => .tableWrite
  | .insert _ => .cardInsert
  | .remove _ => .cardRemove
  | .clear => .tableClear
  | .copy => .tableCopy
  | .activate .. => .tableActivate

/-- The taking of a request: the checks against the shadow as it stands, the outcome, and the cancellation
(R128, R136). A TABLE ACTIVATE takes its whole effect here (R137). -/
def State.takeTable (s : State) : TableRequest → State × ReplyBody
  | .write start body =>
    let r := (s.shadowBank.writeChecked start.toNat body).2
    (s.cancelActivation, .tableWrite r.result r.written (body.count - r.written))
  | .insert entry => (s.cancelActivation, .plain (s.shadowBank.insert entry).2)
  | .remove card => (s.cancelActivation, .plain (s.shadowBank.remove card).2)
  | .clear => (s.cancelActivation, .plain .done)
  | .copy => (s.cancelActivation, .plain (if s.active.isSome then .done else .state))
  | .activate version expected timing day secs => s.takeActivate version expected timing day secs

/-- The work of a request that has been taken: what its outcome names is written into the shadow, which stands
as it stood at the taking (R128, R141, log 5). -/
def State.workTable (s : State) : TableRequest → State
  | .write start body => s.withShadow (s.shadowBank.writeChecked start.toNat body).1
  | .insert entry => s.withShadow (s.shadowBank.insert entry).1
  | .remove card => s.withShadow (s.shadowBank.remove card).1
  | .clear => s.withShadow Bank.empty
  | .copy =>
    match s.active with
    | some i => s.withShadow (s.bank i)
    | none => s
  | .activate .. => s

/-- Whether work is left after the taking of a request: entries to write into the shadow. DEDUCED (log 7): a TABLE
ACTIVATE leaves none (R128, R137). -/
def TableRequest.hasWork : TableRequest → Bool
  | .activate .. => false
  | _ => true

/-- A waiting request is taken in the event that finds the read lock free (R128, R140), and stays in progress while it
has work left; one without any ends here, with the reply that its event is to send. -/
def State.takeWaiting (s : State) : State × List DepotFrame :=
  match s.request with
  | some ⟨tag, request, .waiting⟩ =>
    if s.readLocked then (s, [])
    else
      let r := s.takeTable request
      if request.hasWork then ({ r.1 with request := some ⟨tag, request, .working r.2⟩ }, [])
      else ({ r.1 with request := none }, [.reply request.kind tag r.2])
  | _ => (s, [])

/-- What TABLE STATUS answers of a bank (R142). -/
def Bank.summary (k : Bank) : BankSummary := ⟨k.version, k.cards.length, k.validProducts, k.bands.length⟩

end Sys2Proof.Machine
end

