-- ==== Sys2Proof/Machine/Engine.lean ====
section
/-! DEFINITION. The Request Arbiter and the Validation Engine (spec/03): grants, the ten stages, decisions
and the end of an event that may free the engine. -/

namespace Sys2Proof.Machine

/-! ### Grants (R42, R43) -/

/-- Whether a transaction is WAITING. -/
def Transaction.isWaiting : Transaction → Bool
  | .waiting _ => true
  | _ => false

/-- The validation that begins at a grant (R43). -/
def State.newValidation (s : State) (l : LaneId) (image : CardImage) : Validation where
  lane     := l
  berth    := (s.lane l).mode.berth?.getD 0
  image    := image
  day      := s.clock.day
  secs     := s.clock.secs
  clockSet := s.clock.isSet
  bank     := s.active
  stage    := .service
  cls      := none
  watch    := false
  product  := none
  band     := none
  fare     := none

/-- The engine is granted to a lane whose transaction is WAITING (R42). -/
def State.grant (s : State) (l : LaneId) : State :=
  match (s.lane l).txn with
  | .waiting image =>
    { s.onLane l fun x => { x with txn := .validating image } with
      engine := some (s.newValidation l image)
      lastGranted := l }
  | _ => s

/-- The arbiter's search: the first WAITING lane above the last-granted one (R42). -/
def State.nextWaiting (s : State) : Option LaneId :=
  (rotation s.lastGranted).find? fun l => (s.lane l).txn.isWaiting

/-- The arbiter grants the engine whenever it is FREE and a lane is WAITING (R42). -/
def State.arbitrate (s : State) : State :=
  match s.engine, s.nextWaiting with
  | none, some l => s.grant l
  | _, _ => s

/-- The end of an event that may free the engine or latch a tap and began with the flags `before`: the waiting table
request is taken if the lock is free (R140), then the arbiter searches (R42), and then the NOTICE is sent, where one is
due, before the reply (R167, R168). -/
def State.endEvent (s : State) (before : Half) : State :=
  let r := s.takeWaiting
  (r.1.arbitrate.notify before).send r.2

/-! ### Running a stage (R45) -/

/-- A stage is run for the validation in flight when it is the next one; otherwise the event cannot arise,
and nothing changes (log 2). DESIGN CHOICE (log 34): a stage of an abandoned validation (R58) is no command. -/
def State.atStage (s : State) (stage : Stage) (run : State → Validation → State) : State :=
  match s.engine with
  | some v => if v.stage = stage then (run s v).endEvent s.flags else s
  | none => s

/-- The validation goes on with its results so far. -/
def State.goOn (s : State) (v : Validation) (next : Stage) : State :=
  { s with engine := some { v with stage := next } }

/-- The contents of the referenced bank (R44). -/
def State.bankOf (s : State) (v : Validation) : Option Bank := v.bank.map s.bank

/-- The version of the referenced bank's header, 0 with none (R44). -/
def State.versionOf (s : State) (v : Validation) : Quad :=
  match s.bankOf v with
  | some k => k.version
  | none => 0

/-- The minute recorded at grant (R69). -/
def Validation.now (v : Validation) : Nat := minuteOf v.secs

/-! ### Decisions (R56, R57) -/

/-- Display codes of the refusal codes (R56). -/
def RefusalCode.display : RefusalCode → DisplayCode
  | .blocked | .cardFormat | .unknownProduct | .routeNotCovered | .passExpired => .cardRefused
  | .lowValue => .lowValue
  | .full => .full
  | .boardingClosed => .boardingClosed
  | .staffBoarding | .halted => .seeStaff
  | .passback => .passback
  | .wrongBerth => .wrongBerth
  | .outOfService => .outOfService
  | .laneBusy => .wait

/-- The class a record carries: the entry's at stage 2, else the class after override, else the card's (R57). -/
def Validation.recordClass (v : Validation) (e : Option RecoveryEntry) : ClassId :=
  match e with
  | some e => e.cls
  | none => v.cls.getD v.image.cls

/-- The riders a REFUSED record carries (R57). -/
def Validation.recordRiders (v : Validation) (e : Option RecoveryEntry) : Nat :=
  match e with
  | some e => e.riders
  | none => ((v.product.map (·.riders))).getD 0

/-- The WATCH mark of the decision (R57, log 12). -/
def Validation.recordWatch (v : Validation) (e : Option RecoveryEntry) : Bool :=
  match e with
  | some e => e.watch
  | none => v.watch

/-- The REFUSED record (R57; the bank version at stage 2: log 10). -/
def refusedDraft (v : Validation) (e : Option RecoveryEntry) (version : Quad) (code : RefusalCode) : Draft :=
  ⟨.refused, ⟨v.recordWatch e, false, false⟩, some v.lane, some v.berth,
    .fields ⟨v.image.card, v.image.product.val, (v.recordClass e).val, some code, v.recordRiders e, 0,
      v.image.balance, version⟩⟩

/-- The engine hands over its decision: WATCH CARD for a marked one, the bank reference released, FREE (R57). -/
def State.freeEngine (s : State) (watch : Bool) : State := ({ s with engine := none }).raiseIf watch .watchCard

/-- The lane unit takes a REFUSE decision (R22). -/
def State.takeRefusal (s : State) (l : LaneId) (code : RefusalCode) : State :=
  ((s.endTransaction l).onCounters l fun c => { c with refusals := saturate top16 c.refusals 1 }).askShow l code.display

/-- A refusal (R56): the REFUSED record, the decision at the lane, the engine FREE. `e` is the recovery entry
a refusal at stage 2 found. -/
def State.refuse (s : State) (v : Validation) (e : Option RecoveryEntry) (code : RefusalCode) : State :=
  ((s.record false (refusedDraft v e (s.versionOf v) code)).takeRefusal v.lane code).freeEngine (v.recordWatch e)

/-- The lane unit takes an ADMIT decision: WRITING, and a CARD WRITE is placed (R23). -/
def State.takeAdmission (s : State) (l : LaneId) (image : CardImage) (w : CardWrite) : State :=
  (s.onLane l fun x => { x with txn := .writing image w }).askCardWrite l image.card w.image

/-! ### Stage 1: service (R46) -/

def State.runService (s : State) (v : Validation) : State :=
  if v.bank = none ∨ v.clockSet = false ∨ s.settings.pierNumber = 0 then s.refuse v none .outOfService
  else if !cardInRange v.image.card then s.refuse v none .cardFormat
  else s.goOn v .recoveryMatch

/-! ### Stage 2: recovery match (R47, R97 to R100) -/

/-- The lane's credits plus some riders pass 15 (R53, R98, R99). -/
def State.lacksLaneRoom (s : State) (l : LaneId) (riders : Nat) : Bool :=
  decide (Config.maxCredits < (s.lane l).credits + riders)

/-- The card has taken the write: TOOK (R98, R24). -/
def State.took (s : State) (v : Validation) (e : RecoveryEntry) : State :=
  ((((((s.convert e.berth e.riders e.charge).record e.reservation (entryDraft .recoveredTook v.lane false e)).removeEntry
    e.card).endTransaction v.lane).grantCredits v.lane e.riders)).freeEngine e.watch

/-- The WRITING transaction of a retry: the entry's fields, and the write timer loaded anew (R99). -/
def retryWrite (e : RecoveryEntry) (writeTime : Nat) : CardWrite :=
  ⟨e.berth, e.riders, e.charge, e.image, e.reservation, false, writeTime, true, e.product, e.cls, e.watch, e.version⟩

/-- The card has not taken the write: ADMIT as a retry (R99). -/
def State.retry (s : State) (v : Validation) (e : RecoveryEntry) : State :=
  ((s.removeEntry e.card).takeAdmission v.lane v.image (retryWrite e s.settings.writeTime)).freeEngine e.watch

/-- An entry found for the card is resolved in the same event (R97). -/
def State.resolve (s : State) (v : Validation) (e : RecoveryEntry) : State :=
  if v.berth ≠ e.berth then s.refuse v (some e) .wrongBerth
  else if v.image.sequence = e.image.oldSequence + 1 then
    if s.lacksLaneRoom v.lane e.riders then s.refuse v (some e) .laneBusy else s.took v e
  else if v.image.sequence = e.image.oldSequence then
    if s.lacksLaneRoom v.lane e.riders then s.refuse v (some e) .laneBusy else s.retry v e
  else (s.closeEntry false e).goOn v .cardStatus

def State.runRecoveryMatch (s : State) (v : Validation) : State :=
  match s.entryFor v.image.card with
  | some e => s.resolve v e
  | none => s.goOn v .cardStatus

/-! ### Stage 3: card status list (R48) -/

/-- The entry of a card in a list (R48: the search of a strictly ascending list). -/
def findCard (cards : List CardEntry) (card : CardNo) : Option CardEntry := cards.find? (·.card == card)

def State.runCardStatus (s : State) (v : Validation) : State :=
  match s.bankOf v with
  | none => s
  | some k =>
    match findCard k.cards v.image.card with
    | some ⟨_, .block⟩ => s.refuse { v with cls := some v.image.cls } none .blocked
    | some ⟨_, .cls c⟩ => s.goOn { v with cls := some c } .product
    | some ⟨_, .watch⟩ => s.goOn { v with cls := some v.image.cls, watch := true } .product
    | none => s.goOn { v with cls := some v.image.cls } .product

/-! ### Stage 4: product (R49) -/

/-- The route mask includes a band. -/
def Product.covers (p : Product) (b : RouteBand) : Bool := p.mask.getLsbD b.val

/-- Checks 2 to 4 of stage 4, for a valid product (R49); `band` is none at an IDLE berth. DESIGN CHOICE (log 37): the
check of the route mask is not made at an IDLE berth for an empty mask either, by R49 and against R131. -/
def Product.refusal (p : Product) (band : Option RouteBand) (image : CardImage) (today : Nat) : Option RefusalCode :=
  if (band.map p.covers).getD true = false then some .routeNotCovered
  else if p.kind = .pass ∧ image.passExpiry < today then some .passExpired
  else if p.kind = .bundle ∧ image.trips < p.riders then some .lowValue
  else none

def State.runProduct (s : State) (v : Validation) : State :=
  match s.bankOf v with
  | none => s
  | some k =>
    let p := k.products[v.image.product]
    if !p.valid then s.refuse v none .unknownProduct
    else
      let band := (s.berth v.berth).vessel.map (·.band)
      let found := { v with product := some p, band := band }
      match p.refusal band v.image v.day with
      | some code => s.refuse found none code
      | none => s.goOn found .passback

/-! ### Stage 5: passback (R50) -/

/-- The card boarded at this pier within the passback window (R50, R70). -/
def State.isPassback (s : State) (v : Validation) : Bool :=
  v.image.lastPier == s.settings.pierNumber && inWindow v.image v.day v.now s.settings.passback

def State.runPassback (s : State) (v : Validation) : State :=
  match v.product with
  | none => s
  | some p =>
    if p.riders = 1 ∧ s.settings.passback ≠ 0 ∧ s.isPassback v = true then s.refuse v none .passback
    else s.goOn v .berthState

/-! ### Stage 6: berth state (R51) -/

/-- The first failing check of stage 6. -/
def Berth.entryRefusal (b : Berth) : Option RefusalCode :=
  if !b.state.takesPassengers then some .boardingClosed
  else if b.source != .gates then some .staffBoarding
  else if b.halted then some .halted
  else none

def State.runBerthState (s : State) (v : Validation) : State :=
  match (s.berth v.berth).entryRefusal with
  | some code => s.refuse v none code
  | none => s.goOn v .fare

/-! ### Stage 7: fare (R52) -/

/-- The route band the fare is read at: as stage 4 read it, else a free value (log 8). -/
def State.fareBand (s : State) (v : Validation) : RouteBand := v.band.getD (Config.unreadRouteBand s.freeCount)

/-- The time band of now, or a free value for an empty list (R71, R72, log 9). -/
def State.fareTime (s : State) (v : Validation) (k : Bank) : TimeBand :=
  (timeBandAt k.bands v.now).getD (Config.emptyListBand s.freeCount)

/-- The inputs of the fare computation (spec/04, inputs). -/
def State.fareInput (s : State) (v : Validation) (k : Bank) (p : Product) : FareInput where
  base       := k.fares[fareIndex (s.fareBand v) (s.fareTime v k)]
  product    := p
  concession := k.classes[v.cls.getD v.image.cls].concession
  cap        := k.classes[v.cls.getD v.image.cls].cap
  overdraft  := s.settings.overdraft
  pier       := s.settings.pierNumber
  today      := v.day
  now        := v.now

/-- A free value was read: the next one is another (log 20). -/
def State.countFree (s : State) (used : Bool) : State :=
  if used then { s with freeCount := s.freeCount + 1 } else s

def State.runFare (s : State) (v : Validation) : State :=
  match s.bankOf v, v.product with
  | some k, some p =>
    let t := s.countFree (p.kind == .storedValue && (v.band.isNone || k.bands.isEmpty))
    match computeFare (s.fareInput v k p) v.image with
    | none => t.refuse v none .lowValue
    | some f => t.goOn { v with fare := some f } .laneRoom
  | _, _ => s

/-! ### Stage 8: lane room (R53) -/

def State.runLaneRoom (s : State) (v : Validation) : State :=
  match v.product with
  | none => s
  | some p =>
    if s.lacksLaneRoom v.lane p.riders then s.refuse v none .laneBusy else s.goOn v .decision

/-! ### Stages 9 and 10: the decision event (R54, R55) -/

/-- Stage 9 fails: a charge, and no room in the journal (R54). -/
def State.lacksJournalRoom (s : State) (charge : Nat) : Bool :=
  decide (0 < charge) && decide (Config.journalCapacity ≤ s.journal.occupancy)

/-- Whether the class after override is a priority class in the referenced bank (R55). -/
def Validation.priority (v : Validation) (k : Bank) : Bool := k.classes[v.cls.getD v.image.cls].priority

/-- The WRITING transaction of a new admission (R23, R57). -/
def State.newWrite (s : State) (v : Validation) (p : Product) (charge : Nat) (image : NewImage) : CardWrite :=
  ⟨v.berth, p.riders, charge, image, decide (0 < charge), false, s.settings.writeTime, false, v.image.product,
    v.cls.getD v.image.cls, v.watch, s.versionOf v⟩

/-- The places are held: the reservation of a charge is taken, and the decision is ADMIT (R54, R55). -/
def State.admission (s : State) (v : Validation) (p : Product) (charge : Nat) (image : NewImage) : State :=
  let held := s.hold v.berth p.riders
  let reserved := if 0 < charge then held.reserve else held
  (reserved.takeAdmission v.lane v.image (s.newWrite v p charge image)).freeEngine v.watch

def State.runDecision (s : State) (v : Validation) : State :=
  match s.bankOf v, v.product, v.fare with
  | some k, some p, some (charge, image) =>
    if s.lacksJournalRoom charge then s.refuse v none .outOfService
    else match (s.berth v.berth).holdRefusal p.riders (v.priority k) with
      | some code => (s.countHoldRefusal v.berth).refuse v none code
      | none => s.admission v p charge image
  | _, _, _ => s

end Sys2Proof.Machine
end

