-- ==== Sys2Proof/Machine/PierLines.lean ====
section
/-! DEFINITION. Pier lines and emergency release (spec/09): input functions, output events, the start and
the end of release. -/

namespace Sys2Proof.Machine

/-! ### Emergency release (R160 to R163) -/

/-- Step 1: modes saved. Step 2: a WAITING or VALIDATING transaction becomes NONE (R161). -/
def Lane.enterRelease (x : Lane) : Lane :=
  { x with
    savedMode := x.mode
    txn := match x.txn with
      | .waiting _ | .validating _ => .none
      | t => t }

/-- Step 6 at one lane: the gate order worked out again, and FREE EXIT at ENTRY and CLOSED lanes (R161). -/
def State.openGate (s : State) (l : LaneId) : State := (s.reworkGate l).showFreeExit l

/-- Release becomes active (R161). -/
def State.releaseBegins (s : State) : State :=
  let dropped := { s.eachLane fun t l => t.onLane l Lane.enterRelease with engine := none }
  let emptied := ((dropped.eachLane fun t l => t.forfeitAll l true).eachLane State.orphan).closeEntries true fun _ => true
  (({ emptied with releaseActive := true }).eachLane State.openGate).raise .releaseChange

/-- Steps 1 and 2 at one lane: the saved mode taken, the leaf SHUT (R163). -/
def Lane.leaveRelease (x : Lane) : Lane := { x with mode := x.savedMode, leaf := .shut }

/-- Step 4 at one lane: WAIT at an ENTRY lane, LANE CLOSED at a CLOSED one (R163). -/
def State.showAfterRelease (s : State) (l : LaneId) : State :=
  match (s.lane l).mode with
  | .entry _ => s.askShow l .wait
  | .closed => s.askShow l .laneClosed
  | _ => s

/-- Release becomes inactive (R163). -/
def State.releaseEnds (s : State) : State :=
  let restored := { s.eachLane fun t l => t.onLane l Lane.leaveRelease with releaseActive := false }
  ((restored.eachLane State.renewGate).eachLane State.showAfterRelease).raise .releaseChange

/-- Release Control works out whether release is active after a change of a source (R160). -/
def State.workOutRelease (s : State) : State :=
  if (s.frameSource || s.lineSource) && !s.releaseActive then s.releaseBegins
  else if !(s.frameSource || s.lineSource) && s.releaseActive then s.releaseEnds
  else s

/-! ### Input functions (R157) -/

/-- A line read for a function and standing low. -/
def PierLine.pulls (x : PierLine) (e : LineEntry) : Bool := x.entry == e && x.debounced == .low

/-- The halt condition of a berth (R157). -/
def State.haltCondition (s : State) (b : BerthId) : Bool := allLines.any fun i => (s.line i).pulls (.inputHalt b)

/-- The line release source by its lines (R157). -/
def State.releaseLineLow (s : State) : Bool := allLines.any fun i => (s.line i).pulls .inputRelease

/-- Each berth is told its halt condition (R121, R157). -/
def State.tellHalts (s : State) : State :=
  allBerths.foldl (fun t b => t.onBerth b fun x => { x with halted := s.haltCondition b }) s

/-- After a change of a line or its entry: the halt flags follow, and where the line release source changes,
Release Control is told (R155, R157, R160). -/
def State.followLines (s : State) : State :=
  let told := s.tellHalts
  if told.lineSource = told.releaseLineLow then told
  else ({ told with lineSource := told.releaseLineLow }).workOutRelease

/-! ### Levels (R155, R156) -/

def LineEntry.isOutput : LineEntry → Bool
  | .output .. => true
  | _ => false

/-- A 20 ms measure is in progress: the present level differs from the debounced one, at a line that is no
OUTPUT (R156). -/
def PierLine.measuring (x : PierLine) : Bool := !x.entry.isOutput && x.level != x.debounced

/-- A line's entry replaced; at an OUTPUT the debounced level is held at high, and a line that stops being
one starts from high (R155, R156). -/
def PierLine.remap (e : LineEntry) (x : PierLine) : PierLine :=
  { x with entry := e, debounced := if e.isOutput || x.entry.isOutput then .high else x.debounced }

/-- The tally pulse of a line that has just fallen (R157). -/
def State.pulse (s : State) (i : LineId) : State :=
  match (s.line i).entry with
  | .inputTally b => if (s.line i).debounced = .low then s.tally b else s
  | _ => s

/-! ### Output events (R158) -/

/-- The device is out of service (R158, R174). -/
def State.outOfService (s : State) : Bool :=
  s.active.isNone || !s.clock.isSet || s.settings.pierNumber == 0

/-- Whether an output event is active (R158). -/
def State.outputActive (s : State) (e : Fin 18) : Bool :=
  if h : e.val < 4 then (s.berth ⟨e.val, h⟩).state == .full
  else if h : e.val < 8 then (s.berth ⟨e.val - 4, by omega⟩).state.takesPassengers
  else if h : e.val < 12 then (s.berth ⟨e.val - 8, by omega⟩).lastCall
  else if e.val = 12 then s.releaseActive
  else if e.val = 13 then s.flagSet .unpaidPassage
  else if e.val = 14 then s.depotLost
  else if e.val = 15 then s.flagSet .journalHigh
  else if e.val = 16 then s.outOfService
  else s.flagSet .watchCard

/-- Whether the device drives a line low: an OUTPUT follows its event, or its opposite with invert (R158). -/
def State.drivenLow (s : State) (i : LineId) : Bool :=
  match (s.line i).entry with
  | .output e invert => s.outputActive e != invert
  | _ => false

/-- What LINE READ answers of a line (R159). -/
def State.lineReport (s : State) (i : LineId) : LineReport := ⟨(s.line i).entry, (s.line i).debounced, s.drivenLow i⟩

end Sys2Proof.Machine
end

