-- ==== Sys2Proof/Machine/Depot.lean ====
section
/-! DEFINITION. The Depot Link Controller (spec/10): taking a request and replying, the silence timer, the
settings, and the control reset. -/

namespace Sys2Proof.Machine

/-! ### Requests and replies (R166, R167, R170) -/

/-- A good frame: the silence state becomes quiet, and the silence timer is loaded unless the setting is 0
(R170). -/
def State.goodFrame (s : State) : State :=
  { s with
    depotLost := false
    silenceTimer := if s.settings.depotSilence = 0 then s.silenceTimer else some s.settings.depotSilence }

/-- A reply with the request's tag (R167). -/
def State.reply (s : State) (kind : RequestKind) (tag : Byte) (body : ReplyBody) : State :=
  s.transmit (.reply kind tag body)

/-- A request that its owner takes in the event of its arrival: answered BUSY while a request is in progress,
else handed to its owner, the event ended with its NOTICE, and then answered (R166, R167, R168). -/
def State.answer (s : State) (kind : RequestKind) (tag : Byte) (owner : State → State × ReplyBody) : State :=
  let heard := s.goodFrame
  match heard.request with
  | some _ => heard.reply kind tag (.plain .busy)
  | none =>
    let r := owner heard
    (r.1.notify s.flags).reply kind tag r.2

/-- A table request: answered BUSY while a request is in progress, else the request in progress, taken at
once unless the read lock is locked, and answered with its taking where no work is left (R128, R166, log 7). -/
def State.arrive (s : State) (tag : Byte) (request : TableRequest) : State :=
  let heard := s.goodFrame
  match heard.request with
  | some _ => heard.reply request.kind tag (.plain .busy)
  | none =>
    let r := ({ heard with request := some ⟨tag, request, .waiting⟩ }).takeWaiting
    (r.1.notify s.flags).send r.2

/-- A read is answered from the state as it stands and changes nothing. -/
def readOnly (body : State → ReplyBody) (s : State) : State × ReplyBody := (s, body s)

/-- An owner whose unit number is out of range answers RANGE; otherwise the owner named takes the request. -/
def inRange {α : Type} (unit : Option α) (owner : α → State → State × ReplyBody) (s : State) : State × ReplyBody :=
  match unit with
  | some x => owner x s
  | none => (s, .plain .range)

/-! ### Settings (R171, R172) -/

/-- The settings that SETTING WRITE can write. -/
inductive SettingName where
  | pierNumber | holdTime | writeTime | recoveryTime | passback | overdraft | quietUnit | depotSilence
  | journalBatch | missLimit | gangway (berth : BerthId) | mask | keep
  deriving DecidableEq, Repr

/-- The setting a code names (spec/11); the line map and every code not listed are out of range (R171). -/
def settingOf (setting berth : Byte) : Option SettingName :=
  match setting.toNat with
  | 0x01 => some .pierNumber
  | 0x02 => some .holdTime
  | 0x03 => some .writeTime
  | 0x04 => some .recoveryTime
  | 0x05 => some .passback
  | 0x06 => some .overdraft
  | 0x07 => some .quietUnit
  | 0x08 => some .depotSilence
  | 0x09 => some .journalBatch
  | 0x0A => some .missLimit
  | 0x0B => (berthOf berth).map .gangway
  | 0x0C => some .mask
  | 0x0D => some .keep
  | _ => none

/-- The value a setting takes: clamped to its range, or none for a keep-settings value other than off or on
(R171). -/
def SettingName.applied (n : SettingName) (value : Nat) : Option Nat :=
  match n with
  | .pierNumber | .quietUnit | .depotSilence | .journalBatch => some (clamp 0 255 value)
  | .holdTime => some (clamp 2 30 value)
  | .writeTime => some (clamp 1 5 value)
  | .recoveryTime => some (clamp 5 60 value)
  | .passback => some (clamp 0 30 value)
  | .overdraft => some (clamp 0 500 value)
  | .missLimit => some (clamp 1 8 value)
  | .gangway _ => some (clamp 0 Config.maxPlaces value)
  | .mask => some value
  | .keep => if value ≤ 1 then some value else none

/-- One setting replaced by its applied value. -/
def Settings.put (x : Settings) (n : SettingName) (v : Nat) : Settings :=
  match n with
  | .pierNumber => { x with pierNumber := v }
  | .holdTime => { x with holdTime := v }
  | .writeTime => { x with writeTime := v }
  | .recoveryTime => { x with recoveryTime := v }
  | .passback => { x with passback := v }
  | .overdraft => { x with overdraft := v }
  | .quietUnit => { x with quietUnit := v }
  | .depotSilence => { x with depotSilence := v }
  | .journalBatch => { x with journalBatch := v }
  | .missLimit => { x with missLimit := v }
  | .gangway b => { x with gangway := x.gangway.set b v }
  | .mask => { x with mask := BitVec.ofNat 16 v }
  | .keep => { x with keep := v == 1 }

/-- The silence timer after a write of the depot silence setting: loaded with the new period, or stopped with
the silence state quiet at 0 (R170). -/
def State.reloadSilence (s : State) : State :=
  if s.settings.depotSilence = 0 then { s with silenceTimer := none, depotLost := false }
  else { s with silenceTimer := some s.settings.depotSilence }

/-- A mask mark raised from 0 to 1 while its flag is set produces a NOTICE in the same event (R169). -/
def State.notifyUnmasked (s : State) (before : Half) : State :=
  if (s.settings.mask &&& ~~~before &&& s.flags) != 0 then s.transmit (.notice s.flags) else s

/-- A setting takes its applied value, with the effects that come at once (R172). -/
def State.putSetting (s : State) (n : SettingName) (v : Nat) : State :=
  let written := { s with settings := s.settings.put n v }
  match n with
  | .depotSilence => written.reloadSilence
  | .mask => written.notifyUnmasked s.settings.mask
  | _ => written

/-- The berth byte of the reply: the berth of a gangway limit, else zero (R178, log 21). -/
def SettingName.berthByte (n : SettingName) (berth : Byte) : Byte :=
  match n with
  | .gangway _ => berth
  | _ => 0

/-- SETTING WRITE taken (R171). -/
def takeSettingWrite (setting berth : Byte) (value : Half) (s : State) : State × ReplyBody :=
  match settingOf setting berth with
  | none => (s, .plain .range)
  | some n =>
    match n.applied value.toNat with
    | none => (s, .plain .range)
    | some v => (s.putSetting n v, .settingApplied setting (n.berthByte berth) v)

/-- Every setting at its default, the line map included (R172, R173 step 5). The flags are clear here, so the
default mask raises no mark over a set flag (R169). -/
def State.defaultSettings (s : State) : State :=
  (allLines.foldl (fun (t : State) i => t.onLine i (.remap .unused)) { s with settings := Settings.defaults }).reloadSilence.followLines

/-! ### Control reset (R173) -/

/-- Steps 1 to 3: every lane reset, the validation abandoned, every entry closed. -/
def State.endEverything (s : State) : State :=
  ({ s.eachLane fun t l => t.laneReset l .controlReset with engine := none }).closeEntries false fun _ => true

/-- Steps 4 and 5: the flags cleared, and the settings at their defaults unless they are kept. -/
def State.clearAndDefault (s : State) : State :=
  let cleared := { s with flags := 0 }
  if cleared.settings.keep then cleared else cleared.defaultSettings

/-- The whole control reset, step 6 last (R173). -/
def State.controlReset (s : State) : State :=
  ({ s.endEverything.clearAndDefault with frameSource := false }).workOutRelease.arbitrate

end Sys2Proof.Machine
end

