-- ==== Sys2Proof/Machine/BerthCommands.lean ====
section
/-! DEFINITION. The berth requests (spec/06). A berth number outside 1 to 4 is answered RANGE, whatever the
request is. -/

namespace Sys2Proof.Machine

/-- BERTH ARRIVE taken by a berth (R107). -/
def takeArrive (vessel capacity aboard : Half) (reserve band : Byte) (b : BerthId) (s : State) : State × ReplyBody :=
  match below 8 band.toNat with
  | none => (s, .plain .range)
  | some route =>
    if (s.berth b).state = .idle then
      let arrived := (s.berth b).arrive (s.gangway b) vessel.toNat capacity.toNat aboard.toNat reserve.toNat route
      (s.onBerth b fun _ => arrived,
        .arrived (clamp 0 Config.maxPlaces capacity.toNat) (clamp 0 Config.maxPlaces aboard.toNat)
          (clamp 0 Config.maxReserve reserve.toNat) arrived.effective)
    else (s, .plain .state)

/-- BERTH_ARRIVE (R107). -/
def execBerthArrive (tag berth : Byte) (vessel capacity aboard : Half) (reserve band : Byte) (s : State) :
    Host.Outcome State Fault Refusal :=
  .next (s.answer .berthArrive tag (inRange (berthOf berth) (takeArrive vessel capacity aboard reserve band)))

/-- BERTH OPEN taken by a berth (R108): BOARDING, or FULL where room is 0 or less. -/
def takeOpen (b : BerthId) (s : State) : State × ReplyBody :=
  if (s.berth b).state = .alongside then
    (s.atBerth b fun x => { x with state := .boarding }.loadQuiet s.settings.quietUnit, .plain .done)
  else (s, .plain .state)

/-- BERTH_OPEN (R108). -/
def execBerthOpen (tag berth : Byte) (s : State) : Host.Outcome State Fault Refusal :=
  .next (s.answer .berthOpen tag (inRange (berthOf berth) takeOpen))

/-- BERTH CLOSE taken by a berth (R109). -/
def takeClose (b : BerthId) (s : State) : State × ReplyBody :=
  if (s.berth b).state.takesPassengers then
    (s.onBerth b fun x => { x with state := .closed, quietTimer := none, lastCall := false }, .plain .done)
  else (s, .plain .state)

/-- BERTH_CLOSE (R109). -/
def execBerthClose (tag berth : Byte) (s : State) : Host.Outcome State Fault Refusal :=
  .next (s.answer .berthClose tag (inRange (berthOf berth) takeClose))

/-- Step 1 of the turnover at one lane: a lane of the berth forfeits its credits (R110). -/
def State.turnoverForfeit (b : BerthId) (s : State) (l : LaneId) : State :=
  if (s.lane l).mode = .entry b then (s.forfeitAll l false).reworkGate l else s

/-- Step 2 of the turnover at one lane: a write whose berth this is becomes orphaned (R110). -/
def State.turnoverOrphan (b : BerthId) (s : State) (l : LaneId) : State :=
  match (s.lane l).txn with
  | .writing _ w => if w.berth = b then s.orphan l else s
  | _ => s

/-- The turnover (R110, R111). -/
def State.turnover (s : State) (b : BerthId) : State :=
  (((s.eachLane (State.turnoverForfeit b)).eachLane (State.turnoverOrphan b)).closeEntries false
    (·.berth == b)).finishTurnover b

/-- BERTH DEPART taken by a berth (R110). -/
def takeDepart (b : BerthId) (s : State) : State × ReplyBody :=
  if (s.berth b).state = .idle then (s, .plain .state) else (s.turnover b, .plain .done)

/-- BERTH_DEPART (R110). -/
def execBerthDepart (tag berth : Byte) (s : State) : Host.Outcome State Fault Refusal :=
  .next (s.answer .berthDepart tag (inRange (berthOf berth) takeDepart))

/-- BERTH CAPACITY taken by a berth (R118). -/
def takeCapacity (capacity aboard : Half) (b : BerthId) (s : State) : State × ReplyBody :=
  if (s.berth b).state = .idle then (s, .plain .state)
  else
    let c := clamp 0 Config.maxPlaces capacity.toNat
    let a := clamp 0 Config.maxPlaces aboard.toNat
    ((s.raiseIf (decide (effectiveCapacity c a (s.gangway b) < (s.berth b).counts.committed)) .capacityClamped).atBerth b
        (.restate (s.gangway b) c a),
      .recapacitated c a ((s.berth b).restatedCapacity (s.gangway b) c a))

/-- BERTH_CAPACITY (R118). -/
def execBerthCapacity (tag berth : Byte) (capacity aboard : Half) (s : State) : Host.Outcome State Fault Refusal :=
  .next (s.answer .berthCapacity tag (inRange (berthOf berth) (takeCapacity capacity aboard)))

/-- BERTH SOURCE taken by a berth (R119). -/
def takeSource (source : Byte) (b : BerthId) (s : State) : State × ReplyBody :=
  match sourceOf source with
  | none => (s, .plain .range)
  | some x =>
    if (s.berth b).state = .idle ∨ (s.berth b).state = .closed then (s, .plain .state)
    else (s.onBerth b fun y => { y with source := x }, .plain .done)

/-- BERTH_SOURCE (R119). -/
def execBerthSource (tag berth source : Byte) (s : State) : Host.Outcome State Fault Refusal :=
  .next (s.answer .berthSource tag (inRange (berthOf berth) (takeSource source)))

/-- BERTH_READ (R124). -/
def execBerthRead (tag berth : Byte) (s : State) : Host.Outcome State Fault Refusal :=
  .next (s.answer .berthRead tag (inRange (berthOf berth) fun b => readOnly fun t => .berth (t.berth b)))

end Sys2Proof.Machine
end

