-- ==== Sys2Proof/Machine/DepotCommands.lean ====
section
/-! DEFINITION. Power-on, the depot frames that are no request, and the requests of the Service Clock and of
the Depot Link Controller (spec/04, spec/10). -/

namespace Sys2Proof.Machine

/-- The device at power-on: every piece of state at its power-on value (R174). The levels present from
outside are not the device's (log 13); the counter of free values goes on (log 20). -/
def State.powerOn (s : State) : State :=
  { State.reset with
    lines := s.lines.map fun x => { PierLine.powerOn with level := x.level }
    freeCount := s.freeCount
    pending := s.pending }

/-- POWER_ON (R174). -/
def execPowerOn (s : State) : Host.Outcome State Fault Refusal := .next s.powerOn

/-- DEPOT_BAD_FRAME (R166, R170): dropped, with no reply and no load of the silence timer. -/
def execDepotBadFrame (s : State) : Host.Outcome State Fault Refusal := .next s

/-- DEPOT_UNKNOWN_FRAME (R166): a good frame, answered UNKNOWN with the kind byte received. -/
def execDepotUnknownFrame (kind tag : Byte) (s : State) : Host.Outcome State Fault Refusal :=
  .next (s.goodFrame.transmit (.unknown tag kind))

/-- The clock set to a day and applied seconds: SET and running (R65). -/
def State.setClock (s : State) (day secs : Nat) : State := { s with clock := ⟨true, day, secs, true⟩ }

/-- CLOCK SET taken (R65, R67). DESIGN CHOICE (log 33): an advance that the set discards is no command, so nothing in
the queue is discarded. -/
def takeClockSet (day : Half) (secs : Quad) (s : State) : State × ReplyBody :=
  let applied := min secs.toNat (Config.secondsPerDay - 1)
  ((s.setClock day.toNat applied).handTime, .clockApplied day.toNat applied)

/-- CLOCK_SET (R65). -/
def execClockSet (tag : Byte) (day : Half) (secs : Quad) (s : State) : Host.Outcome State Fault Refusal :=
  .next (s.answer .clockSet tag (takeClockSet day secs))

/-- CLOCK_READ (R66). -/
def execClockRead (tag : Byte) (s : State) : Host.Outcome State Fault Refusal :=
  .next (s.answer .clockRead tag (readOnly fun t => .clock t.clock.isSet t.clock.day t.clock.secs))

/-- SETTING_WRITE (R171, R172). -/
def execSettingWrite (tag setting berth : Byte) (value : Half) (s : State) : Host.Outcome State Fault Refusal :=
  .next (s.answer .settingWrite tag (takeSettingWrite setting berth value))

/-- SETTING_READ (R171). -/
def execSettingRead (tag : Byte) (s : State) : Host.Outcome State Fault Refusal :=
  .next (s.answer .settingRead tag (readOnly fun t => .settings t.settings))

/-- NOTICE_READ (R169). -/
def execNoticeRead (tag : Byte) (s : State) : Host.Outcome State Fault Refusal :=
  .next (s.answer .noticeRead tag (readOnly fun t => .notices t.flags t.settings.mask))

/-- NOTICE CLEAR taken (R169). -/
def takeNoticeClear (named : Half) (s : State) : State × ReplyBody :=
  ({ s with flags := s.flags &&& ~~~named }, .cleared (s.flags &&& ~~~named))

/-- NOTICE_CLEAR (R169). -/
def execNoticeClear (tag : Byte) (named : Half) (s : State) : Host.Outcome State Fault Refusal :=
  .next (s.answer .noticeClear tag (takeNoticeClear named))

/-- CONTROL_RESET (R173): BUSY while a request is in progress; else the reset, whose NOTICE tells of the
flags set since it cleared them, and then the reply DONE. -/
def execControlReset (tag : Byte) (s : State) : Host.Outcome State Fault Refusal :=
  .next <|
    match s.request with
    | some _ => s.goodFrame.reply .controlReset tag (.plain .busy)
    | none => (s.goodFrame.controlReset.notify 0).reply .controlReset tag (.plain .done)

/-- IDENTIFY (R175). -/
def execIdentify (tag : Byte) (s : State) : Host.Outcome State Fault Refusal :=
  .next (s.answer .identify tag (readOnly fun t =>
    .identity Config.partCode Config.revision t.bankA.version t.bankB.version t.active))

end Sys2Proof.Machine
end

