-- ==== Sys2Proof/Machine/JournalCommands.lean ====
section
/-! DEFINITION. The journal requests (spec/08). -/

namespace Sys2Proof.Machine

/-- How many records a JOURNAL READ asks for: 0 means 16, and above 16 is out of range (R150). -/
def readCount (k : Byte) : Option Nat :=
  if k.toNat = 0 then some Config.maxRead else if k.toNat ≤ Config.maxRead then some k.toNat else none

/-- JOURNAL_READ (R150). -/
def execJournalRead (tag count : Byte) (s : State) : Host.Outcome State Fault Refusal :=
  .next (s.answer .journalRead tag
    (inRange (readCount count) fun k => readOnly fun t => .records (t.journal.records.take k)))

/-- How many records a release names: those from the oldest through the one numbered `n`, where `n` lies in
the window (R151). -/
def Journal.releaseCount (j : Journal) (n : Quad) : Option Nat :=
  match j.records.head? with
  | some oldest =>
    if (n - oldest.sequence).toNat < j.records.length then some ((n - oldest.sequence).toNat + 1) else none
  | none => none

/-- JOURNAL RELEASE taken (R151). -/
def takeJournalRelease (sequence : Quad) (s : State) : State × ReplyBody :=
  match s.journal.releaseCount sequence with
  | some k => ({ s with journal := { s.journal with records := s.journal.records.drop k } }, .released k)
  | none => (s, .plain .range)

/-- JOURNAL_RELEASE (R151). -/
def execJournalRelease (tag : Byte) (sequence : Quad) (s : State) : Host.Outcome State Fault Refusal :=
  .next (s.answer .journalRelease tag (takeJournalRelease sequence))

/-- JOURNAL STATUS taken (R152): the reply's values come before the clearing. -/
def takeJournalStatus (option : Byte) (s : State) : State × ReplyBody :=
  (if clearAsked option then { s with journal := { s.journal with tally := .replicate 10 0 } } else s,
    .journalStatus s.journal.records.length s.journal.reservations (s.journal.records.head?.map (·.sequence))
      s.journal.next s.journal.tally s.journal.batch)

/-- JOURNAL_STATUS (R152). -/
def execJournalStatus (tag option : Byte) (s : State) : Host.Outcome State Fault Refusal :=
  .next (s.answer .journalStatus tag (takeJournalStatus option))

end Sys2Proof.Machine
end

