-- ==== Sys2Proof/Machine/LaneCommands.lean ====
section
/-! DEFINITION. The lane requests (spec/02). -/

namespace Sys2Proof.Machine

/-- The link of a lane whose mode becomes ABSENT: slots emptied, miss count 0 (R16). -/
def Lane.leaveList (x : Lane) : Lane :=
  { x with mode := .absent, status := .offline, link := { x.link.emptySlots with misses := 0 } }

/-- The mode taken, with the effect on the link that R16 and R39 give it. -/
def Lane.takeMode (m : Mode) (x : Lane) : Lane := if m = .absent then x.leaveList else { x with mode := m }

/-- A turn in progress with a lane that becomes ABSENT keeps that until its end (R10, R16). -/
def Turn.leave (l : LaneId) (t : Turn) : Turn := if t.lane = l then { t with absented := true } else t

/-- The mode of a lane taken: the lane, and the turn in progress (R16, R39). -/
def State.takeMode (s : State) (l : LaneId) (m : Mode) : State :=
  { s.onLane l (.takeMode m) with turn := if m = .absent then s.turn.map (.leave l) else s.turn }

/-- LANE SETUP taken (R39). -/
def takeLaneSetup (lane mode berth : Byte) (s : State) : State × ReplyBody :=
  match laneOf lane, modeOf mode berth with
  | some l, some m =>
    if s.releaseActive then (s, .plain .state)
    else if (s.lane l).txn = .none ∧ (s.lane l).leaf = .shut then
      ((s.takeMode l m).renewGate l, .plain .done)
    else (s, .plain .busy)
  | _, _ => (s, .plain .range)

/-- LANE_SETUP (R39). -/
def execLaneSetup (tag lane mode berth : Byte) (s : State) : Host.Outcome State Fault Refusal :=
  .next (s.answer .laneSetup tag (takeLaneSetup lane mode berth))

/-- LANE RESET taken (R37): a lane reset with the reason DEPOT. -/
def takeLaneReset (l : LaneId) (s : State) : State × ReplyBody := ((s.laneReset l .depot).arbitrate, .plain .done)

/-- LANE_RESET (R37). -/
def execLaneReset (tag lane : Byte) (s : State) : Host.Outcome State Fault Refusal :=
  .next (s.answer .laneReset tag (inRange (laneOf lane) takeLaneReset))

/-- The clear option of LANE READ (R40). -/
def Lane.clearCounters (x : Lane) : Lane := { x with counters := ⟨0, 0, 0, 0, 0, 0, 0, 0⟩, lastReset := .none }

/-- LANE READ taken (R40): the reply's values come before the clearing. -/
def takeLaneRead (option : Byte) (l : LaneId) (s : State) : State × ReplyBody :=
  (if clearAsked option then s.onLane l Lane.clearCounters else s, .lane (s.lane l) s.pier)

/-- LANE_READ (R40). -/
def execLaneRead (tag lane option : Byte) (s : State) : Host.Outcome State Fault Refusal :=
  .next (s.answer .laneRead tag (inRange (laneOf lane) (takeLaneRead option)))

end Sys2Proof.Machine
end

