-- ==== Sys2Proof/Machine/LineCommands.lean ====
section
/-! DEFINITION. The pier lines' commands (spec/09) and the requests of Release Control. -/

namespace Sys2Proof.Machine

/-- LINE_LEVEL_CHANGE (R156): the level present from outside; a 20 ms measure starts, restarts or ends with
it. -/
def execLineLevelChange (line : LineId) (level : Level) (s : State) : Host.Outcome State Fault Refusal :=
  .next (s.onLine line fun x => { x with level := level })

/-- LINE_DEBOUNCE (R156, R157): the level held for 20 ms becomes the debounced level. DESIGN CHOICE (log 34): the end of
a measure that a change of level has ended is no command. -/
def execLineDebounce (line : LineId) (s : State) : Host.Outcome State Fault Refusal :=
  .next <|
    if (s.line line).measuring then
      (((s.onLine line fun x => { x with debounced := x.level }).pulse line).followLines).endEvent s.flags
    else s

/-- LINE SETUP taken (R155). -/
def takeLineSetup (line entry parameter options : Byte) (s : State) : State × ReplyBody :=
  match lineOf line, lineEntryOf entry parameter options with
  | some i, some e => ((s.onLine i (.remap e)).followLines.arbitrate, .plain .done)
  | _, _ => (s, .plain .range)

/-- LINE_SETUP (R155). -/
def execLineSetup (tag line entry parameter options : Byte) (s : State) : Host.Outcome State Fault Refusal :=
  .next (s.answer .lineSetup tag (takeLineSetup line entry parameter options))

/-- LINE_READ (R159). -/
def execLineRead (tag : Byte) (s : State) : Host.Outcome State Fault Refusal :=
  .next (s.answer .lineRead tag (readOnly fun t => .lines (allLines.map t.lineReport)))

/-- The frame release source set, and release worked out (R160). -/
def takeRelease (source : Bool) (s : State) : State × ReplyBody :=
  let worked := ({ s with frameSource := source }).workOutRelease.arbitrate
  (worked, .release worked.releaseActive)

/-- RELEASE_START (R160). -/
def execReleaseStart (tag : Byte) (s : State) : Host.Outcome State Fault Refusal :=
  .next (s.answer .releaseStart tag (takeRelease true))

/-- RELEASE_END (R160). -/
def execReleaseEnd (tag : Byte) (s : State) : Host.Outcome State Fault Refusal :=
  .next (s.answer .releaseEnd tag (takeRelease false))

end Sys2Proof.Machine
end

