-- ==== Sys2Proof/Machine/Frames.lean ====
section
/-! DEFINITION. The bytes of the lane link (spec/11): the envelope and its frame check, the downward frames
the device sends, and what an answer reports (R2, R177, R178). -/

namespace Sys2Proof.Machine

/-! ### Fields -/

/-- A number in `n` bytes, the most significant first. -/
def bytesBE : Nat → Nat → List Byte
  | 0, _ => []
  | n + 1, v => BitVec.ofNat 8 (v / 256 ^ n) :: bytesBE n v

/-- The number some bytes hold, the most significant first. -/
def natBE (bs : List Byte) : Nat := bs.foldl (fun a b => a * 256 + b.toNat) 0

/-- The field of `n` bytes at an offset of a body. -/
def field (body : List Byte) (offset n : Nat) : Nat := natBE ((body.drop offset).take n)

/-- The byte at an offset of a body. -/
def byteAt (body : List Byte) (offset : Nat) : Byte := BitVec.ofNat 8 (field body offset 1)

/-- A signed two-byte field, two's complement. -/
def signed16 (v : Nat) : Int := (BitVec.ofNat 16 v).toInt

/-- A signed value in `n` bytes, two's complement. -/
def bytesSigned (n : Nat) (v : Int) : List Byte := bytesBE n (BitVec.ofInt (8 * n) v).toNat

/-- A flag as a byte. -/
def boolByte (b : Bool) : Byte := if b then 1 else 0

/-! ### The envelope and the frame check -/

/-- One bit of the frame check: polynomial x^16 + x^12 + x^5 + 1. -/
def crcBit (c : Half) : Half := if c.msb then (c <<< 1) ^^^ 0x1021#16 else c <<< 1

/-- One byte of the frame check, most significant bit first. -/
def crcByte (c : Half) (b : Byte) : Half := crcBit^[8] (c ^^^ (b.zeroExtend 16 <<< 8))

/-- The frame check of some bytes: initial value 0xFFFF, the result not inverted. -/
def frameCheck (bs : List Byte) : Half := bs.foldl crcByte 0xFFFF#16

/-- A frame of the envelope of spec/11. -/
structure Envelope where
  kind : Byte
  tag  : Byte
  body : List Byte
  deriving DecidableEq, Repr

/-- The bytes the frame check covers: length, kind, tag and body. -/
def Envelope.checked (e : Envelope) : List Byte := bytesBE 2 (e.body.length + 2) ++ e.kind :: e.tag :: e.body

/-- The bytes of a frame. -/
def Envelope.bytes (e : Envelope) : List Byte :=
  0xA5#8 :: e.checked ++ bytesBE 2 (frameCheck e.checked).toNat

/-- The frame some bytes hold: the start byte, a length of 2 or more that the bytes fill exactly, and a
correct frame check; none where the frame is bad. DESIGN CHOICE (log 36): the bytes are one frame from its start byte to
its frame check, and a byte before or behind it, another start byte or a missing byte makes it bad. -/
def openEnvelope (bs : List Byte) : Option Envelope :=
  match bs with
  | start :: l1 :: l0 :: kind :: tag :: rest =>
    let n := natBE [l1, l0]
    let body := rest.take (n - 2)
    if start = 0xA5#8 ∧ 2 ≤ n ∧ rest.length = n ∧
        (frameCheck (l1 :: l0 :: kind :: tag :: body)).toNat = natBE (rest.drop (n - 2)) then
      some ⟨kind, tag, body⟩
    else none
  | _ => none

/-! ### Downward frames -/

/-- The number of a lane, berth or line on the links. -/
def number {n : Nat} (i : Fin n) : Byte := BitVec.ofNat 8 (i.val + 1)

/-- The code of a display code. -/
def DisplayCode.code : DisplayCode → Byte
  | .go => 0x01
  | .wait => 0x02
  | .seeStaff => 0x03
  | .full => 0x04
  | .boardingClosed => 0x05
  | .lowValue => 0x06
  | .cardRefused => 0x07
  | .passback => 0x08
  | .wrongBerth => 0x09
  | .outOfService => 0x0A
  | .lastCall => 0x0B
  | .freeExit => 0x0C
  | .laneClosed => 0x0D

/-- The order and credit count of a GATE. -/
def GateOrder.code : GateOrder → Byte
  | .shut => 0x00
  | .opened _ => 0x01
  | .openFree => 0x02

def GateOrder.count : GateOrder → Nat
  | .opened n => n
  | _ => 0

/-- The fields of a CARD WRITE after the card number. -/
def NewImage.bytes (i : NewImage) : List Byte :=
  bytesSigned 2 i.balance ++ bytesBE 1 i.trips ++ bytesBE 2 i.dayStamp ++ bytesBE 2 i.daySpend ++
    bytesBE 2 i.lastMinute ++ bytesBE 1 i.lastPier ++ [boolByte i.transferUsed] ++ bytesBE 2 i.sequence.toNat

/-- The kind code of a downward frame. -/
def DownBody.code : DownBody → Byte
  | .empty => 0x20
  | .cardWrite .. => 0x21
  | .gate _ => 0x22
  | .shown _ => 0x23

/-- The body of a downward frame after the three bytes common to all. -/
def DownBody.bytes : DownBody → List Byte
  | .empty => []
  | .cardWrite card image => bytesBE 6 card.toNat ++ image.bytes
  | .gate order => order.code :: bytesBE 1 order.count
  | .shown code => [code.code]

/-- The three bytes every downward body opens with. -/
def DownFrame.opening (f : DownFrame) : List Byte :=
  match f.acked with
  | some r => [number f.lane, 0x01, r]
  | none => [number f.lane, 0x00, 0x00]

/-- A downward frame on the pair. -/
def DownFrame.bytes (f : DownFrame) : List Byte :=
  Envelope.bytes ⟨f.body.code, f.tag, f.opening ++ f.body.bytes⟩

/-! ### Upward frames -/

def outcomeOf (b : Byte) : Option WriteOutcome :=
  match b.toNat with
  | 1 => some .done
  | 2 => some .failed
  | 3 => some .uncertain
  | _ => none

def conditionOf (b : Byte) : Option LaneCondition :=
  match b.toNat with
  | 1 => some .leafFault
  | 2 => some .leafClear
  | 3 => some .headRestart
  | _ => none

/-- The card image of a TAP body, the lane number at offset 0; none where a field holds no defined value. -/
def tapImage (body : List Byte) : Option CardImage :=
  match below 64 (field body 7 1), below 8 (field body 8 1), flagOf (byteAt body 19) with
  | some product, some cls, some used =>
    if field body 16 2 ≤ 1439 then
      some {
        card         := BitVec.ofNat 48 (field body 1 6)
        product      := product
        cls          := cls
        balance      := signed16 (field body 9 2)
        trips        := field body 11 1
        dayStamp     := field body 12 2
        daySpend     := field body 14 2
        lastMinute   := field body 16 2
        lastPier     := field body 18 1
        transferUsed := used
        passExpiry   := field body 20 2
        sequence     := BitVec.ofNat 16 (field body 22 2) }
    else none
  | _, _, _ => none

/-- The report of an upward kind whose body has exactly the length the kind requires; none for another kind,
another length or an undefined field (R2, R177). -/
def reportOf (kind : Byte) (body : List Byte) : Option Report :=
  match kind.toNat with
  | 0x40 => if body.length = 1 then some .nothing else none
  | 0x41 => if body.length = 24 then (tapImage body).map .tap else none
  | 0x42 =>
    if body.length = 9 then
      (outcomeOf (byteAt body 8)).map (.writeResult (byteAt body 1) (BitVec.ofNat 48 (field body 2 6)))
    else none
  | 0x43 =>
    if body.length = 3 then
      match below 8 (field body 1 1), below 8 (field body 2 1) with
      | some inward, some outward => some (.passage inward outward)
      | _, _ => none
    else none
  | 0x44 => if body.length = 2 then (conditionOf (byteAt body 1)).map .status else none
  | _ => none

/-- A good answer's report number and report, for the polled lane; none where the answer is bad (R2). -/
def answerReport (polled : LaneId) (bytes : List Byte) : Option (Byte × Report) :=
  match openEnvelope bytes with
  | some e =>
    if byteAt e.body 0 = number polled then (reportOf e.kind e.body).map (e.tag, ·) else none
  | none => none

/-! ### What a lane head sends, for tests and statements -/

def WriteOutcome.code : WriteOutcome → Byte
  | .done => 1
  | .failed => 2
  | .uncertain => 3

def LaneCondition.code : LaneCondition → Byte
  | .leafFault => 1
  | .leafClear => 2
  | .headRestart => 3

/-- The kind code of a report. -/
def Report.code : Report → Byte
  | .nothing => 0x40
  | .tap _ => 0x41
  | .writeResult .. => 0x42
  | .passage .. => 0x43
  | .status _ => 0x44

/-- The fields of a TAP after the lane number. -/
def CardImage.bytes (i : CardImage) : List Byte :=
  bytesBE 6 i.card.toNat ++ bytesBE 1 i.product.val ++ bytesBE 1 i.cls.val ++ bytesSigned 2 i.balance ++
    bytesBE 1 i.trips ++ bytesBE 2 i.dayStamp ++ bytesBE 2 i.daySpend ++ bytesBE 2 i.lastMinute ++
    bytesBE 1 i.lastPier ++ [boolByte i.transferUsed] ++ bytesBE 2 i.passExpiry ++ bytesBE 2 i.sequence.toNat

/-- The body of a report after the lane number. -/
def Report.bytes : Report → List Byte
  | .nothing => []
  | .tap image => image.bytes
  | .writeResult tag card outcome => tag :: bytesBE 6 card.toNat ++ [outcome.code]
  | .passage inward outward => [BitVec.ofNat 8 inward.val, BitVec.ofNat 8 outward.val]
  | .status condition => [condition.code]

/-- The bytes of a lane head's answer with a report number and a report (spec/11). -/
def answerBytes (l : LaneId) (reportNumber : Byte) (r : Report) : List Byte :=
  Envelope.bytes ⟨r.code, reportNumber, number l :: r.bytes⟩

/-- A card image whose fields lie in the ranges a TAP frame defines (spec/11). -/
def CardImage.inFrame (i : CardImage) : Bool :=
  decide (-32768 ≤ i.balance) && decide (i.balance ≤ 32767) && decide (i.trips ≤ 255) &&
    decide (i.dayStamp ≤ 65535) && decide (i.daySpend ≤ 65535) && decide (i.lastMinute ≤ 1439) &&
    decide (i.lastPier ≤ 255) && decide (i.passExpiry ≤ 65535)

/-- A report that a frame can carry. -/
def Report.inFrame : Report → Bool
  | .tap image => image.inFrame
  | _ => true

end Sys2Proof.Machine
end

