-- ==== Sys2Proof/Machine/LinkCommands.lean ====
section
/-! DEFINITION. The commands of the lane link (spec/01): POLL_TURN, ANSWER_BEGINS, ANSWER,
ANSWER_WINDOW_EXPIRY. -/

namespace Sys2Proof.Machine

/-- POLL_TURN (R1, R2, R3): while no turn is in progress, a turn begins with the next lane of the poll list;
an empty poll list begins none. -/
def execPollTurn (s : State) : Host.Outcome State Fault Refusal :=
  .next <|
    match s.turn, s.nextPolled with
    | none, some l => s.beginTurn l
    | _, _ => s

/-- ANSWER_BEGINS (R2): the window of the turn in progress can no longer expire. -/
def execAnswerBegins (s : State) : Host.Outcome State Fault Refusal :=
  .next <|
    match s.turn with
    | some t => { s with turn := some { t with answering := true } }
    | none => s

/-- The end of a turn in an answer: good as R2 says, or a miss. -/
def State.endTurn (s : State) (t : Turn) (bytes : List Byte) : State :=
  match answerReport t.lane bytes with
  | some (n, r) => s.goodAnswer t n r
  | none => s.missedTurn t

/-- ANSWER (R2): the turn in progress ends; bytes outside a turn are discarded. DESIGN CHOICE (log 34): behind a
POLL_TURN it is the answer of that turn, and never one to a turn before. -/
def execAnswer (bytes : List Byte) (s : State) : Host.Outcome State Fault Refusal :=
  .next <|
    match s.turn with
    | some t => (({ s with turn := none }).endTurn t bytes).endEvent s.flags
    | none => s

/-- ANSWER_WINDOW_EXPIRY (R2): a turn in which no answer has begun ends in a miss. DESIGN CHOICE (log 34): it is the
window of the turn in progress, and never that of a turn before. -/
def execAnswerWindowExpiry (s : State) : Host.Outcome State Fault Refusal :=
  .next <|
    match s.turn with
    | some t =>
      if t.answering then s else (({ s with turn := none }).missedTurn t).endEvent s.flags
    | none => s

end Sys2Proof.Machine
end

