-- ==== Sys2Proof/Machine/StageCommands.lean ====
section
/-! DEFINITION. The stages of a validation and the decision event (spec/03): each is run for the validation in
flight when it is the next stage (R45). -/

namespace Sys2Proof.Machine

/-- STAGE_SERVICE (R46). -/
def execStageService (s : State) : Host.Outcome State Fault Refusal :=
  .next (s.atStage .service State.runService)

/-- STAGE_RECOVERY_MATCH (R47). -/
def execStageRecoveryMatch (s : State) : Host.Outcome State Fault Refusal :=
  .next (s.atStage .recoveryMatch State.runRecoveryMatch)

/-- STAGE_CARD_STATUS (R48). -/
def execStageCardStatus (s : State) : Host.Outcome State Fault Refusal :=
  .next (s.atStage .cardStatus State.runCardStatus)

/-- STAGE_PRODUCT (R49). -/
def execStageProduct (s : State) : Host.Outcome State Fault Refusal :=
  .next (s.atStage .product State.runProduct)

/-- STAGE_PASSBACK (R50). -/
def execStagePassback (s : State) : Host.Outcome State Fault Refusal :=
  .next (s.atStage .passback State.runPassback)

/-- STAGE_BERTH_STATE (R51). -/
def execStageBerthState (s : State) : Host.Outcome State Fault Refusal :=
  .next (s.atStage .berthState State.runBerthState)

/-- STAGE_FARE (R52). -/
def execStageFare (s : State) : Host.Outcome State Fault Refusal :=
  .next (s.atStage .fare State.runFare)

/-- STAGE_LANE_ROOM (R53). -/
def execStageLaneRoom (s : State) : Host.Outcome State Fault Refusal :=
  .next (s.atStage .laneRoom State.runLaneRoom)

/-- DECISION_EVENT (R54, R55). -/
def execDecisionEvent (s : State) : Host.Outcome State Fault Refusal :=
  .next (s.atStage .decision State.runDecision)

end Sys2Proof.Machine
end

