-- ==== Sys2Proof/Machine/TableCommands.lean ====
section
/-! DEFINITION. The table requests, TABLE_STATUS and TABLE_WORK_DONE (spec/07). -/

namespace Sys2Proof.Machine

/-- TABLE_WRITE (R129 to R131). -/
def execTableWrite (tag : Byte) (start : Half) (body : TableBody) (s : State) : Host.Outcome State Fault Refusal :=
  .next (s.arrive tag (.write start body))

/-- CARD_INSERT (R132). -/
def execCardInsert (tag : Byte) (entry : RawCard) (s : State) : Host.Outcome State Fault Refusal :=
  .next (s.arrive tag (.insert entry))

/-- CARD_REMOVE (R133). -/
def execCardRemove (tag : Byte) (card : CardNo) (s : State) : Host.Outcome State Fault Refusal :=
  .next (s.arrive tag (.remove card))

/-- TABLE_CLEAR (R134). -/
def execTableClear (tag : Byte) (s : State) : Host.Outcome State Fault Refusal :=
  .next (s.arrive tag .clear)

/-- TABLE_COPY (R135). -/
def execTableCopy (tag : Byte) (s : State) : Host.Outcome State Fault Refusal :=
  .next (s.arrive tag .copy)

/-- TABLE_ACTIVATE (R137, R138). -/
def execTableActivate (tag : Byte) (version : Quad) (expected : Half) (timing : Byte) (day : Half) (secs : Quad)
    (s : State) : Host.Outcome State Fault Refusal :=
  .next (s.arrive tag (.activate version expected timing day secs))

/-- What TABLE STATUS answers (R142). -/
def State.tableStatus (s : State) : ReplyBody :=
  .tableStatus s.bankA.summary s.bankB.summary s.active s.shadow s.readLocked s.pendingActivation

/-- TABLE_STATUS (R142, R166): answered at once, a request in progress or not, and never itself in
progress. -/
def execTableStatus (tag : Byte) (s : State) : Host.Outcome State Fault Refusal :=
  .next (s.goodFrame.reply .tableStatus tag s.tableStatus)

/-- TABLE_WORK_DONE (R128): the work of a request that has been taken is complete, its reply is sent, and the
request in progress becomes none. -/
def execTableWorkDone (s : State) : Host.Outcome State Fault Refusal :=
  .next <|
    match s.request with
    | some ⟨tag, request, .working body⟩ => ({ s.workTable request with request := none }).reply request.kind tag body
    | _ => s

end Sys2Proof.Machine
end

