-- ==== Sys2Proof/Machine/TimerCommands.lean ====
section
/-! DEFINITION. The expiries of the timers and the advance of the clock. A timer that is stopped does not
expire (spec/00, Conventions), so an expiry of one changes nothing (log 1). An expiry that the manual discards, because
its timer was loaded again or stopped first, is no command (log 34). -/

namespace Sys2Proof.Machine

/-- HOLD_TIMER_EXPIRY (R26): all the lane's credits are forfeited and the leaf becomes SHUT. DESIGN CHOICE (log 34):
behind a command that loads the timer again it is the expiry of the timer as loaded, and not the one R26 discards. -/
def execHoldTimerExpiry (lane : LaneId) (s : State) : Host.Outcome State Fault Refusal :=
  .next <|
    match (s.lane lane).holdTimer with
    | some _ =>
      (((s.onLane lane fun x => { x with holdTimer := none }).forfeitAll lane false).reworkGate lane).notify s.flags
    | none => s

/-- WRITE_TIMER_EXPIRY (R89): the write is taken as if a matching UNCERTAIN had arrived. DESIGN CHOICE (log 34): behind
the end of one write it is the expiry of the lane's next one. -/
def execWriteTimerExpiry (lane : LaneId) (s : State) : Host.Outcome State Fault Refusal :=
  .next <|
    match (s.lane lane).txn with
    | .writing image w => (s.writeUncertain lane image w).notify s.flags
    | _ => s

/-- RECOVERY_EXPIRY (R96): the entry is closed UNRESOLVED. DESIGN CHOICE (log 34): the command names its entry by card
alone; behind a hand-over for the same card it is the new entry's expiry, and not the one R94 discards. -/
def execRecoveryExpiry (card : CardNo) (s : State) : Host.Outcome State Fault Refusal :=
  .next <|
    match s.entryFor card with
    | some e => (s.closeEntry false e).notify s.flags
    | none => s

/-- LAST CALL at each lane of a berth, except while release is active (R123). -/
def State.showLastCall (s : State) (b : BerthId) : State :=
  if s.releaseActive then s
  else s.eachLane fun t l => if (t.lane l).mode = .entry b then t.askShow l .lastCall else t

/-- A quiet timer expires: the mark and the timer loaded again or stopped (R123). -/
def Berth.callLast (unit : Nat) (b : Berth) : Berth :=
  { b with lastCall := true, quietTimer := if unit = 0 then none else some (5 * unit) }

/-- QUIET_TIMER_EXPIRY (R123). DESIGN CHOICE (log 34): behind a load of the timer it is the expiry of the timer as
loaded, and not the one R123 discards. -/
def execQuietTimerExpiry (berth : BerthId) (s : State) : Host.Outcome State Fault Refusal :=
  .next <|
    if (s.berth berth).quietTimer.isSome ∧ (s.berth berth).state.takesPassengers then
      (((s.onBerth berth (.callLast s.settings.quietUnit)).raise .lastCall).showLastCall berth).notify s.flags
    else s

/-- SILENCE_TIMER_EXPIRY (R170): the silence state becomes lost, and the timer is not loaded again. DESIGN CHOICE
(log 34): behind a good frame it is the expiry of the timer as loaded, and not the one R170 discards. -/
def execSilenceTimerExpiry (s : State) : Host.Outcome State Fault Refusal :=
  .next <|
    match s.silenceTimer with
    | some _ => (({ s with silenceTimer := none, depotLost := true }).raise .depotLost).notify s.flags
    | none => s

/-- One advance of the clock, a rollover at the end of the day (R63, R64). -/
def State.advanceClock (s : State) : State :=
  if s.clock.secs + 1 < Config.secondsPerDay then
    { s with clock := { s.clock with secs := s.clock.secs + 1 } }
  else
    ({ s with clock := { s.clock with secs := 0, day := (s.clock.day + 1) % 65536 } }).raise .clockRollover

/-- CLOCK_ADVANCE (R63, R67): the running clock advances and hands its time to the Table Store. DESIGN CHOICE (log 33):
one that stands behind a CLOCK_SET is the advance one second after the set, and not the one that R65 discards. -/
def execClockAdvance (s : State) : Host.Outcome State Fault Refusal :=
  .next <| if s.clock.running then s.advanceClock.handTime.notify s.flags else s

end Sys2Proof.Machine
end

