-- ==== Sys2Proof/Machine/Dispatch.lean ====
section
/-! DEFINITION. The meaning of each command: one arm for each row of spec/opcode_table.json. -/

namespace Sys2Proof.Machine

/-- The effect of a command on everything but the queue. -/
def exec (i : Instr) (s : State) : Host.Outcome State Fault Refusal :=
  match i with
  | .powerOn => Sys2Proof.Machine.execPowerOn s
  | .pollTurn => Sys2Proof.Machine.execPollTurn s
  | .answer bytes => Sys2Proof.Machine.execAnswer bytes s
  | .answerWindowExpiry => Sys2Proof.Machine.execAnswerWindowExpiry s
  | .holdTimerExpiry lane => Sys2Proof.Machine.execHoldTimerExpiry lane s
  | .stageService => Sys2Proof.Machine.execStageService s
  | .stageRecoveryMatch => Sys2Proof.Machine.execStageRecoveryMatch s
  | .stageCardStatus => Sys2Proof.Machine.execStageCardStatus s
  | .stageProduct => Sys2Proof.Machine.execStageProduct s
  | .stagePassback => Sys2Proof.Machine.execStagePassback s
  | .stageBerthState => Sys2Proof.Machine.execStageBerthState s
  | .stageFare => Sys2Proof.Machine.execStageFare s
  | .stageLaneRoom => Sys2Proof.Machine.execStageLaneRoom s
  | .decisionEvent => Sys2Proof.Machine.execDecisionEvent s
  | .writeTimerExpiry lane => Sys2Proof.Machine.execWriteTimerExpiry lane s
  | .recoveryExpiry card => Sys2Proof.Machine.execRecoveryExpiry card s
  | .quietTimerExpiry berth => Sys2Proof.Machine.execQuietTimerExpiry berth s
  | .clockAdvance => Sys2Proof.Machine.execClockAdvance s
  | .tableWorkDone => Sys2Proof.Machine.execTableWorkDone s
  | .lineDebounce line => Sys2Proof.Machine.execLineDebounce line s
  | .silenceTimerExpiry => Sys2Proof.Machine.execSilenceTimerExpiry s
  | .depotBadFrame => Sys2Proof.Machine.execDepotBadFrame s
  | .depotUnknownFrame kind tag => Sys2Proof.Machine.execDepotUnknownFrame kind tag s
  | .tableWrite tag start body => Sys2Proof.Machine.execTableWrite tag start body s
  | .cardInsert tag entry => Sys2Proof.Machine.execCardInsert tag entry s
  | .cardRemove tag card => Sys2Proof.Machine.execCardRemove tag card s
  | .tableClear tag => Sys2Proof.Machine.execTableClear tag s
  | .tableCopy tag => Sys2Proof.Machine.execTableCopy tag s
  | .tableActivate tag version expected timing day secs => Sys2Proof.Machine.execTableActivate tag version expected timing day secs s
  | .tableStatus tag => Sys2Proof.Machine.execTableStatus tag s
  | .berthArrive tag berth vessel capacity aboard reserve band => Sys2Proof.Machine.execBerthArrive tag berth vessel capacity aboard reserve band s
  | .berthOpen tag berth => Sys2Proof.Machine.execBerthOpen tag berth s
  | .berthClose tag berth => Sys2Proof.Machine.execBerthClose tag berth s
  | .berthDepart tag berth => Sys2Proof.Machine.execBerthDepart tag berth s
  | .berthCapacity tag berth capacity aboard => Sys2Proof.Machine.execBerthCapacity tag berth capacity aboard s
  | .berthSource tag berth source => Sys2Proof.Machine.execBerthSource tag berth source s
  | .berthRead tag berth => Sys2Proof.Machine.execBerthRead tag berth s
  | .laneSetup tag lane mode berth => Sys2Proof.Machine.execLaneSetup tag lane mode berth s
  | .laneReset tag lane => Sys2Proof.Machine.execLaneReset tag lane s
  | .laneRead tag lane option => Sys2Proof.Machine.execLaneRead tag lane option s
  | .journalRead tag count => Sys2Proof.Machine.execJournalRead tag count s
  | .journalRelease tag sequence => Sys2Proof.Machine.execJournalRelease tag sequence s
  | .journalStatus tag option => Sys2Proof.Machine.execJournalStatus tag option s
  | .clockSet tag day secs => Sys2Proof.Machine.execClockSet tag day secs s
  | .clockRead tag => Sys2Proof.Machine.execClockRead tag s
  | .settingWrite tag setting berth value => Sys2Proof.Machine.execSettingWrite tag setting berth value s
  | .settingRead tag => Sys2Proof.Machine.execSettingRead tag s
  | .lineSetup tag line entry parameter options => Sys2Proof.Machine.execLineSetup tag line entry parameter options s
  | .lineRead tag => Sys2Proof.Machine.execLineRead tag s
  | .releaseStart tag => Sys2Proof.Machine.execReleaseStart tag s
  | .releaseEnd tag => Sys2Proof.Machine.execReleaseEnd tag s
  | .noticeRead tag => Sys2Proof.Machine.execNoticeRead tag s
  | .noticeClear tag named => Sys2Proof.Machine.execNoticeClear tag named s
  | .controlReset tag => Sys2Proof.Machine.execControlReset tag s
  | .identify tag => Sys2Proof.Machine.execIdentify tag s
  | .lineLevelChange line level => Sys2Proof.Machine.execLineLevelChange line level s
  | .answerBegins => Sys2Proof.Machine.execAnswerBegins s

end Sys2Proof.Machine
end

