-- ==== Sys2Proof/Machine/DepotFrames.lean ====
section
/-! DEFINITION. The bytes of the depot link (spec/11): which command the bytes of a received frame stand for
(R166, R177, R178), and the bytes of the frames the device sends. -/

namespace Sys2Proof.Machine

/-! ### Codes -/

/-- Kind codes of the requests. -/
def RequestKind.code : RequestKind → Nat
  | .tableWrite => 0x80
  | .cardInsert => 0x81
  | .cardRemove => 0x82
  | .tableClear => 0x83
  | .tableCopy => 0x84
  | .tableActivate => 0x85
  | .tableStatus => 0x86
  | .berthArrive => 0x87
  | .berthOpen => 0x88
  | .berthClose => 0x89
  | .berthDepart => 0x8A
  | .berthCapacity => 0x8B
  | .berthSource => 0x8C
  | .berthRead => 0x8D
  | .laneSetup => 0x8E
  | .laneReset => 0x8F
  | .laneRead => 0x90
  | .journalRead => 0x91
  | .journalRelease => 0x92
  | .journalStatus => 0x93
  | .clockSet => 0x94
  | .clockRead => 0x95
  | .settingWrite => 0x96
  | .settingRead => 0x97
  | .lineSetup => 0x98
  | .lineRead => 0x99
  | .releaseStart => 0x9A
  | .releaseEnd => 0x9B
  | .noticeRead => 0x9C
  | .noticeClear => 0x9D
  | .controlReset => 0x9E
  | .identify => 0x9F

def Result.code : Result → Byte
  | .done => 0x00
  | .busy => 0x01
  | .state => 0x02
  | .range => 0x03
  | .incomplete => 0x05
  | .notFound => 0x06
  | .order => 0x07
  | .capacity => 0x08
  | .duplicate => 0x09

/-- The result byte UNKNOWN. -/
def unknownResult : Byte := 0x04

def RefusalCode.code : RefusalCode → Byte
  | .outOfService => 0x01
  | .cardFormat => 0x02
  | .blocked => 0x03
  | .unknownProduct => 0x04
  | .routeNotCovered => 0x05
  | .passExpired => 0x06
  | .lowValue => 0x07
  | .passback => 0x08
  | .boardingClosed => 0x09
  | .staffBoarding => 0x0A
  | .halted => 0x0B
  | .laneBusy => 0x0C
  | .full => 0x0D
  | .wrongBerth => 0x0E

def RecordKind.code : RecordKind → Byte
  | .admission => 0x01
  | .fail => 0x02
  | .refused => 0x03
  | .recoveredTook => 0x04
  | .recoveredRetry => 0x05
  | .unresolved => 0x06
  | .forfeit => 0x07
  | .unpaid => 0x08
  | .manifest => 0x09
  | .activation => 0x0A

def BerthState.code : BerthState → Byte
  | .idle => 0x00
  | .alongside => 0x01
  | .boarding => 0x02
  | .full => 0x03
  | .closed => 0x04

def Mode.code : Mode → Byte
  | .absent => 0x00
  | .closed => 0x01
  | .entry _ => 0x02
  | .exit => 0x03

def Mode.berthByte : Mode → Byte
  | .entry b => number b
  | _ => 0

def LinkStatus.code : LinkStatus → Byte
  | .offline => 0x00
  | .online => 0x01

def Transaction.code : Transaction → Byte
  | .none => 0x00
  | .waiting _ => 0x01
  | .validating _ => 0x02
  | .writing .. => 0x03

def Leaf.code : Leaf → Byte
  | .shut => 0x00
  | .opened _ => 0x01
  | .fault => 0x02

def ResetReason.code : ResetReason → Byte
  | .none => 0x00
  | .depot => 0x01
  | .headRestart => 0x02
  | .offline => 0x03
  | .controlReset => 0x04
  | .powerOn => 0x05

def bankByte : Option BankId → Byte
  | none => 0x00
  | some .a => 0x01
  | some .b => 0x02

def LineEntry.code : LineEntry → Byte
  | .unused => 0x00
  | .output .. => 0x01
  | .inputRelease => 0x02
  | .inputTally _ => 0x03
  | .inputHalt _ => 0x04

def LineEntry.parameter : LineEntry → Byte
  | .output e _ => BitVec.ofNat 8 e.val
  | .inputTally b | .inputHalt b => number b
  | _ => 0

def LineEntry.inverted : LineEntry → Bool
  | .output _ i => i
  | _ => false

/-- Flags packed with the first in bit 0. -/
def packBits : List Bool → Nat
  | [] => 0
  | b :: bs => (if b then 1 else 0) + 2 * packBits bs

/-! ### Received frames -/

/-- The entry size of a table, and nothing for a table that does not exist (R177). -/
def entrySize (table : Byte) : Option Nat :=
  match table.toNat with
  | 1 => some 7
  | 2 => some 7
  | 3 => some 2
  | 4 => some 4
  | 5 => some 3
  | _ => none

/-- `count` entries of a size, read one after another. -/
def entriesOf {α : Type} (read : List Byte → α) (size : Nat) : Nat → List Byte → List α
  | 0, _ => []
  | n + 1, bs => read (bs.take size) :: entriesOf read size n (bs.drop size)

def rawCard (bs : List Byte) : RawCard := ⟨BitVec.ofNat 48 (field bs 0 6), byteAt bs 6⟩
def rawProduct (bs : List Byte) : RawProduct :=
  ⟨byteAt bs 0, byteAt bs 1, byteAt bs 2, byteAt bs 3, BitVec.ofNat 16 (field bs 4 2), byteAt bs 6⟩
def rawFare (bs : List Byte) : Half := BitVec.ofNat 16 (field bs 0 2)
def rawClass (bs : List Byte) : RawClass := ⟨byteAt bs 0, BitVec.ofNat 16 (field bs 1 2), byteAt bs 3⟩
def rawBoundary (bs : List Byte) : RawBoundary := ⟨BitVec.ofNat 16 (field bs 0 2), byteAt bs 2⟩

/-- The entries of a TABLE WRITE body; a table or count out of range leaves the count alone (R177). -/
def tableBodyOf (table count : Byte) (entries : List Byte) : TableBody :=
  if 1 ≤ count.toNat ∧ count.toNat ≤ 32 then
    match table.toNat with
    | 1 => .cards (entriesOf rawCard 7 count.toNat entries)
    | 2 => .products (entriesOf rawProduct 7 count.toNat entries)
    | 3 => .fares (entriesOf rawFare 2 count.toNat entries)
    | 4 => .classes (entriesOf rawClass 4 count.toNat entries)
    | 5 => .timeBands (entriesOf rawBoundary 3 count.toNat entries)
    | _ => .outOfRange count
  else .outOfRange count

/-- The body size a TABLE WRITE requires (R177). -/
def tableWriteSize (body : List Byte) : Nat :=
  let count := field body 3 1
  if 1 ≤ count ∧ count ≤ 32 then 4 + count * (entrySize (byteAt body 0)).getD 0 else 4

/-- The body size a request requires (spec/11); for TABLE WRITE it depends on the header (R177). -/
def RequestKind.bodySize (body : List Byte) : RequestKind → Nat
  | .tableWrite => tableWriteSize body
  | .cardInsert => 7
  | .cardRemove => 6
  | .tableActivate => 13
  | .berthArrive => 9
  | .berthOpen | .berthClose | .berthDepart | .berthRead | .laneReset | .journalRead | .journalStatus => 1
  | .berthCapacity => 5
  | .berthSource | .laneRead | .noticeClear => 2
  | .laneSetup => 3
  | .journalRelease | .settingWrite | .lineSetup => 4
  | .clockSet => 6
  | _ => 0

/-- Two-byte and four-byte fields as words. -/
def halfAt (body : List Byte) (offset : Nat) : Half := BitVec.ofNat 16 (field body offset 2)
def quadAt (body : List Byte) (offset : Nat) : Quad := BitVec.ofNat 32 (field body offset 4)

/-- The command of a request whose body is long enough; bytes beyond the required ones are ignored (R177). -/
def requestOf (tag : Byte) (body : List Byte) : RequestKind → Instr
  | .tableWrite     => .tableWrite tag (halfAt body 1) (tableBodyOf (byteAt body 0) (byteAt body 3) (body.drop 4))
  | .cardInsert     => .cardInsert tag (rawCard body)
  | .cardRemove     => .cardRemove tag (BitVec.ofNat 48 (field body 0 6))
  | .tableClear     => .tableClear tag
  | .tableCopy      => .tableCopy tag
  | .tableActivate  => .tableActivate tag (quadAt body 0) (halfAt body 4) (byteAt body 6) (halfAt body 7) (quadAt body 9)
  | .tableStatus    => .tableStatus tag
  | .berthArrive    => .berthArrive tag (byteAt body 0) (halfAt body 1) (halfAt body 3) (halfAt body 5) (byteAt body 7)
      (byteAt body 8)
  | .berthOpen      => .berthOpen tag (byteAt body 0)
  | .berthClose     => .berthClose tag (byteAt body 0)
  | .berthDepart    => .berthDepart tag (byteAt body 0)
  | .berthCapacity  => .berthCapacity tag (byteAt body 0) (halfAt body 1) (halfAt body 3)
  | .berthSource    => .berthSource tag (byteAt body 0) (byteAt body 1)
  | .berthRead      => .berthRead tag (byteAt body 0)
  | .laneSetup      => .laneSetup tag (byteAt body 0) (byteAt body 1) (byteAt body 2)
  | .laneReset      => .laneReset tag (byteAt body 0)
  | .laneRead       => .laneRead tag (byteAt body 0) (byteAt body 1)
  | .journalRead    => .journalRead tag (byteAt body 0)
  | .journalRelease => .journalRelease tag (quadAt body 0)
  | .journalStatus  => .journalStatus tag (byteAt body 0)
  | .clockSet       => .clockSet tag (halfAt body 0) (quadAt body 2)
  | .clockRead      => .clockRead tag
  | .settingWrite   => .settingWrite tag (byteAt body 0) (byteAt body 1) (halfAt body 2)
  | .settingRead    => .settingRead tag
  | .lineSetup      => .lineSetup tag (byteAt body 0) (byteAt body 1) (byteAt body 2) (byteAt body 3)
  | .lineRead       => .lineRead tag
  | .releaseStart   => .releaseStart tag
  | .releaseEnd     => .releaseEnd tag
  | .noticeRead     => .noticeRead tag
  | .noticeClear    => .noticeClear tag (halfAt body 0)
  | .controlReset   => .controlReset tag
  | .identify       => .identify tag

/-- The requests in the order of their codes. -/
def requestKinds : List RequestKind :=
  [.tableWrite, .cardInsert, .cardRemove, .tableClear, .tableCopy, .tableActivate, .tableStatus, .berthArrive,
    .berthOpen, .berthClose, .berthDepart, .berthCapacity, .berthSource, .berthRead, .laneSetup, .laneReset, .laneRead,
    .journalRead, .journalRelease, .journalStatus, .clockSet, .clockRead, .settingWrite, .settingRead, .lineSetup,
    .lineRead, .releaseStart, .releaseEnd, .noticeRead, .noticeClear, .controlReset, .identify]

/-- The request kind of a kind byte. -/
def requestKindOf (kind : Byte) : Option RequestKind := requestKinds.find? (·.code == kind.toNat)

/-- The body size of the reply to a request with the result DONE; for JOURNAL READ it depends on the count of
records the reply carries (spec/11). DESIGN CHOICE (log 35): for IDENTIFY the fields with the result byte make 13, where
spec/11 states 12. -/
def RequestKind.doneSize (body : List Byte) : RequestKind → Nat
  | .tableWrite | .journalRelease | .noticeClear => 3
  | .tableActivate | .releaseStart | .releaseEnd => 2
  | .tableStatus => 27
  | .berthArrive | .clockRead => 8
  | .berthCapacity | .clockSet => 7
  | .berthRead => 64
  | .laneRead => 39
  | .journalRead => 2 + 40 * field body 1 1
  | .journalStatus => 34
  | .settingWrite | .noticeRead => 5
  | .settingRead => 23
  | .lineRead => 25
  | .identify => 13
  | _ => 1

/-- The body size a reply requires: with any result but DONE the result byte alone, except that TABLE WRITE carries
its counts with every result but BUSY (spec/11). -/
def RequestKind.replySize (body : List Byte) (k : RequestKind) : Nat :=
  if body = [] then 1
  else if byteAt body 0 = Result.done.code then k.doneSize body
  else if k = .tableWrite ∧ byteAt body 0 ≠ Result.busy.code then 3
  else 1

/-- The body size that a kind other than a request requires: the layouts of the NOTICE, the reply UNKNOWN and the
replies, and nothing for a kind that has no layout on the depot link (R177, log 32). -/
def otherBodySize (kind : Byte) (body : List Byte) : Nat :=
  if kind = 0xE0 ∨ kind = 0xEF then 2
  else match requestKindOf (kind - 0x40) with
    | some k => k.replySize body
    | none => 0

/-- The command that the bytes of one received frame stand for: a bad frame, a good frame of an unknown
kind, or a request (R166, R177). -/
def depotCommand (bytes : List Byte) : Instr :=
  match openEnvelope bytes with
  | none => .depotBadFrame
  | some e =>
    match requestKindOf e.kind with
    | none => if e.body.length < otherBodySize e.kind e.body then .depotBadFrame else .depotUnknownFrame e.kind e.tag
    | some k => if e.body.length < k.bodySize e.body then .depotBadFrame else requestOf e.tag e.body k

/-! ### What the depot sends, for tests and statements -/

def rawCardBytes (r : RawCard) : List Byte := bytesBE 6 r.card.toNat ++ [r.action]
def rawProductBytes (r : RawProduct) : List Byte :=
  [r.flags, r.kind, r.riders, r.window] ++ bytesBE 2 r.allowance.toNat ++ [r.mask]
def rawClassBytes (r : RawClass) : List Byte := r.concession :: bytesBE 2 r.cap.toNat ++ [r.priority]
def rawBoundaryBytes (r : RawBoundary) : List Byte := bytesBE 2 r.start.toNat ++ [r.band]

/-- The code of the table a body names; a body out of range is spelled with table 0. -/
def tableCode : TableBody → Byte
  | .cards _ => 1
  | .products _ => 2
  | .fares _ => 3
  | .classes _ => 4
  | .timeBands _ => 5
  | .outOfRange _ => 0

def tableEntries : TableBody → List Byte
  | .cards es => es.flatMap rawCardBytes
  | .products es => es.flatMap rawProductBytes
  | .fares es => es.flatMap fun r => bytesBE 2 r.toNat
  | .classes es => es.flatMap rawClassBytes
  | .timeBands es => es.flatMap rawBoundaryBytes
  | .outOfRange _ => []

/-- The frame of a request (spec/11); none for a command that is no request. -/
def requestEnvelope : Instr → Option Envelope
  | .tableWrite tag start body =>
    some ⟨0x80, tag, tableCode body :: bytesBE 2 start.toNat ++ bytesBE 1 body.count ++ tableEntries body⟩
  | .cardInsert tag entry => some ⟨0x81, tag, rawCardBytes entry⟩
  | .cardRemove tag card => some ⟨0x82, tag, bytesBE 6 card.toNat⟩
  | .tableClear tag => some ⟨0x83, tag, []⟩
  | .tableCopy tag => some ⟨0x84, tag, []⟩
  | .tableActivate tag version expected timing day secs =>
    some ⟨0x85, tag, bytesBE 4 version.toNat ++ bytesBE 2 expected.toNat ++ timing :: bytesBE 2 day.toNat ++
      bytesBE 4 secs.toNat⟩
  | .tableStatus tag => some ⟨0x86, tag, []⟩
  | .berthArrive tag berth vessel capacity aboard reserve band =>
    some ⟨0x87, tag, berth :: bytesBE 2 vessel.toNat ++ bytesBE 2 capacity.toNat ++ bytesBE 2 aboard.toNat ++
      [reserve, band]⟩
  | .berthOpen tag berth => some ⟨0x88, tag, [berth]⟩
  | .berthClose tag berth => some ⟨0x89, tag, [berth]⟩
  | .berthDepart tag berth => some ⟨0x8A, tag, [berth]⟩
  | .berthCapacity tag berth capacity aboard =>
    some ⟨0x8B, tag, berth :: bytesBE 2 capacity.toNat ++ bytesBE 2 aboard.toNat⟩
  | .berthSource tag berth source => some ⟨0x8C, tag, [berth, source]⟩
  | .berthRead tag berth => some ⟨0x8D, tag, [berth]⟩
  | .laneSetup tag lane mode berth => some ⟨0x8E, tag, [lane, mode, berth]⟩
  | .laneReset tag lane => some ⟨0x8F, tag, [lane]⟩
  | .laneRead tag lane option => some ⟨0x90, tag, [lane, option]⟩
  | .journalRead tag count => some ⟨0x91, tag, [count]⟩
  | .journalRelease tag sequence => some ⟨0x92, tag, bytesBE 4 sequence.toNat⟩
  | .journalStatus tag option => some ⟨0x93, tag, [option]⟩
  | .clockSet tag day secs => some ⟨0x94, tag, bytesBE 2 day.toNat ++ bytesBE 4 secs.toNat⟩
  | .clockRead tag => some ⟨0x95, tag, []⟩
  | .settingWrite tag setting berth value => some ⟨0x96, tag, setting :: berth :: bytesBE 2 value.toNat⟩
  | .settingRead tag => some ⟨0x97, tag, []⟩
  | .lineSetup tag line entry parameter options => some ⟨0x98, tag, [line, entry, parameter, options]⟩
  | .lineRead tag => some ⟨0x99, tag, []⟩
  | .releaseStart tag => some ⟨0x9A, tag, []⟩
  | .releaseEnd tag => some ⟨0x9B, tag, []⟩
  | .noticeRead tag => some ⟨0x9C, tag, []⟩
  | .noticeClear tag named => some ⟨0x9D, tag, bytesBE 2 named.toNat⟩
  | .controlReset tag => some ⟨0x9E, tag, []⟩
  | .identify tag => some ⟨0x9F, tag, []⟩
  | _ => none

/-! ### Frames the device sends -/

/-- A manifest block of 22 bytes. -/
def Counts.bytes (c : Counts) : List Byte :=
  bytesBE 2 c.held ++ bytesBE 2 c.granted ++ bytesBE 2 c.passed ++ bytesBE 2 c.unpaid ++ bytesBE 2 c.tallied ++
    bytesBE 2 c.reverse ++ bytesBE 2 c.forfeited ++ bytesBE 2 c.admissions ++ bytesBE 2 c.refusals ++ bytesBE 4 c.revenue

/-- The flags byte of BERTH READ. -/
def berthFlags (b : Berth) : Nat :=
  packBits [b.vessel.isSome, b.source == .tally, b.halted, b.lastCall, b.quietTimer.isSome, b.closed.isSome]

/-- The BERTH READ body after the result; a field without meaning is zero (R178). -/
def berthBytes (b : Berth) : List Byte :=
  let v := b.vessel.getD ⟨0, 0, 0, 0, 0⟩
  let c := b.closed.getD ⟨0, Counts.zero⟩
  b.state.code :: bytesBE 1 (berthFlags b) ++ bytesBE 2 v.number ++ bytesBE 2 v.capacity ++ bytesBE 2 v.aboard ++
    bytesBE 1 v.reserveAsked ++ bytesBE 1 v.band.val ++ bytesBE 2 b.effective ++ bytesBE 1 b.reserve ++
    bytesSigned 4 b.room ++ b.counts.bytes ++ bytesBE 2 c.vessel ++ c.counts.bytes

/-- The LANE READ body after the result. -/
def laneBytes (l : Lane) (p : PierCounts) : List Byte :=
  [l.mode.code, l.mode.berthByte, l.status.code, l.txn.code, l.leaf.code] ++ bytesBE 1 l.leaf.credits ++
    [l.gateOrder.code] ++ bytesBE 1 l.link.misses ++ [l.link.tag] ++
    bytesBE 2 l.counters.taps ++ bytesBE 2 l.counters.admissions ++ bytesBE 2 l.counters.refusals ++
    bytesBE 2 l.counters.inward ++ bytesBE 2 l.counters.outward ++ bytesBE 2 l.counters.unpaid ++
    bytesBE 2 l.counters.forfeited ++ bytesBE 2 l.counters.misses ++ [l.lastReset.code] ++
    bytesBE 4 p.exits ++ bytesBE 4 p.wrongWay ++ bytesBE 4 p.unpaid

/-- The kind body of a record, 26 bytes. -/
def RecordBody.bytes : RecordBody → List Byte
  | .fields f =>
    bytesBE 6 f.card.toNat ++ bytesBE 1 f.product ++ bytesBE 1 f.cls ++ [(f.refusal.map (·.code)).getD 0] ++
      bytesBE 1 f.riders ++ bytesBE 2 f.charge ++ bytesSigned 2 f.newBalance ++ bytesBE 4 f.version.toNat ++ bytesBE 8 0
  | .manifest m => bytesBE 2 m.vessel ++ m.counts.bytes ++ bytesBE 2 0

/-- A record of 40 bytes. -/
def Record.bytes (r : Record) : List Byte :=
  bytesBE 4 r.sequence.toNat ++ bytesBE 2 r.day ++ bytesBE 4 r.secs ++ [r.draft.kind.code] ++
    bytesBE 1 (packBits [r.draft.marks.watch, r.draft.marks.orphan, r.draft.marks.release]) ++
    [(r.draft.lane.map number).getD 0, (r.draft.berth.map number).getD 0] ++ r.draft.body.bytes

def BankSummary.bytes (b : BankSummary) : List Byte :=
  bytesBE 4 b.version.toNat ++ bytesBE 2 b.cards ++ bytesBE 1 b.products ++ bytesBE 1 b.boundaries

def Settings.bytes (x : Settings) : List Byte :=
  bytesBE 1 x.pierNumber ++ bytesBE 1 x.holdTime ++ bytesBE 1 x.writeTime ++ bytesBE 1 x.recoveryTime ++
    bytesBE 1 x.passback ++ bytesBE 2 x.overdraft ++ bytesBE 1 x.quietUnit ++ bytesBE 1 x.depotSilence ++
    bytesBE 1 x.journalBatch ++ bytesBE 1 x.missLimit ++ x.gangway.toList.flatMap (bytesBE 2) ++
    bytesBE 2 x.mask.toNat ++ [boolByte x.keep]

def LineReport.bytes (r : LineReport) : List Byte :=
  [r.entry.code, r.entry.parameter] ++ bytesBE 1 (packBits [r.entry.inverted, r.debounced == .high, r.drivenLow])

/-- The result a reply carries. -/
def ReplyBody.result : ReplyBody → Result
  | .plain r => r
  | .tableWrite r _ _ => r
  | _ => .done

/-- The reply body after the result byte. DESIGN CHOICE (log 35): that of IDENTIFY has every field that spec/11 lists, 12
bytes, which with the result byte make 13. -/
def ReplyBody.contents : ReplyBody → List Byte
  | .plain _ => []
  | .tableWrite _ written notWritten => bytesBE 1 written ++ bytesBE 1 notWritten
  | .activated swapped => [boolByte !swapped]
  | .tableStatus a b active shadow locked instant =>
    a.bytes ++ b.bytes ++ [bankByte active, bankByte (some shadow), boolByte locked, boolByte instant.isSome] ++
      bytesBE 2 ((instant.map (·.day)).getD 0) ++ bytesBE 4 ((instant.map (·.secs)).getD 0)
  | .arrived capacity aboard reserve effective =>
    bytesBE 2 capacity ++ bytesBE 2 aboard ++ bytesBE 1 reserve ++ bytesBE 2 effective
  | .recapacitated capacity aboard effective => bytesBE 2 capacity ++ bytesBE 2 aboard ++ bytesBE 2 effective
  | .berth b => berthBytes b
  | .lane l p => laneBytes l p
  | .records rs => bytesBE 1 rs.length ++ rs.flatMap Record.bytes
  | .released n => bytesBE 2 n
  | .journalStatus present reserved oldest next tally batch =>
    bytesBE 2 present ++ bytesBE 1 reserved ++ [boolByte oldest.isSome] ++
      bytesBE 4 ((oldest.map (·.toNat)).getD 0) ++ bytesBE 4 next.toNat ++ tally.toList.flatMap (bytesBE 2) ++
      bytesBE 1 batch
  | .clockApplied day secs => bytesBE 2 day ++ bytesBE 4 secs
  | .clock isSet day secs => boolByte isSet :: bytesBE 2 day ++ bytesBE 4 secs
  | .settingApplied name unit value => name :: unit :: bytesBE 2 value
  | .settings x => x.bytes
  | .lines rs => rs.flatMap LineReport.bytes
  | .release active => [boolByte active]
  | .notices flags mask => bytesBE 2 flags.toNat ++ bytesBE 2 mask.toNat
  | .cleared flags => bytesBE 2 flags.toNat
  | .identity part revision a b active =>
    bytesBE 2 part ++ bytesBE 1 revision ++ bytesBE 4 a.toNat ++ bytesBE 4 b.toNat ++ [bankByte active]

/-- A frame of the transmit pair: a reply has its request's kind plus 0x40, the reply UNKNOWN kind 0xEF, a
NOTICE kind 0xE0 and tag 0 (spec/11). -/
def DepotFrame.bytes : DepotFrame → List Byte
  | .reply kind tag body => Envelope.bytes ⟨BitVec.ofNat 8 (kind.code + 0x40), tag, body.result.code :: body.contents⟩
  | .unknown tag kind => Envelope.bytes ⟨0xEF, tag, [unknownResult, kind]⟩
  | .notice flags => Envelope.bytes ⟨0xE0, 0, bytesBE 2 flags.toNat⟩

end Sys2Proof.Machine
end

