-- ==== Sys2Proof/Safety.lean ====
section
/-! DEFINITION. What a safe state is: the laws that the manual states of the whole device, as predicates that
every step is to keep, and the words the statements share for the end of an event. -/

namespace Sys2Proof.Machine

/-! ### The gate order (R19) -/

/-- Every lane holds the gate order of R19. -/
abbrev State.gatesInOrder (s : State) : Prop := ∀ l : LaneId, (s.lane l).gateOrder = s.wantedOrder l

/-! ### The slots of the lane link (R4, R5, R8, R11) -/

/-- A frame in the pending command waits behind a frame of the other kind in the command slot, only a GATE is
stale, and the miss count is at most 8 (R4, R5, R11). -/
def Link.lawful (k : Link) : Bool :=
  (match k.command, k.waiting with
    | none, none => true
    | none, some _ => false
    | some _, none => true
    | some c, some w => c.frame.isCardWrite != w.isCardWrite) &&
  (match k.command with
    | some c => !c.stale || (c.sent && !c.frame.isCardWrite)
    | none => true) &&
  decide (k.misses ≤ 8)

/-- The slots hold at most one CARD WRITE and at most one GATE between them at every lane (R5). -/
abbrev State.slotsLawful (s : State) : Prop := ∀ l : LaneId, (s.lane l).link.lawful = true

/-! ### The Journal (R144, R147, R153) -/

/-- The records carry consecutive sequence numbers, the newest one below the next number (R144, R152). -/
abbrev Journal.numbered (j : Journal) : Prop :=
  j.records.map (·.sequence) =
    (List.range j.records.length).map fun i => j.next - BitVec.ofNat 32 j.records.length + BitVec.ofNat 32 i

/-! ### The settings (spec/10, "Settings") -/

/-- Every setting lies in its range. -/
abbrev Settings.inRange (x : Settings) : Prop :=
  x.pierNumber ≤ 255 ∧ 2 ≤ x.holdTime ∧ x.holdTime ≤ 30 ∧ 1 ≤ x.writeTime ∧ x.writeTime ≤ 5 ∧
  5 ≤ x.recoveryTime ∧ x.recoveryTime ≤ 60 ∧ x.passback ≤ 30 ∧ x.overdraft ≤ 500 ∧ x.quietUnit ≤ 255 ∧
  x.depotSilence ≤ 255 ∧ x.journalBatch ≤ 255 ∧ 1 ≤ x.missLimit ∧ x.missLimit ≤ 8 ∧
  ∀ b : BerthId, x.gangway[b] ≤ 1200

/-- The settings in their ranges, the batch counter at most 254 (R153), the clock's values in theirs, with
0 and 0 while it is UNSET, and running when and only when it is SET (R62, R66). -/
abbrev State.valuesInRange (s : State) : Prop :=
  s.settings.inRange ∧ s.journal.batch ≤ 254 ∧ s.clock.day ≤ 65535 ∧ s.clock.secs ≤ 86399 ∧
  s.clock.running = s.clock.isSet ∧ (s.clock.isSet = false → s.clock.day = 0 ∧ s.clock.secs = 0)

/-! ### The tables (R72, R126, R130, R131, R137, R140) -/

/-- Strictly ascending card numbers, none 0 or all ones (R130). -/
abbrev Bank.cardsAscend (k : Bank) : Prop :=
  k.cards.Pairwise (fun x y => x.card < y.card) ∧ (∀ x ∈ k.cards, cardInRange x.card = true)

/-- Strictly ascending start minutes up to 1439 (R130). -/
abbrev Bank.bandsAscend (k : Bank) : Prop :=
  k.bands.Pairwise (fun x y => x.start < y.start) ∧ (∀ x ∈ k.bands, x.start ≤ 1439)

/-- The fields of the indexed tables in their ranges (R131). -/
abbrev Bank.fieldsInRange (k : Bank) : Prop :=
  (∀ i : Fin 64, 1 ≤ k.products[i].riders ∧ k.products[i].riders ≤ 6 ∧ k.products[i].window ≤ 240 ∧
    k.products[i].allowance ≤ 9999) ∧
  (∀ i : Fin 32, k.fares[i] ≤ 9999) ∧
  (∀ i : Fin 8, k.classes[i].concession ≤ 100 ∧ k.classes[i].cap ≤ 65535)

/-- One bank as the checks of the table requests leave it (spec/07, "Contents of a bank"). -/
abbrev Bank.sound (k : Bank) : Prop :=
  k.cardsAscend ∧ k.cards.length ≤ 4096 ∧ k.bandsAscend ∧ k.bands.length ≤ 7 ∧ k.fieldsInRange

/-- A table request waits on the read lock (R128). -/
def TableJob.waits (j : TableJob) : Bool := j.phase == .waiting

/-- A request has been taken, and its work in the shadow is still to be done (R128). -/
def TableJob.works (j : TableJob) : Bool := !j.waits

/-- The Table Store: both banks sound; the active bank, and the bank the validation in flight references, with
a time-band list of at least one boundary (R72); a pending activation only over a shadow that may become
active and that is not read-locked (R137, R138); a request waiting only on a locked shadow (R128, R140); and the
work of a request only in a shadow that is neither locked nor pending (R128, R136, R141). -/
abbrev State.tablesSound (s : State) : Prop :=
  s.bankA.sound ∧ s.bankB.sound ∧
  (∀ i, s.active = some i → (s.bank i).bands ≠ []) ∧
  (∀ i, s.referencedBank = some i → (s.bank i).bands ≠ [] ∧ s.active ≠ none) ∧
  (s.pendingActivation ≠ none → s.shadowBank.bands ≠ [] ∧ s.readLocked = false) ∧
  (s.request.any TableJob.waits = true → s.readLocked = true) ∧
  (s.request.any TableJob.works = true → s.pendingActivation = none ∧ s.readLocked = false)

/-! ### Release and the pier lines (R121, R155, R157, R160) -/

/-- Release is active while either source is; the line source and every halt flag follow the lines; an OUTPUT
line's debounced level is high. -/
abbrev State.linesFollowed (s : State) : Prop :=
  s.releaseActive = (s.frameSource || s.lineSource) ∧ s.lineSource = s.releaseLineLow ∧
  (∀ b : BerthId, (s.berth b).halted = s.haltCondition b) ∧
  (∀ i : LineId, (s.line i).entry.isOutput = true → (s.line i).debounced = .high)

/-! ### Places, transactions and reservations (R42, R91, R106, R112 to R117, R147) -/

/-- The riders a lane's WRITING transaction holds at a berth: none where it is orphaned (R114). -/
def Transaction.ridersAt (b : BerthId) : Transaction → Nat
  | .writing _ w => if w.berth = b ∧ w.orphaned = false then w.riders else 0
  | _ => 0

/-- The riders a recovery entry holds at a berth (R91). -/
def RecoveryEntry.ridersAt (b : BerthId) (e : RecoveryEntry) : Nat := if e.berth = b then e.riders else 0

/-- The credits a lane holds for a berth: those of an ENTRY lane of it (R117). -/
def Lane.creditsAt (b : BerthId) (x : Lane) : Nat := if x.mode = .entry b then x.credits else 0

/-- Whether a transaction holds a journal reservation (R147). -/
def Transaction.reserves : Transaction → Bool
  | .writing _ w => w.reservation
  | _ => false

/-- The places of the WRITING transactions and recovery entries of a berth (R114). -/
def State.heldFor (s : State) (b : BerthId) : Nat :=
  (allLanes.map fun l => (s.lane l).txn.ridersAt b).sum + (s.recovery.map (·.ridersAt b)).sum

/-- The passage credits at the lanes of a berth (R117). -/
def State.creditsFor (s : State) (b : BerthId) : Nat := (allLanes.map fun l => (s.lane l).creditsAt b).sum

/-- The reservations that transactions and recovery entries hold (R147). -/
def State.reservationsHeld (s : State) : Nat :=
  allLanes.countP (fun l => (s.lane l).txn.reserves) + s.recovery.countP (·.reservation)

/-- The state of a berth follows its room (R106); IDLE holds nothing, and ALONGSIDE holds and grants
nothing (R111, R112). -/
def Berth.lawful (b : Berth) : Bool :=
  match b.state with
  | .idle => b.vessel.isNone && b.effective == 0 && b.counts == Counts.zero
  | .alongside => b.vessel.isSome && b.counts.held == 0 && b.counts.granted == 0
  | .boarding => b.vessel.isSome && decide (0 < b.room)
  | .full => b.vessel.isSome && decide (b.room ≤ 0)
  | .closed => b.vessel.isSome

/-- The counts of a berth: held and granted stand for the writes, entries and credits of the berth, and held
plus granted plus passed never exceeds E (R106, R114, R117). -/
abbrev State.berthSound (s : State) (b : BerthId) : Prop :=
  (s.berth b).lawful = true ∧ (s.berth b).counts.held = s.heldFor b ∧
  (s.berth b).counts.granted = s.creditsFor b ∧ (s.berth b).counts.committed ≤ (s.berth b).effective

/-- The transaction of a lane agrees with its mode, with release, and with the lane room of R53. -/
def Lane.txnLawful (release : Bool) (x : Lane) : Bool :=
  match x.txn with
  | .none => true
  | .waiting _ | .validating _ => x.mode.berth?.isSome && !release
  | .writing _ w =>
    x.mode.berth?.isSome && decide (1 ≤ w.riders) &&
      (w.orphaned || (x.mode == .entry w.berth && !release && decide (x.credits + w.riders ≤ 15)))

/-- The leaf of a lane: credits, 1 to 15, only at an ENTRY lane outside release (R162); the hold timer runs
when and only when there are credits (R26); an OFFLINE lane has neither transaction nor credits (R12, R14);
the saved mode is the mode while release is active (R161, R163). -/
def Lane.lawful (release : Bool) (x : Lane) : Bool :=
  x.txnLawful release &&
  (match x.leaf with
    | .opened n => decide (1 ≤ n) && decide (n ≤ 15) && x.mode.berth?.isSome && !release
    | _ => true) &&
  (x.holdTimer.isSome == decide (0 < x.credits)) &&
  (x.status == .online || (x.txn == .none && x.credits == 0)) &&
  (!release || x.savedMode == x.mode)

/-- The validation in flight: its lane is the one lane VALIDATING, with its image and berth; the product found
carries at least one rider, and past stage 8 those fit beside the lane's credits (R43, R53). With the engine
FREE no lane is VALIDATING, and none is WAITING (R42). -/
def State.engineSound (s : State) : Bool :=
  match s.engine with
  | some v =>
    (s.lane v.lane).txn == .validating v.image && (s.lane v.lane).mode == .entry v.berth &&
    allLanes.all (fun l => l == v.lane || !((s.lane l).txn matches .validating _)) &&
    v.product.all (fun p => decide (1 ≤ p.riders) &&
      (v.stage != .decision || decide ((s.lane v.lane).credits + p.riders ≤ 15)))
  | none => allLanes.all fun l => !((s.lane l).txn matches .waiting _ | .validating _)

/-- The laws of admission in one: no berth is oversold, every held place, credit and reservation has its
owner, at most 8 recovery entries with distinct cards stand in the list, and the journal's records and
reservations fit. -/
abbrev State.placesSound (s : State) : Prop :=
  (∀ b : BerthId, s.berthSound b) ∧ (∀ l : LaneId, (s.lane l).lawful s.releaseActive = true) ∧
  s.engineSound = true ∧ s.recovery.length ≤ 8 ∧ (s.recovery.map (·.card)).Nodup ∧
  (∀ e ∈ s.recovery, 1 ≤ e.riders) ∧ (s.releaseActive = true → s.recovery = []) ∧
  s.journal.reservations = s.reservationsHeld ∧ s.journal.occupancy ≤ 2048 ∧
  s.bankA.fieldsInRange ∧ s.bankB.fieldsInRange

/-! ### The end of an event, and answers on the depot link (R42, R140, R166, R167, R168, R170) -/

/-- Nothing waits that could be served: with the engine FREE no lane is WAITING (R42), and a table request waits
only on a locked shadow (R128, R140). Every event leaves the device so. -/
abbrev State.atRest (s : State) : Prop :=
  (s.engine = none → ∀ l : LaneId, (s.lane l).txn.isWaiting = false) ∧
  (s.request.any TableJob.waits = true → s.readLocked = true)

/-- The NOTICE of an event that began with the flags `before` and ends in `u`: one where a flag went from clear
to set under a mask mark of 1, with all sixteen flags as they stand (R168). -/
def noticeFor (before : Half) (u : State) : List DepotFrame :=
  if u.flags &&& ~~~before &&& u.settings.mask = 0 then [] else [.notice u.flags]

/-- `u` with the NOTICE its event calls for. -/
def State.noticed (before : Half) (u : State) : State := { u with depotOut := u.depotOut ++ noticeFor before u }

/-- The silence timer after a good frame (R170). -/
def State.silenceLoaded (s : State) : Option Nat :=
  if s.settings.depotSilence = 0 then s.silenceTimer else some s.settings.depotSilence

/-- A good frame taken in `s` leaves `u` and sends `frames`: the silence state is quiet and the silence timer
loaded (R170). -/
def State.answered (s u : State) (frames : List DepotFrame) : State :=
  { u with depotLost := false, silenceTimer := s.silenceLoaded, depotOut := s.depotOut ++ frames }

/-- A request taken in `s` whose owner leaves `u`: the NOTICE, where one is due, and then the reply (R167). -/
def State.replied (s u : State) (kind : RequestKind) (tag : Byte) (body : ReplyBody) : State :=
  s.answered u (noticeFor s.flags u ++ [.reply kind tag body])

/-- The request kind and the tag of a command that is a depot request. -/
def requestKindAndTag : Instr → Option (RequestKind × Byte)
  | .tableWrite tag _ _          => some (.tableWrite, tag)
  | .cardInsert tag _            => some (.cardInsert, tag)
  | .cardRemove tag _            => some (.cardRemove, tag)
  | .tableClear tag              => some (.tableClear, tag)
  | .tableCopy tag               => some (.tableCopy, tag)
  | .tableActivate tag _ _ _ _ _ => some (.tableActivate, tag)
  | .tableStatus tag             => some (.tableStatus, tag)
  | .berthArrive tag _ _ _ _ _ _ => some (.berthArrive, tag)
  | .berthOpen tag _             => some (.berthOpen, tag)
  | .berthClose tag _            => some (.berthClose, tag)
  | .berthDepart tag _           => some (.berthDepart, tag)
  | .berthCapacity tag _ _ _     => some (.berthCapacity, tag)
  | .berthSource tag _ _         => some (.berthSource, tag)
  | .berthRead tag _             => some (.berthRead, tag)
  | .laneSetup tag _ _ _         => some (.laneSetup, tag)
  | .laneReset tag _             => some (.laneReset, tag)
  | .laneRead tag _ _            => some (.laneRead, tag)
  | .journalRead tag _           => some (.journalRead, tag)
  | .journalRelease tag _        => some (.journalRelease, tag)
  | .journalStatus tag _         => some (.journalStatus, tag)
  | .clockSet tag _ _            => some (.clockSet, tag)
  | .clockRead tag               => some (.clockRead, tag)
  | .settingWrite tag _ _ _      => some (.settingWrite, tag)
  | .settingRead tag             => some (.settingRead, tag)
  | .lineSetup tag _ _ _ _       => some (.lineSetup, tag)
  | .lineRead tag                => some (.lineRead, tag)
  | .releaseStart tag            => some (.releaseStart, tag)
  | .releaseEnd tag              => some (.releaseEnd, tag)
  | .noticeRead tag              => some (.noticeRead, tag)
  | .noticeClear tag _           => some (.noticeClear, tag)
  | .controlReset tag            => some (.controlReset, tag)
  | .identify tag                => some (.identify, tag)
  | .powerOn | .pollTurn | .answer _ | .answerWindowExpiry | .holdTimerExpiry _ | .stageService
  | .stageRecoveryMatch | .stageCardStatus | .stageProduct | .stagePassback | .stageBerthState | .stageFare
  | .stageLaneRoom | .decisionEvent | .writeTimerExpiry _ | .recoveryExpiry _ | .quietTimerExpiry _
  | .clockAdvance | .tableWorkDone | .lineDebounce _ | .silenceTimerExpiry | .depotBadFrame
  | .depotUnknownFrame _ _ | .lineLevelChange _ _ | .answerBegins => none

/-- The requests that change the shadow: operations of the Table Store, which may wait for the read lock (R128). -/
def RequestKind.changesShadow : RequestKind → Bool
  | .tableWrite | .cardInsert | .cardRemove | .tableClear | .tableCopy | .tableActivate => true
  | _ => false

/-- The numeric settings that belong to no berth: code (spec/11) and range (spec/10, "Settings"). -/
def numericSettings : List (Byte × Nat × Nat) :=
  [(0x01, 0, 255), (0x02, 2, 30), (0x03, 1, 5), (0x04, 5, 60), (0x05, 0, 30), (0x06, 0, 500), (0x07, 0, 255),
   (0x08, 0, 255), (0x09, 0, 255), (0x0A, 1, 8)]

/-- The value of the numeric setting of a code. -/
def Settings.numeric (x : Settings) (code : Byte) : Nat :=
  match code.toNat with
  | 0x01 => x.pierNumber
  | 0x02 => x.holdTime
  | 0x03 => x.writeTime
  | 0x04 => x.recoveryTime
  | 0x05 => x.passback
  | 0x06 => x.overdraft
  | 0x07 => x.quietUnit
  | 0x08 => x.depotSilence
  | 0x09 => x.journalBatch
  | 0x0A => x.missLimit
  | _ => 0

/-! ### Lanes in the statements -/

/-- A count raised by `k` that stops at `top`; one raised by 0 is left as it stands (spec/00, Conventions). -/
def raised (top n k : Nat) : Nat := if k = 0 then n else min top (n + k)

/-- A lane after a good answer with the report number `n` has acknowledged the frame its turn carried and its
new report has been noted (R7, R9, R11). -/
def Lane.answeredBy (x : Lane) (c : Carried) (n : Byte) : Lane :=
  { x with link := { x.link.acknowledge c with misses := 0, acked := some n } }

/-- A lane after a miss: the miss count up to 8, the lane's miss counter, and no frame stale (R8, R11). -/
def Lane.missed (x : Lane) : Lane :=
  { x with
    link := { x.link with
      command := x.link.command.map fun k => { k with stale := false }
      misses := min 8 (x.link.misses + 1) }
    counters := { x.counters with misses := min 65535 (x.counters.misses + 1) } }

/-- A lane that shows a code (R6). -/
def Lane.showing (x : Lane) (code : DisplayCode) : Lane :=
  { x with link := { x.link with display := some ⟨code, false⟩ } }

/-- A GATE stands in the command slot or the pending command (R5). -/
def Link.holdsGate (k : Link) : Bool :=
  (k.command.map fun c => !c.frame.isCardWrite).getD false || (k.waiting.map fun f => !f.isCardWrite).getD false

/-- The state `s` with one lane replaced. -/
def State.withLane (s : State) (l : LaneId) (x : Lane) : State := { s with lanes := s.lanes.set l x }
/-- The state `s` with one berth replaced. -/
def State.withBerth (s : State) (b : BerthId) (x : Berth) : State := { s with berths := s.berths.set b x }

/-- A berth whose counts change in an event that works room out afresh; in IDLE the request is not applied
(R106, R111). -/
def Berth.counted (b : Berth) (f : Counts → Counts) : Berth :=
  if b.state = .idle then b else { b with counts := f b.counts }.follow

/-- The draft of a record of a card write or a recovery entry (R86, R92). -/
def cardDraft (kind : RecordKind) (marks : Marks) (l : LaneId) (b : BerthId) (card : CardNo) (product : Fin 64)
    (cls : ClassId) (riders charge : Nat) (balance : Int) (version : Quad) : Draft :=
  ⟨kind, marks, some l, some b, .fields ⟨card, product.val, cls.val, none, riders, charge, balance, version⟩⟩

/-- The records of an event, one after another, each with whether it has a reservation (R144). -/
def State.recordAll (s : State) (records : List (Bool × Draft)) : State :=
  records.foldl (fun u d => u.record d.1 d.2) s

/-- The FORFEIT record of a lane that loses its credits; none at a lane without (R27). -/
def Lane.forfeitRecords (x : Lane) (l : LaneId) (release : Bool) : List (Bool × Draft) :=
  match x.mode with
  | .entry b => if x.credits = 0 then [] else [(false, ⟨.forfeit, ⟨false, false, release⟩, some l, some b,
      .fields { CardFields.zero with riders := x.credits }⟩)]
  | _ => []

/-- The UNRESOLVED record of a lane's write that ends with its outcome unknown (R38, R90). -/
def Transaction.unresolvedRecords (l : LaneId) : Transaction → List (Bool × Draft)
  | .writing image w => [(w.reservation, cardDraft .unresolved ⟨w.watch, w.orphaned, false⟩ l w.berth image.card
      w.product w.cls w.riders w.charge w.image.balance w.version)]
  | _ => []

/-- The UNRESOLVED record of a recovery entry that is closed (R92). -/
def RecoveryEntry.unresolvedRecord (release : Bool) (e : RecoveryEntry) : Bool × Draft :=
  (e.reservation, cardDraft .unresolved ⟨e.watch, false, release⟩ e.lane e.berth e.card e.product e.cls e.riders
    e.charge e.image.balance e.version)

/-! ### The end of a stage (R22, R45, R56, R57) -/

/-- The REFUSED record of R57. -/
def State.refusedRecord (s : State) (v : Validation) (cls : ClassId) (riders : Nat) (watch : Bool)
    (code : RefusalCode) : Draft :=
  ⟨.refused, ⟨watch, false, false⟩, some v.lane, some v.berth,
    .fields ⟨v.image.card, v.image.product.val, cls.val, some code, riders, 0, v.image.balance, s.versionOf v⟩⟩

/-- A lane after a REFUSE decision: transaction NONE, refusals counted, and the code shown where the lane takes
frames (R13, R22, R56). -/
def Lane.refused (x : Lane) (code : RefusalCode) : Lane :=
  let y := { x with txn := .none, counters := { x.counters with refusals := min 65535 (x.counters.refusals + 1) } }
  if x.status = .online ∧ x.mode ≠ .absent then y.showing code.display else y

/-- The device after a refusal: the record, the lane, the engine FREE, WATCH CARD for a marked decision, and
then the waiting table request and the arbiter's search (R56, R57, R140, R42). -/
def State.refusedAt (s : State) (v : Validation) (cls : ClassId) (riders : Nat) (watch : Bool) (code : RefusalCode) :
    State :=
  let r := s.record false (s.refusedRecord v cls riders watch code)
  State.endEvent { r with
    lanes := s.lanes.set v.lane ((s.lane v.lane).refused code)
    engine := none
    flags := if watch then r.flags ||| 2#16 else r.flags } s.flags

/-- The device after a stage that the validation passed, its results now in `v` (R45). -/
def State.passedTo (s : State) (v : Validation) : State :=
  State.endEvent { s with engine := some v } s.flags

/-- `refusedAt` with the class, riders and WATCH mark that the stages before have left in the validation (R57). -/
def State.refusedBy (s : State) (v : Validation) (code : RefusalCode) : State :=
  s.refusedAt v (v.cls.getD v.image.cls) ((v.product.map (·.riders)).getD 0) v.watch code

/-! ### Turns, passages, requests -/

/-- The poll turn that may begin now is with lane `l`: no turn is in progress, the lane is in the poll list, and
no lane that comes between the lane last polled and `l` in the rotation is (R1, R2). -/
abbrev State.turnsTo (s : State) (l : LaneId) : Prop :=
  s.turn = none ∧ (s.lane l).mode ≠ .absent ∧
  ∀ m : LaneId, m - s.lastPolled - 1 < l - s.lastPolled - 1 → (s.lane m).mode = .absent

/-- The downward frame of a turn whose body is `body`, with the tag given (R3). -/
def Lane.frameDown (x : Lane) (l : LaneId) (tag : Byte) (body : DownBody) : DownFrame := ⟨l, x.link.acked, tag, body⟩

/-- A lane with its GATE order worked out anew and a GATE asked for outside a turn that carries one (R5, R19). -/
def Lane.gated (x : Lane) (release : Bool) : Lane :=
  let y := { x with gateOrder := wantedGateOrder release x.mode x.leaf }
  if x.status = .online ∧ x.mode ≠ .absent then { y with link := y.link.placeGate false } else y

/-- A lane that asks to show FREE EXIT where release is active and its mode is ENTRY or CLOSED (R162). -/
def Lane.freed (x : Lane) (release : Bool) : Lane :=
  if release = true ∧ x.mode.releasable = true ∧ x.status = .online then x.showing .freeExit else x

/-- The code for a tap that is not latched, the first of R21's list whose condition holds; none for a tap that is
latched, and at an ABSENT lane. -/
def Lane.untakenCode (x : Lane) (release : Bool) : Option DisplayCode :=
  match x.mode with
  | .absent => none
  | .exit => some .laneClosed
  | .closed => if release then some .freeExit else some .laneClosed
  | .entry _ =>
    if release then some .freeExit
    else if x.txn ≠ .none then some .wait
    else if x.leaf = .fault then some .seeStaff
    else none

/-- The device after a LANE SETUP with the mode `m`: STATE during release, BUSY at a lane with a transaction or a leaf
not SHUT; else the mode taken, the slots of a lane that becomes ABSENT emptied and a turn in progress with it marked
(R10), and at an ONLINE lane of another mode a GATE asked for (R16, R39). -/
def State.laneSetUp (s : State) (l : LaneId) (m : Mode) (tag : Byte) : State :=
  let x := s.lane l
  let y :=
    if m = .absent then { x with
      mode := .absent, status := .offline, gateOrder := .shut
      link := { x.link with command := none, waiting := none, display := none, misses := 0 } }
    else { x with
      mode := m
      gateOrder := if m = .exit then .openFree else .shut
      link := if x.status = .online then x.link.placeGate (s.carriedBy l) else x.link }
  let turn := if m = .absent then
      s.turn.map fun t => if t.lane = l then { t with absented := true } else t
    else s.turn
  if s.releaseActive then s.answered s [.reply .laneSetup tag (.plain .state)]
  else if x.txn = .none ∧ x.leaf = .shut then
    s.answered { s.withLane l y with turn := turn } [.reply .laneSetup tag (.plain .done)]
  else s.answered s [.reply .laneSetup tag (.plain .busy)]

/-- The engine granted to a lane of a berth whose transaction was WAITING with `image`, with the values of R43
(R42). -/
def State.grantedTo (s : State) (l : LaneId) (b : BerthId) (image : CardImage) : State :=
  { s.withLane l { s.lane l with txn := .validating image } with
    lastGranted := l
    engine := some ⟨l, b, image, s.clock.day, s.clock.secs, s.clock.isSet, s.active, .service, none, false, none, none,
      none⟩ }

/-- Lane `l` is the first WAITING lane above the last-granted one, wrapping (R42). -/
abbrev State.firstWaiting (s : State) (l : LaneId) : Prop :=
  ∀ m : LaneId, m - s.lastGranted - 1 < l - s.lastGranted - 1 → (s.lane m).txn.isWaiting = false

/-- A FORFEIT record (R27). -/
def forfeitRecord (l : LaneId) (b : BerthId) (n : Nat) (release : Bool) : Draft :=
  ⟨.forfeit, ⟨false, false, release⟩, some l, some b, .fields { CardFields.zero with riders := n }⟩

/-- The recovery entry made from a write (R93). -/
def CardWrite.entry (w : CardWrite) (l : LaneId) (card : CardNo) (recoveryTime : Nat) : RecoveryEntry :=
  ⟨card, l, w.berth, w.riders, w.charge, w.image, w.product, w.cls, w.watch, w.version, w.reservation, recoveryTime⟩

/-- The state after an entry has been closed UNRESOLVED: its places released, its record written, the RECOVERY
UNRESOLVED flag set and the entry removed (R92). -/
def State.unresolved (s : State) (e : RecoveryEntry) : State :=
  let r := s.record e.reservation
    (cardDraft .unresolved ⟨e.watch, false, false⟩ e.lane e.berth e.card e.product e.cls e.riders e.charge
      e.image.balance e.version)
  { r.withBerth e.berth ((s.berth e.berth).counted fun c => { c with held := c.held - e.riders }) with
    recovery := s.recovery.filter (·.card != e.card)
    flags := r.flags ||| 0x40#16 }

/-- A lane after a lane reset: the transaction ended, the credits gone and counted, the leaf SHUT unless FAULT, the hold
timer stopped, the slots emptied but for the GATE asked for and the FREE EXIT of release, and the reason noted (R27,
R38, R162). -/
def Lane.resetFor (x : Lane) (release : Bool) (reason : ResetReason) : Lane :=
  Lane.freed (Lane.gated { x with
    txn := .none
    leaf := if x.leaf = .fault then .fault else .shut
    holdTimer := none
    lastReset := reason
    counters := { x.counters with forfeited := raised 65535 x.counters.forfeited x.credits }
    link := { x.link with command := none, waiting := none, display := none } } release) release

/-- What a lane reset makes of the lane's transaction: a validation in flight is abandoned; an orphaned write leaves its
UNRESOLVED record; any other write becomes the newest recovery entry, in place of the entry for its card or, in a list of
eight, of the oldest, which is closed UNRESOLVED (R38, R58, R93, R94, R95). -/
def State.transactionReset (s : State) (l : LaneId) (x : Lane) : State :=
  match x.txn with
  | .none | .waiting _ => s
  | .validating _ => { s with engine := none }
  | .writing image w =>
    if w.orphaned then s.recordAll (x.txn.unresolvedRecords l)
    else
      let closed := match s.recovery.find? (·.card == image.card) with
        | some e => some e
        | none => if s.recovery.length = 8 then s.recovery.head? else none
      let r := (closed.map s.unresolved).getD s
      { r with recovery := r.recovery ++ [w.entry l image.card s.settings.recoveryTime] }

/-- The device after a lane reset of lane `l`, which the event finds as `x`, before the event ends: the transaction, the
FORFEIT record and the places of the credits, and the lane (R27, R38, R117, R162). -/
def State.laneResetTo (s : State) (l : LaneId) (x : Lane) (reason : ResetReason) : State :=
  let r := (s.transactionReset l x).recordAll (x.forfeitRecords l false)
  let told := match x.mode with
    | .entry b => if x.credits = 0 then r else r.withBerth b ((r.berth b).counted fun c => { c with
        granted := c.granted - x.credits, forfeited := min 65535 (c.forfeited + x.credits) })
    | _ => r
  told.withLane l (x.resetFor s.releaseActive reason)

/-! ### The turnover (R110, R111) -/

/-- A lane of a berth whose vessel departs: its credits gone and counted, the leaf and the gate SHUT and a GATE asked for,
where it has credits (R19, R27, R110). -/
def Lane.vesselLeft (carried : Bool) (x : Lane) : Lane :=
  if x.credits = 0 then x
  else { x with
    leaf := .shut
    gateOrder := .shut
    holdTimer := none
    counters := { x.counters with forfeited := min 65535 (x.counters.forfeited + x.credits) }
    link := x.link.placeGate carried }

/-- A transaction after a departure from berth `b`: a write whose berth this is becomes orphaned (R90, R110). -/
def Transaction.leftAt (b : BerthId) : Transaction → Transaction
  | .writing image w => .writing image { w with orphaned := w.orphaned || w.berth == b }
  | other => other

/-- The manifest that a departure from berth `b` closes: every place passed, forfeited or released (R110, R111). -/
def State.manifestClosed (s : State) (b : BerthId) : ClosedManifest :=
  ⟨((s.berth b).vessel.map (·.number)).getD 0, { (s.berth b).counts with
    held := 0, granted := 0
    forfeited := raised 65535 (s.berth b).counts.forfeited (s.berth b).counts.granted }⟩

/-- The device after the turnover of berth `b`: its lanes, its writes orphaned, its entries closed, the berth IDLE with
the manifest closed, the FORFEIT, UNRESOLVED and MANIFEST records in that order, and the flags (R27, R92, R110, R111). -/
def State.departed (s : State) (b : BerthId) : State :=
  let closing := s.recovery.filter (·.berth = b)
  let r := s.recordAll ((allLanes.flatMap fun l =>
      if (s.lane l).mode = .entry b then (s.lane l).forfeitRecords l false else []) ++
    closing.map (·.unresolvedRecord false) ++
    [(false, ⟨.manifest, ⟨false, false, false⟩, none, some b, .manifest (s.manifestClosed b)⟩)])
  { r.withBerth b { s.berth b with
      state := .idle, vessel := none, effective := 0, reserve := 0, source := .gates, quietTimer := none
      lastCall := false, counts := ⟨0, 0, 0, 0, 0, 0, 0, 0, 0, 0⟩
      closed := some (s.manifestClosed b) } with
    lanes := .ofFn fun l =>
      let x := if (s.lane l).mode = .entry b then (s.lane l).vesselLeft (s.carriedBy l) else s.lane l
      { x with txn := x.txn.leftAt b }
    recovery := s.recovery.filter (·.berth ≠ b)
    flags := r.flags ||| (if closing = [] then 0 else 0x40#16) }

/-! ### Emergency release (R160 to R163) -/

/-- A lane when release starts: the mode saved, a WAITING or VALIDATING transaction dropped and a write orphaned, the
credits gone and counted, the leaf SHUT unless FAULT, and at an ENTRY or CLOSED lane the gate OPEN FREE with a GATE asked
for and FREE EXIT shown where the lane takes frames (R13, R27, R90, R161). -/
def Lane.releaseStarted (carried : Bool) (x : Lane) : Lane :=
  let y := { x with
    savedMode := x.mode
    txn := match x.txn with
      | .writing image w => .writing image { w with orphaned := true }
      | _ => .none
    leaf := if x.leaf = .fault then .fault else .shut
    holdTimer := none
    counters := { x.counters with forfeited := raised 65535 x.counters.forfeited x.credits } }
  if x.mode.releasable = false then y
  else if x.status = .offline then { y with gateOrder := .openFree }
  else { y with gateOrder := .openFree, link := y.link.placeGate carried }.showing .freeExit

/-- The device after release has started, a source having been set in `s`: the lanes, nothing held or granted at any
berth, the engine FREE, the recovery list empty, the FORFEIT record of each lane with credits in ascending number and the
UNRESOLVED record of each entry from the oldest, all with the RELEASE mark, and the flags (R27, R90, R92, R161). -/
def State.releaseBegun (s : State) : State :=
  let r := s.recordAll ((allLanes.flatMap fun l => (s.lane l).forfeitRecords l true) ++
    s.recovery.map (·.unresolvedRecord true))
  { r with
    lanes := .ofFn fun l => (s.lane l).releaseStarted (s.carriedBy l)
    berths := .ofFn fun b => Berth.follow { s.berth b with counts := { (s.berth b).counts with
      held := 0, granted := 0
      forfeited := raised 65535 (s.berth b).counts.forfeited (s.berth b).counts.granted } }
    engine := none
    recovery := []
    releaseActive := true
    flags := r.flags ||| 0x2000#16 ||| (if s.recovery = [] then 0 else 0x40#16) }

/-- A lane when release ends: the saved mode taken, the leaf SHUT, the gate order worked out, and where the lane takes
frames a GATE asked for and WAIT shown at an ENTRY lane, LANE CLOSED at a CLOSED one (R13, R163). -/
def Lane.releaseEnded (carried : Bool) (x : Lane) : Lane :=
  let y := { x with
    mode := x.savedMode, leaf := .shut, gateOrder := if x.savedMode = .exit then .openFree else .shut }
  if y.status = .offline ∨ y.mode = .absent then y
  else
    let z := { y with link := y.link.placeGate carried }
    match y.mode with
    | .exit | .absent => z
    | .closed => z.showing .laneClosed
    | .entry _ => z.showing .wait

/-- The device after release has ended, the last source having been cleared in `s` (R163). -/
def State.releaseOver (s : State) : State :=
  { s with
    lanes := .ofFn fun l => (s.lane l).releaseEnded (s.carriedBy l)
    releaseActive := false
    flags := s.flags ||| 0x2000#16 }

/-- The device with line `i` standing as `x`, the halt flags and the line release source following the lines (R121,
R157). -/
def State.withLine (s : State) (i : LineId) (x : PierLine) : State :=
  let read := { s with lines := s.lines.set i x }
  { read with
    berths := .ofFn fun b => { s.berth b with
      halted := decide (∃ j : LineId, (read.line j).entry = .inputHalt b ∧ (read.line j).debounced = .low) }
    lineSource := decide (∃ j : LineId, (read.line j).entry = .inputRelease ∧ (read.line j).debounced = .low) }

/-! ### The Table Store -/

/-- The table request a command carries (R128). -/
def tableRequestOf : Instr → Option (Byte × TableRequest)
  | .tableWrite tag start body => some (tag, .write start body)
  | .cardInsert tag entry => some (tag, .insert entry)
  | .cardRemove tag card => some (tag, .remove card)
  | .tableClear tag => some (tag, .clear)
  | .tableCopy tag => some (tag, .copy)
  | .tableActivate tag version expected timing day secs => some (tag, .activate version expected timing day secs)
  | _ => none

/-- The fields of a card entry lie in their ranges (R130). -/
def cardLawful (r : RawCard) : Bool :=
  r.card != 0 && r.card.toNat != 281474976710655 &&
    (r.action == 1 || r.action == 2 || (decide (8 ≤ r.action.toNat) && decide (r.action.toNat ≤ 15)))
/-- The card entry that bytes in their ranges spell (spec/11). -/
def cardSpelled (r : RawCard) : CardEntry :=
  ⟨r.card, if r.action = 1 then .block else if r.action = 2 then .watch else .cls (Fin.ofNat 8 r.action.toNat)⟩
/-- The fields of a boundary lie in their ranges (R130). -/
def boundaryLawful (r : RawBoundary) : Bool := decide (r.start.toNat ≤ 1439) && decide (r.band.toNat ≤ 3)
def boundarySpelled (r : RawBoundary) : Boundary := ⟨r.start.toNat, Fin.ofNat 4 r.band.toNat⟩
/-- The fields of a product lie in their ranges, be it valid or not (R131). -/
def productLawful (r : RawProduct) : Bool :=
  (r.kind == 1 || r.kind == 2 || r.kind == 3) && decide (1 ≤ r.riders.toNat) && decide (r.riders.toNat ≤ 6) &&
    decide (r.window.toNat ≤ 240) && decide (r.allowance.toNat ≤ 9999)
def productSpelled (r : RawProduct) : Product :=
  ⟨r.flags.getLsbD 0, if r.kind = 1 then .storedValue else if r.kind = 2 then .pass else .bundle, r.riders.toNat,
    r.window.toNat, r.allowance.toNat, r.mask⟩
/-- The fields of a class lie in their ranges (R131). -/
def classLawful (r : RawClass) : Bool := decide (r.concession.toNat ≤ 100) && decide (r.priority.toNat ≤ 1)
def classSpelled (r : RawClass) : RiderClass := ⟨r.concession.toNat, r.cap.toNat, r.priority == 1⟩

/-- The check of a card entry against the one before it, in a list that holds `count` (R130). -/
def cardCheck (before : Option CardEntry) (count : Nat) (r : RawCard) : Result :=
  if cardLawful r = false then .range
  else if before.any (fun e => decide (r.card < e.card)) then .order
  else if before.any (fun e => r.card == e.card) then .duplicate
  else if 4096 ≤ count then .capacity
  else .done

/-- The check of a boundary against the one before it, in a list that holds `count` (R130). -/
def boundaryCheck (before : Option Boundary) (count : Nat) (r : RawBoundary) : Result :=
  if boundaryLawful r = false then .range
  else if before.any (fun e => decide (r.start.toNat ≤ e.start)) then .order
  else if 7 ≤ count then .capacity
  else .done

/-- Entries `es` written after the list `base`: each one before the first that fails its check is appended, and the
write ends with the result of that check, or DONE (R129, R130). -/
abbrev orderedWrite {ρ α : Type} (check : Option α → Nat → ρ → Result) (entry : ρ → α) (base after : List α)
    (es : List ρ) (e : WriteEnd) : Prop :=
  after = base ++ (es.take e.written).map entry ∧ e.written ≤ es.length ∧ (e.written = es.length → e.result = .done) ∧
  ∀ j : Fin es.length,
    let c := check (if j.val = 0 then base.getLast? else es[j.val - 1]?.map entry) (base.length + j.val) es[j]
    (j.val < e.written → c = .done) ∧ (j.val = e.written → c = e.result ∧ c ≠ .done)

/-- Entries `es` written over a table from index `start` on: each one before the first whose index or field is out of
range stands at its index, every other entry is as it was, and the write ends with RANGE there, or DONE (R129, R131). -/
abbrev indexedWrite {ρ α : Type} {n : Nat} (lawful : ρ → Bool) (entry : ρ → α) (start : Nat) (before after : Vector α n)
    (es : List ρ) (e : WriteEnd) : Prop :=
  (∀ i : Fin n, after[i] =
    ((if start ≤ i.val ∧ i.val < start + e.written then es[i.val - start]? else none).map entry).getD before[i]) ∧
  e.written ≤ es.length ∧ (e.written = es.length → e.result = .done) ∧
  ∀ j : Fin es.length, (j.val < e.written → start + j.val < n ∧ lawful es[j] = true) ∧
    (j.val = e.written → e.result = .range ∧ (n ≤ start + j.val ∨ lawful es[j] = false))

/-- The instant is at or before the time of a clock (R67). -/
abbrev Instant.dueAt (i : Instant) (day secs : Nat) : Prop := i.day < day ∨ (i.day = day ∧ i.secs ≤ secs)

/-- The state after the swap of R139, whose record is stamped with the clock as it stands in `s`. -/
def State.swapped (s : State) : State :=
  let r := s.record false
    ⟨.activation, ⟨false, false, false⟩, none, none, .fields { CardFields.zero with version := s.shadowBank.version }⟩
  { r with active := some s.shadow, pendingActivation := none, flags := r.flags ||| 0x400#16 }

end Sys2Proof.Machine
end

