-- ==== Sys2Proof/Certificates/Slice0/Obligations.lean ====
section
/-! DEFINITION. The statements for the provers, family by family. A number R<n> is a rule of spec/; a statement
about a choice of the model names the entry of notes/assumptions it rests on. A statement whose premise is one of
the invariants of Safety.lean holds that premise on every run: the last section states that each invariant holds
at reset and is kept by every step. -/

open Sys2Proof Sys2Proof.Machine

/-! ### Every command -/

/-- A step runs the command at the front of the queue with the queue's rest; on an empty queue the device idles,
which is the model's choice (log 3). -/
def Obligations.TheFrontCommandRunsOnTheRest : Prop :=
  (∀ (c : Instr) (rest : List Instr) (s : State), step { s with pending := c :: rest } = exec c { s with pending := rest }) ∧
  ∀ s : State, s.pending = [] → step s = .next s

/-- Every command completes in every state and leaves the queue as it is. That a command for an event which the state
does not allow completes and changes nothing is the model's choice (log 2), and so is that POWER_ON, like every other
command, keeps the queue (log 25). -/
def Obligations.EveryCommandCompletesAndKeepsTheQueue : Prop :=
  ∀ (c : Instr) (s : State), ∃ t, exec c s = .next t ∧ t.pending = s.pending

/-- POWER_ON gives every piece of state its power-on value (R17, R18, R41, R62, R104, R127, R143, R164, R174). The
levels outside the lines, the counter of free values and the queue go on, and nothing is left on the transmit pair,
which are the model's choices (logs 13, 14, 20, 25). -/
def Obligations.PowerOnTakesEveryPowerOnValue : Prop :=
  ∀ s : State, ∃ t, exec .powerOn s = .next t ∧
    (t.lastPolled = 15 ∧ t.turn = none ∧ ∀ l : LaneId, t.lane l =
      ⟨.absent, .offline, .none, .shut, .shut, none, .absent, ⟨0, 0, 0, 0, 0, 0, 0, 0⟩, .powerOn,
        ⟨none, none, none, 0, 0, none⟩⟩) ∧
    (t.pier = ⟨0, 0, 0⟩ ∧ t.engine = none ∧ t.lastGranted = 15 ∧ t.recovery = []) ∧
    (∀ b : BerthId, t.berth b =
      ⟨.idle, none, 0, 0, .gates, false, none, false, ⟨0, 0, 0, 0, 0, 0, 0, 0, 0, 0⟩, none⟩) ∧
    (∀ i : BankId, (t.bank i).cards = [] ∧ (t.bank i).bands = [] ∧ (t.bank i).version = 0 ∧
      (∀ k : Fin 64, (t.bank i).products[k] = ⟨false, .storedValue, 1, 0, 0, 0⟩) ∧ (∀ k : Fin 32, (t.bank i).fares[k] = 0) ∧
      ∀ k : Fin 8, (t.bank i).classes[k] = ⟨0, 0, false⟩) ∧
    (t.active = none ∧ t.shadow = .a ∧ t.pendingActivation = none ∧ t.readLocked = false ∧ t.request = none) ∧
    (t.journal.records = [] ∧ t.journal.reservations = 0 ∧ t.journal.next = 0 ∧ t.journal.batch = 0 ∧
      ∀ k : Fin 10, t.journal.tally[k] = 0) ∧
    t.clock = ⟨false, 0, 0, false⟩ ∧
    (∀ i : LineId, t.line i = ⟨.unused, .high, (s.line i).level⟩) ∧
    (t.frameSource = false ∧ t.lineSource = false ∧ t.releaseActive = false) ∧
    (t.silenceTimer = some 30 ∧ t.depotLost = false ∧ t.flags = 0) ∧
    t.settings = ⟨0, 8, 2, 20, 5, 0, 0, 30, 0, 3, .replicate 4 1200, 0xFFFF, false⟩ ∧
    (t.depotOut = [] ∧ t.freeCount = s.freeCount ∧ t.pending = s.pending)

/-- What an event that began with the flags `before` ends with: a table request waiting on a free lock is taken first
(R140), and then, with the engine FREE, the first WAITING lane above the last-granted one, wrapping, is granted, in the
state that the request leaves (R42, R43); with the engine BUSY or no lane WAITING the request alone is taken, and where
nothing waits that could be served nothing changes. The NOTICE follows, where one is due (R168), and then the reply of a
TABLE ACTIVATE, which ends with its taking by the model's reading (log 7); every other request works on. A WAITING lane
is an ENTRY lane on every run (the laws of admission below; log 24). -/
def Obligations.TheEndOfAnEventServesWhatWaits : Prop :=
  (∀ (s : State) (before : Half), s.atRest → s.endEvent before = s.noticed before) ∧
  (∀ (s : State) (before : Half) (j : TableJob), s.request = some j → j.phase = .waiting → s.readLocked = false →
    let ends := j.request.kind = .tableActivate
    let r := s.takeTable j.request
    let u := { r.1 with request := if ends then none else some { j with phase := .working r.2 } }
    let replies := if ends then [.reply .tableActivate j.tag r.2] else []
    (s.engine ≠ none ∨ (∀ l : LaneId, (s.lane l).txn.isWaiting = false) →
      s.endEvent before = (u.noticed before).send replies) ∧
    (s.engine = none → ∀ (l : LaneId) (b : BerthId) (image : CardImage), (s.lane l).txn = .waiting image →
      (s.lane l).mode = .entry b → s.firstWaiting l →
      s.endEvent before = ((u.grantedTo l b image).noticed before).send replies)) ∧
  ∀ (s : State) (before : Half), s.engine = none → s.request.any TableJob.waits = false →
    ∀ (l : LaneId) (b : BerthId) (image : CardImage), (s.lane l).txn = .waiting image → (s.lane l).mode = .entry b →
    s.firstWaiting l → s.endEvent before = (s.grantedTo l b image).noticed before

/-- A flag once set stays set through every command but the depot's NOTICE_CLEAR, CONTROL_RESET and POWER_ON
(R168, R169). -/
def Obligations.FlagsStaySetUntilTheDepotClearsThem : Prop :=
  ∀ (c : Instr) (s t : State), exec c s = .next t → (∀ tag named, c ≠ .noticeClear tag named) →
    (∀ tag, c ≠ .controlReset tag) → c ≠ .powerOn → s.flags &&& ~~~t.flags = 0

/-- An event that is no request sends one NOTICE, with all sixteen flags as they stand at its end, when and only
when it sets a flag whose mask mark is 1 (R168). Where a table request in progress ends in the event, its one reply, with
its tag, follows (R128, R140, R167), and nothing else is sent. -/
def Obligations.EventsEndInOneNoticeWhereOneIsDue : Prop :=
  ∀ (c : Instr) (s t : State), exec c s = .next t → requestKindAndTag c = none → c ≠ .powerOn →
    (∀ kind tag, c ≠ .depotUnknownFrame kind tag) →
    let sent := s.depotOut ++ (if t.flags &&& ~~~s.flags &&& t.settings.mask = 0 then [] else [.notice t.flags])
    match s.request, t.request with
    | some j, none => ∃ body, t.depotOut = sent ++ [.reply j.request.kind j.tag body]
    | _, _ => t.depotOut = sent

/-! ### The depot link (spec/10) -/

/-- A request that does not change the shadow and arrives while none is in progress is answered in its own event:
the NOTICE of the event first, where one is due, and then one reply with its tag (R166, R167, R168); the silence
state is quiet and the silence timer loaded (R170). -/
def Obligations.ARequestIsAnsweredOnceAfterItsNotice : Prop :=
  ∀ (c : Instr) (s : State) (kind : RequestKind) (tag : Byte), requestKindAndTag c = some (kind, tag) →
    kind.changesShadow = false → s.request = none →
    ∃ t, exec c s = .next t ∧ t.request = none ∧ t.depotLost = false ∧
      (kind ≠ .settingWrite → kind ≠ .controlReset →
        t.silenceTimer = (if s.settings.depotSilence = 0 then s.silenceTimer else some s.settings.depotSilence)) ∧
      ∃ body notices, t.depotOut = s.depotOut ++ notices ++ [.reply kind tag body] ∧
        (notices = [] ∨ notices = [.notice t.flags]) ∧
        (kind ≠ .settingWrite → kind ≠ .controlReset → notices = noticeFor s.flags t)

/-- While a request is in progress every request but TABLE STATUS is answered BUSY and changes nothing else
(R166); its frame is a good one all the same (R170). -/
def Obligations.ARequestInProgressMakesOthersBusy : Prop :=
  ∀ (c : Instr) (s : State) (kind : RequestKind) (tag : Byte), requestKindAndTag c = some (kind, tag) →
    kind ≠ .tableStatus → s.request ≠ none → exec c s = .next (s.answered s [.reply kind tag (.plain .busy)])

/-- The reads answer from the state as it stands and change nothing (R40, R124, R142, R150, R152, R159, R169, R171,
R175). -/
def Obligations.ReadsAnswerAndChangeNothing : Prop :=
  (∀ (s : State) (tag : Byte), exec (.tableStatus tag) s = .next (s.answered s [.reply .tableStatus tag
    (.tableStatus s.bankA.summary s.bankB.summary s.active (match s.active with | some .a => .b | _ => .a)
      (s.referencedBank = some s.shadow) s.pendingActivation)])) ∧
  (∀ (s : State), s.request = none → ∀ (b : BerthId) (tag : Byte), exec (.berthRead tag (number b)) s =
    .next (s.answered s [.reply .berthRead tag (.berth (s.berth b))])) ∧
  (∀ (s : State), s.request = none → ∀ (tag n : Byte), n.toNat = 0 ∨ 4 < n.toNat → exec (.berthRead tag n) s =
    .next (s.answered s [.reply .berthRead tag (.plain .range)])) ∧
  (∀ (s : State), s.request = none → ∀ (l : LaneId) (tag option : Byte), option.getLsbD 0 = false →
    exec (.laneRead tag (number l) option) s = .next (s.answered s [.reply .laneRead tag (.lane (s.lane l) s.pier)])) ∧
  (∀ (s : State), s.request = none → ∀ (tag n option : Byte), n.toNat = 0 ∨ 16 < n.toNat →
    exec (.laneRead tag n option) s = .next (s.answered s [.reply .laneRead tag (.plain .range)])) ∧
  (∀ (s : State), s.request = none → ∀ (tag option : Byte), option.getLsbD 0 = false →
    exec (.journalStatus tag option) s = .next (s.answered s [.reply .journalStatus tag
      (.journalStatus s.journal.records.length s.journal.reservations (s.journal.records[0]?.map (·.sequence))
        s.journal.next s.journal.tally s.journal.batch)])) ∧
  (∀ (s : State), s.request = none → ∀ (tag k : Byte), exec (.journalRead tag k) s =
    .next (s.answered s [.reply .journalRead tag
      (if 16 < k.toNat then .plain .range
        else .records (s.journal.records.take (if k = 0 then 16 else k.toNat)))])) ∧
  (∀ (s : State), s.request = none → ∀ (tag : Byte),
    exec (.settingRead tag) s = .next (s.answered s [.reply .settingRead tag (.settings s.settings)]) ∧
    exec (.noticeRead tag) s = .next (s.answered s [.reply .noticeRead tag (.notices s.flags s.settings.mask)]) ∧
    exec (.identify tag) s = .next (s.answered s [.reply .identify tag
      (.identity 416 1 s.bankA.version s.bankB.version s.active)]))

/-- LINE READ answers each line's entry, its debounced level and, for an OUTPUT, whether it is driven low, and
changes nothing (R159). Its own frame has made the silence state quiet, which output event 14 follows (R170). The
output events 0 to 17 are active as the table of R158 says. -/
def Obligations.LineReadAnswersEveryLine : Prop :=
  (∀ (s : State), s.request = none → ∀ (tag : Byte), exec (.lineRead tag) s = .next (s.answered s [.reply .lineRead tag
    (.lines (allLines.map fun i => ⟨(s.line i).entry, (s.line i).debounced,
      (match (s.line i).entry with
        | .output e invert => ({ s with depotLost := false }).outputActive e != invert
        | _ => false)⟩))])) ∧
  ∀ (s : State),
    (∀ b : BerthId, s.outputActive (Fin.ofNat 18 b.val) = decide ((s.berth b).state = .full) ∧
      s.outputActive (Fin.ofNat 18 (b.val + 4)) = decide ((s.berth b).state = .boarding ∨ (s.berth b).state = .full) ∧
      s.outputActive (Fin.ofNat 18 (b.val + 8)) = (s.berth b).lastCall) ∧
    s.outputActive 12 = s.releaseActive ∧ s.outputActive 13 = s.flags.getLsbD 0 ∧ s.outputActive 14 = s.depotLost ∧
    s.outputActive 15 = s.flags.getLsbD 7 ∧
    s.outputActive 16 = decide (s.active = none ∨ s.clock.isSet = false ∨ s.settings.pierNumber = 0) ∧
    s.outputActive 17 = s.flags.getLsbD 1

/-- CLOCK READ answers the clock state, day and seconds as they stand; an UNSET clock answers day 0 and second 0
(R66). The premise is an invariant of every run. -/
def Obligations.ClockReadAnswersTheClockAsItStands : Prop :=
  (∀ (s : State), s.request = none → ∀ (tag : Byte), exec (.clockRead tag) s =
    .next (s.answered s [.reply .clockRead tag (.clock s.clock.isSet s.clock.day s.clock.secs)])) ∧
  ∀ (s : State), s.request = none → s.valuesInRange → s.clock.isSet = false → ∀ (tag : Byte), exec (.clockRead tag) s =
    .next (s.answered s [.reply .clockRead tag (.clock false 0 0)])

/-- A bad frame changes nothing (R166); a good frame of an unknown kind is answered UNKNOWN with that kind (R166,
R167); the expiry of the silence timer makes the silence state lost, sets DEPOT LOST and leaves the timer stopped
(R170); an expiry of a stopped timer changes nothing, which is the model's choice (log 1). -/
def Obligations.FramesThatAreNoRequestAndSilence : Prop :=
  (∀ s : State, exec .depotBadFrame s = .next s) ∧
  (∀ (s : State) (kind tag : Byte), exec (.depotUnknownFrame kind tag) s = .next (s.answered s [.unknown tag kind])) ∧
  (∀ s : State, s.silenceTimer ≠ none → exec .silenceTimerExpiry s = .next (State.noticed s.flags
    { s with silenceTimer := none, depotLost := true, flags := s.flags ||| 0x1000#16 })) ∧
  ∀ s : State, s.silenceTimer = none → exec .silenceTimerExpiry s = .next s

/-- A numeric setting takes its value clamped to its range, is answered with the applied value, and changes no
other setting and no other state, but that the depot silence setting reloads or stops its timer at once (R170,
R171, R172). The gangway limits, the notice mask with the NOTICE of a mark that rises over a set flag, and the
keep-settings option follow; every other setting named is answered RANGE (R169, R171). The berth byte of the reply is
the model's choice (log 21). -/
def Obligations.SettingsTakeTheirAppliedValues : Prop :=
  (∀ (s : State), s.request = none → ∀ (code : Byte) (low high : Nat), (code, low, high) ∈ numericSettings →
    ∀ (tag berth : Byte) (value : Half), ∃ t, exec (.settingWrite tag code berth value) s = .next t ∧
    t.settings.numeric code = max low (min high value.toNat) ∧
    (∀ other, other ≠ code → t.settings.numeric other = s.settings.numeric other) ∧
    (t.settings.gangway = s.settings.gangway ∧ t.settings.mask = s.settings.mask ∧ t.settings.keep = s.settings.keep) ∧
    t = { s with
      settings := t.settings
      depotLost := false
      silenceTimer :=
        if code = 8 then (if value = 0 then none else some (t.settings.numeric 8))
        else if s.settings.depotSilence = 0 then s.silenceTimer else some s.settings.depotSilence
      depotOut := s.depotOut ++ [.reply .settingWrite tag (.settingApplied code 0 (max low (min high value.toNat)))] }) ∧
  ((∀ (s : State), s.request = none → ∀ (b : BerthId) (tag : Byte) (value : Half),
    exec (.settingWrite tag 0x0B (number b) value) s = .next (s.answered
      { s with settings := { s.settings with gangway := s.settings.gangway.set b (min 1200 value.toNat) } }
      [.reply .settingWrite tag (.settingApplied 0x0B (number b) (min 1200 value.toNat))])) ∧
  (∀ (s : State), s.request = none → ∀ (tag berth : Byte) (value : Half),
    exec (.settingWrite tag 0x0C berth value) s = .next (s.answered
      { s with settings := { s.settings with mask := value } }
      ((if value &&& ~~~s.settings.mask &&& s.flags = 0 then [] else [.notice s.flags]) ++
        [.reply .settingWrite tag (.settingApplied 0x0C 0 value.toNat)]))) ∧
  (∀ (s : State), s.request = none → ∀ (tag berth : Byte) (on : Bool),
    exec (.settingWrite tag 0x0D berth (if on then 1 else 0)) s = .next (s.answered
      { s with settings := { s.settings with keep := on } }
      [.reply .settingWrite tag (.settingApplied 0x0D 0 (if on then 1 else 0))])) ∧
  ∀ (s : State), s.request = none → ∀ (tag setting berth : Byte) (value : Half),
    (setting = 0 ∨ 0x0D < setting.toNat ∨ (setting = 0x0B ∧ (berth = 0 ∨ 4 < berth.toNat)) ∨
      (setting = 0x0D ∧ 1 < value.toNat)) →
    exec (.settingWrite tag setting berth value) s = .next (s.answered s [.reply .settingWrite tag (.plain .range)]))

/-- What the depot clears: NOTICE CLEAR the named flags (R169); LANE READ and JOURNAL STATUS with the clear option
the lane's counters and reset reason (R40) and the overflow tally (R152), after the reply's values are taken; JOURNAL
RELEASE the records from the oldest through the one named where that lies in the window, answered RANGE otherwise
(R151). -/
def Obligations.TheDepotClearsOnlyWhatItNames : Prop :=
  ((∀ (s : State), s.request = none → ∀ (tag : Byte) (named : Half), exec (.noticeClear tag named) s =
    .next (s.answered { s with flags := s.flags &&& ~~~named } [.reply .noticeClear tag (.cleared (s.flags &&& ~~~named))])) ∧
  (∀ (s : State), s.request = none → ∀ (l : LaneId) (tag option : Byte), option.getLsbD 0 = true →
    exec (.laneRead tag (number l) option) s = .next (s.answered
      (s.withLane l { s.lane l with counters := ⟨0, 0, 0, 0, 0, 0, 0, 0⟩, lastReset := .none })
      [.reply .laneRead tag (.lane (s.lane l) s.pier)])) ∧
  ∀ (s : State), s.request = none → ∀ (tag option : Byte), option.getLsbD 0 = true →
    exec (.journalStatus tag option) s = .next (s.answered
      { s with journal := { s.journal with tally := .replicate 10 0 } }
      [.reply .journalStatus tag
        (.journalStatus s.journal.records.length s.journal.reservations (s.journal.records[0]?.map (·.sequence))
          s.journal.next s.journal.tally s.journal.batch)])) ∧
  ((∀ (s : State), s.request = none → ∀ (tag : Byte) (n : Quad), s.journal.records = [] →
    exec (.journalRelease tag n) s = .next (s.answered s [.reply .journalRelease tag (.plain .range)])) ∧
  ∀ (s : State), s.request = none → ∀ oldest, s.journal.records[0]? = some oldest → ∀ (tag : Byte) (n : Quad),
    exec (.journalRelease tag n) s = .next (
      let k := (n - oldest.sequence).toNat
      if k < s.journal.records.length then
        s.answered { s with journal := { s.journal with records := s.journal.records.drop (k + 1) } }
          [.reply .journalRelease tag (.released (k + 1))]
      else s.answered s [.reply .journalRelease tag (.plain .range)]))

/-- A control reset ends everything in flight, the writes, credits and entries with their records, and keeps the rest:
tables, clock, settings under the option, the counts of who is aboard, the vessel, E, source and last-call mark of
every berth, the lanes' modes, link state and counters, and the journal's records, numbers, tally and batch counter
(R17, R104, R143, R164, R173). Each lane is given whole: reset as R38 and R162 say, and, where release ends with it, left
at its saved mode (R163). The records are UNRESOLVED and FORFEIT lane by lane in ascending number and then UNRESOLVED
entry by entry. Settings at their defaults load the silence timer with 30 (R170) and make every line UNUSED, from high
where it was an OUTPUT (R155, R156). That the lane counter of forfeited credits rises, that a FULL berth follows the room
its places give back, and that a reset during release shows FREE EXIT are the model's choices (logs 30, 31, 16). The
premises are invariants of every run. -/
def Obligations.ControlResetEndsEverythingInFlight : Prop :=
  ∀ (s : State), s.request = none → s.placesSound → s.linesFollowed → ∀ (tag : Byte),
    ∃ t, exec (.controlReset tag) s = .next t ∧
    (t.engine = none ∧ t.recovery = [] ∧ t.journal.reservations = 0 ∧ t.frameSource = false ∧
      t.lineSource = (s.settings.keep && s.lineSource) ∧ t.releaseActive = t.lineSource) ∧
    (∀ l : LaneId, (t.lane l).mode = (s.lane l).mode ∧ t.lane l =
      let x := (s.lane l).resetFor s.releaseActive .controlReset
      if s.releaseActive = true ∧ t.releaseActive = false then x.releaseEnded (s.carriedBy l) else x) ∧
    (∀ b : BerthId, t.berth b = Berth.follow { s.berth b with
      counts := { (s.berth b).counts with
        held := 0, granted := 0
        forfeited := raised 65535 (s.berth b).counts.forfeited (s.berth b).counts.granted }
      halted := s.settings.keep && (s.berth b).halted }) ∧
    t.journal = (s.recordAll ((allLanes.flatMap fun l =>
      (s.lane l).txn.unresolvedRecords l ++ (s.lane l).forfeitRecords l false) ++
        s.recovery.map (·.unresolvedRecord false))).journal ∧
    t.journal.records.take s.journal.records.length = s.journal.records ∧
    (t.bankA = s.bankA ∧ t.bankB = s.bankB ∧ t.active = s.active ∧ t.pendingActivation = s.pendingActivation ∧
      t.clock = s.clock ∧ t.pier = s.pier ∧ t.turn = s.turn ∧ t.lastPolled = s.lastPolled ∧
      t.lastGranted = s.lastGranted) ∧
    (t.depotLost = false ∧
      if s.settings.keep then t.settings = s.settings ∧ t.silenceTimer = s.silenceLoaded ∧ t.lines = s.lines
      else t.settings = Settings.defaults ∧ t.silenceTimer = some 30 ∧ ∀ i : LineId, t.line i = { s.line i with
        entry := .unused, debounced := if (s.line i).entry.isOutput then .high else (s.line i).debounced }) ∧
    (t.flags = if s.releaseActive = true ∧ t.releaseActive = false then 0x2000 else 0) ∧
    t.depotOut = s.depotOut ++ noticeFor 0 t ++ [.reply .controlReset tag (.plain .done)]

/-! ### The lane link (spec/01) -/

/-- A poll turn begins with the next lane of the poll list and carries the frame of R3: the command slot's, with a
CARD WRITE's own tag and contents or the gate order as it stands (R4, R5), else the display slot's code, else
EMPTY; the frame is marked sent. POLL_TURN changes nothing while a turn is in progress, which is the model's
reading (log 2), or while the poll list is empty (R1). An answer that has begun keeps the window of its turn from
expiring (R2); without a turn in progress the events of an answer change nothing, as R2 says of the bytes and the
model of the rest (log 2). -/
def Obligations.APollTurnCarriesTheNextLanesFrame : Prop :=
  ((∀ (s : State) (l : LaneId), s.turnsTo l → ∀ c, (s.lane l).link.command = some c → exec .pollTurn s = .next
    { s.withLane l { s.lane l with
        link := { (s.lane l).link with command := some { c with sent := true, stale := false } } } with
      lastPolled := l
      turn := some ⟨l, .command, (match c.frame with
        | .cardWrite tag card image => (s.lane l).frameDown l tag (.cardWrite card image)
        | .gate => (s.lane l).frameDown l (s.lane l).link.tag (.gate (s.lane l).gateOrder)), false, false⟩ }) ∧
  (∀ (s : State) (l : LaneId), s.turnsTo l → (s.lane l).link.command = none → ∀ d, (s.lane l).link.display = some d →
    exec .pollTurn s = .next
    { s.withLane l { s.lane l with link := { (s.lane l).link with display := some { d with sent := true } } } with
      lastPolled := l
      turn := some ⟨l, .display, (s.lane l).frameDown l (s.lane l).link.tag (.shown d.code), false, false⟩ }) ∧
  (∀ (s : State) (l : LaneId), s.turnsTo l → (s.lane l).link.command = none → (s.lane l).link.display = none →
    exec .pollTurn s = .next { s with
      lastPolled := l
      turn := some ⟨l, .empty, (s.lane l).frameDown l (s.lane l).link.tag .empty, false, false⟩ }) ∧
  ∀ s : State, s.turn ≠ none ∨ (∀ l : LaneId, (s.lane l).mode = .absent) → exec .pollTurn s = .next s) ∧
  ((∀ (s : State) (t : Turn), s.turn = some t → exec .answerBegins s = .next { s with turn := some { t with answering := true } }) ∧
  (∀ (s : State) (t : Turn), s.turn = some t → t.answering = true → exec .answerWindowExpiry s = .next s) ∧
  ∀ s : State, s.turn = none → exec .answerBegins s = .next s ∧ exec .answerWindowExpiry s = .next s ∧
    ∀ bytes : List Byte, exec (.answer bytes) s = .next s)

/-- A turn that ends in a miss, by its window or by a bad answer, raises the miss count to at most 8 and the lane's
miss counter, takes the stale mark away and otherwise leaves the slots (R8, R11), at a lane that is OFFLINE or stays
below the miss limit (R12). A turn whose lane is ABSENT, or has been during the turn, ends with nothing else changed
(R16). A miss that brings an ONLINE lane's miss count to the miss limit makes it OFFLINE: the LANE OFFLINE flag, and an
offline reset that empties the slots, ends the transaction and takes the credits, while the tag and the acknowledged
report number stay (R12, R38). The last clause gives the whole device after it: the recovery entry of a write, the
UNRESOLVED record of an orphaned one, the validation abandoned, the FORFEIT record and the berth's counts (R27, R38, R58),
and what the event ends with; its premise is an invariant of every run. An ANSWER ends its turn whether or not its
beginning came first, here and in the statements below; this is the model's reading of R2 (log 4). -/
def Obligations.AMissedTurnIsCountedToTheMissLimit : Prop :=
  ((∀ (s : State), s.atRest → ∀ (t : Turn), s.turn = some t → t.absented = false → (s.lane t.lane).mode ≠ .absent →
    ((s.lane t.lane).status = .offline ∨ min 8 ((s.lane t.lane).link.misses + 1) < s.settings.missLimit) →
    let missed := { s.withLane t.lane (s.lane t.lane).missed with turn := none }
    (t.answering = false → exec .answerWindowExpiry s = .next missed) ∧
    ∀ bytes : List Byte, answerReport t.lane bytes = none → exec (.answer bytes) s = .next missed) ∧
  ∀ (s : State), s.atRest → ∀ (t : Turn), s.turn = some t → (t.absented = true ∨ (s.lane t.lane).mode = .absent) →
    (t.answering = false → exec .answerWindowExpiry s = .next { s with turn := none }) ∧
    ∀ bytes : List Byte, answerReport t.lane bytes = none → exec (.answer bytes) s = .next { s with turn := none }) ∧
  (∀ (s : State) (u : Turn), s.turn = some u → u.absented = false → (s.lane u.lane).mode ≠ .absent →
    (s.lane u.lane).status = .online → s.settings.missLimit ≤ min 8 ((s.lane u.lane).link.misses + 1) →
    ∃ t, (u.answering = false → exec .answerWindowExpiry s = .next t) ∧
      (∀ bytes : List Byte, answerReport u.lane bytes = none → exec (.answer bytes) s = .next t) ∧
      t.turn = none ∧ t.flagSet .laneOffline = true ∧
      t.lane u.lane = { s.lane u.lane with
        status := .offline
        txn := .none
        leaf := if (s.lane u.lane).leaf = .fault then .fault else .shut
        gateOrder := wantedGateOrder s.releaseActive (s.lane u.lane).mode .shut
        holdTimer := none
        lastReset := .offline
        counters := { (s.lane u.lane).counters with
          misses := min 65535 ((s.lane u.lane).counters.misses + 1)
          forfeited := raised 65535 (s.lane u.lane).counters.forfeited (s.lane u.lane).credits }
        link := { (s.lane u.lane).link with
          command := none, waiting := none, display := none
          misses := min 8 ((s.lane u.lane).link.misses + 1) } } ∧
      (s.engineSound = true → ∀ v, t.engine = some v → v.lane ≠ u.lane)) ∧
  ∀ (s : State), s.placesSound → ∀ (u : Turn), s.turn = some u → u.absented = false → (s.lane u.lane).mode ≠ .absent →
    (s.lane u.lane).status = .online → s.settings.missLimit ≤ min 8 ((s.lane u.lane).link.misses + 1) →
    let reset := State.laneResetTo { s with turn := none, flags := s.flags ||| 8#16 } u.lane
      { (s.lane u.lane).missed with status := .offline } .offline
    (u.answering = false → exec .answerWindowExpiry s = .next (reset.endEvent s.flags)) ∧
    ∀ bytes : List Byte, answerReport u.lane bytes = none → exec (.answer bytes) s = .next (reset.endEvent s.flags)

/-- A good answer acknowledges the carried frame by R7, and one that brings nothing new does no more than that and
set the miss count to 0 (R7, R9, R11). Where the lane is ABSENT, or has been during the turn, only the number of a new
report is noted, and nothing is acknowledged, counted or handed on, also where the lane has been set up again (R10,
R16). The first good answer from an OFFLINE lane makes it ONLINE with miss count 0, leaf SHUT and transaction NONE and
places a GATE (R14); while release is active an ENTRY or CLOSED lane shows FREE EXIT (R162; at CLOSED lanes by log 17);
its report, if new, is then handed on as at a lane that was ONLINE already (R14). -/
def Obligations.AGoodAnswerAcknowledgesAndBringsOnline : Prop :=
  ((∀ (s : State), s.atRest → ∀ (t : Turn), s.turn = some t → t.absented = false → (s.lane t.lane).mode ≠ .absent →
    (s.lane t.lane).status = .online → ∀ (r : Report) (bytes : List Byte) (n : Byte),
    answerReport t.lane bytes = some (n, r) → r = .nothing ∨ (s.lane t.lane).link.acked = some n →
    exec (.answer bytes) s = .next { s.withLane t.lane { s.lane t.lane with
      link := { (s.lane t.lane).link.acknowledge t.carried with misses := 0 } } with turn := none }) ∧
  (∀ (s : State), s.atRest → ∀ (t : Turn), s.turn = some t → (t.absented = true ∨ (s.lane t.lane).mode = .absent) →
    ∀ (r : Report) (bytes : List Byte) (n : Byte), answerReport t.lane bytes = some (n, r) →
    exec (.answer bytes) s = .next { s.withLane t.lane { s.lane t.lane with link := { (s.lane t.lane).link with
      acked := if r = .nothing then (s.lane t.lane).link.acked else some n } } with turn := none }) ∧
  ∀ (k : Link),
    (∀ c, k.command = some c → c.sent = true → c.stale = false → k.acknowledge .command =
      { k with command := k.waiting.map fun f => ⟨f, false, false⟩, waiting := none }) ∧
    (∀ c, k.command = some c → c.sent = true → c.stale = true → k.acknowledge .command =
      { k with command := some ⟨c.frame, false, false⟩ }) ∧
    (k.command.any (·.sent) = false → k.acknowledge .command = k) ∧
    (∀ d, k.display = some d → k.acknowledge .display = if d.sent then { k with display := none } else k) ∧
    k.acknowledge .empty = k) ∧
  ∀ (s : State) (t : Turn), s.turn = some t → t.absented = false → (s.lane t.lane).mode ≠ .absent →
    (s.lane t.lane).status = .offline →
    let online := Lane.freed (Lane.gated { s.lane t.lane with
      status := .online, leaf := .shut, txn := .none
      link := { (s.lane t.lane).link.acknowledge t.carried with misses := 0 } } s.releaseActive) s.releaseActive
    (s.atRest → ∀ (r : Report) (bytes : List Byte) (n : Byte), answerReport t.lane bytes = some (n, r) →
      r = .nothing ∨ (s.lane t.lane).link.acked = some n →
      exec (.answer bytes) s = .next { s.withLane t.lane online with turn := none }) ∧
    ∀ (r : Report) (bytes : List Byte) (n : Byte), answerReport t.lane bytes = some (n, r) →
      exec (.answer bytes) s =
        exec (.answer bytes) { s.withLane t.lane online with turn := some { t with carried := .empty } }

/-- How the slots take what the lane units ask for: a CARD WRITE replaces the one present, else enters the empty
command slot, else waits (R4); a GATE enters neither twice and is marked stale when it is in flight (R5); a code
replaces the one shown, unsent (R6). The premise is an invariant of every run. -/
def Obligations.TheSlotsTakeFramesByKind : Prop :=
  ∀ (k : Link), k.lawful = true → ∀ (tag : Byte) (card : CardNo) (image : NewImage) (flying : Bool) (code : DisplayCode),
    (k.command = none → k.placeCardWrite tag card image = { k with command := some ⟨.cardWrite tag card image, false, false⟩ } ∧
      k.placeGate flying = { k with command := some ⟨.gate, false, false⟩ }) ∧
    (∀ c, k.command = some c →
      (c.frame = .gate → k.placeCardWrite tag card image = { k with waiting := some (.cardWrite tag card image) } ∧
        k.placeGate flying = if flying = true ∧ c.sent = true then { k with command := some { c with stale := true } } else k) ∧
      (c.frame ≠ .gate → k.placeCardWrite tag card image = { k with command := some ⟨.cardWrite tag card image, false, false⟩ } ∧
        k.placeGate flying = { k with waiting := some .gate })) ∧
    k.placeShow code = { k with display := some ⟨code, false⟩ }

/-! ### Lanes (spec/02) -/

/-- A TAP at an ENTRY lane outside release, with transaction NONE and leaf not FAULT, is counted and latched with
the tag advanced (R20); with the engine BUSY the lane waits, with the engine FREE it is granted at the end of the
event with the values of R43 (R42). A TAP that is not latched is counted, shows the first code of R21 whose condition
holds, and leaves all else as it was. -/
def Obligations.ATapIsLatchedOrShowsItsCode : Prop :=
  (∀ (s : State), s.atRest → s.releaseActive = false → ∀ (t : Turn), s.turn = some t → t.absented = false →
    ∀ (b : BerthId), (s.lane t.lane).mode = .entry b → (s.lane t.lane).status = .online → (s.lane t.lane).txn = .none →
    (s.lane t.lane).leaf ≠ .fault → ∀ (image : CardImage) (bytes : List Byte) (n : Byte),
    answerReport t.lane bytes = some (n, .tap image) → (s.lane t.lane).link.acked ≠ some n →
    exec (.answer bytes) s = .next (
      let x := (s.lane t.lane).answeredBy t.carried n
      let y := { x with
        counters := { x.counters with taps := min 65535 (x.counters.taps + 1) }
        link := { x.link with tag := x.link.tag + 1 } }
      if s.engine = none then
        { s.withLane t.lane { y with txn := .validating image } with
          turn := none
          lastGranted := t.lane
          engine := some ⟨t.lane, b, image, s.clock.day, s.clock.secs, s.clock.isSet, s.active, .service, none, false,
            none, none, none⟩ }
      else { s.withLane t.lane { y with txn := .waiting image } with turn := none })) ∧
  (∀ (s : State), s.atRest → ∀ (t : Turn), s.turn = some t → t.absented = false → (s.lane t.lane).status = .online →
    ∀ (code : DisplayCode), (s.lane t.lane).untakenCode s.releaseActive = some code →
    ∀ (image : CardImage) (bytes : List Byte) (n : Byte),
    answerReport t.lane bytes = some (n, .tap image) → (s.lane t.lane).link.acked ≠ some n →
    exec (.answer bytes) s = .next (
      let x := (s.lane t.lane).answeredBy t.carried n
      { s.withLane t.lane (Lane.showing { x with
          counters := { x.counters with taps := min 65535 (x.counters.taps + 1) } } code) with turn := none }))

/-- A confirmed write that is not orphaned ends in one event: the berth converts the places and counts admission and
revenue, the final record is written into the reserved slot where there is one, the transaction ends, and the riders
become credits with the leaf OPEN, the hold timer loaded, GO shown and a GATE asked for; at a faulted leaf they are
forfeited at once, with a FORFEIT record (R25, R86, R113). The premises are invariants of every run. -/
def Obligations.AConfirmedWriteGrantsItsCredits : Prop :=
  ∀ (s : State), s.atRest → s.placesSound → s.gatesInOrder → ∀ (t : Turn), s.turn = some t → t.absented = false →
    ∀ (image : CardImage) (w : CardWrite), (s.lane t.lane).txn = .writing image w → w.orphaned = false →
    ∀ (bytes : List Byte) (n : Byte),
    answerReport t.lane bytes = some (n, .writeResult (s.lane t.lane).link.tag image.card .done) →
    (s.lane t.lane).link.acked ≠ some n →
    exec (.answer bytes) s = .next (
      let x := (s.lane t.lane).answeredBy t.carried n
      let b := s.berth w.berth
      let r := s.record w.reservation (cardDraft (if w.retry then .recoveredRetry else .admission) ⟨w.watch, false, false⟩
        t.lane w.berth image.card w.product w.cls w.riders w.charge w.image.balance w.version)
      let counted := { b with counts := { b.counts with
        held := b.counts.held - w.riders
        granted := b.counts.granted + w.riders
        admissions := min 65535 (b.counts.admissions + 1)
        revenue := min 4294967295 (b.counts.revenue + w.charge) } }
      let converted := if b.state = .closed then counted else { counted with
        quietTimer := if s.settings.quietUnit = 0 then none else some (s.settings.quietUnit * 5), lastCall := false }
      let ended := { x with
        txn := .none, counters := { x.counters with admissions := min 65535 (x.counters.admissions + 1) } }
      if x.leaf = .fault then
        let f := r.record false (forfeitRecord t.lane w.berth w.riders false)
        State.noticed s.flags { (f.withLane t.lane { ended with counters := { ended.counters with
            forfeited := min 65535 (x.counters.forfeited + w.riders) } }).withBerth w.berth
              (converted.counted fun c => { c with
                granted := c.granted - w.riders, forfeited := min 65535 (c.forfeited + w.riders) }) with turn := none }
      else
        State.noticed s.flags { (r.withLane t.lane (Lane.showing { ended with
            leaf := .opened (x.credits + w.riders)
            gateOrder := .opened (x.credits + w.riders)
            holdTimer := some s.settings.holdTime
            link := ended.link.placeGate false } .go)).withBerth w.berth converted with turn := none })

/-- Writes that end without credits: a FAILED one releases its places, writes a FAIL record with charge 0 and the
balance as latched and shows CARD REFUSED (R87); an orphaned one writes its one record with the ORPHAN mark and
nothing else (R87, R88, R90). A result that does not match is ignored (R85). -/
def Obligations.WritesThatEndWithoutCredits : Prop :=
  (∀ (s : State), s.atRest → s.placesSound → ∀ (t : Turn), s.turn = some t → t.absented = false →
    ∀ (image : CardImage) (w : CardWrite), (s.lane t.lane).txn = .writing image w → w.orphaned = false →
    ∀ (bytes : List Byte) (n : Byte),
    answerReport t.lane bytes = some (n, .writeResult (s.lane t.lane).link.tag image.card .failed) →
    (s.lane t.lane).link.acked ≠ some n →
    exec (.answer bytes) s = .next (
      let r := s.record w.reservation (cardDraft .fail ⟨w.watch, false, false⟩ t.lane w.berth image.card w.product
        w.cls w.riders 0 image.balance w.version)
      State.noticed s.flags { (r.withLane t.lane (Lane.showing
          { (s.lane t.lane).answeredBy t.carried n with txn := .none } .cardRefused)).withBerth w.berth
        ((s.berth w.berth).counted fun c => { c with held := c.held - w.riders }) with turn := none })) ∧
  (∀ (s : State), s.atRest → ∀ (t : Turn), s.turn = some t → t.absented = false → (s.lane t.lane).mode ≠ .absent →
    (s.lane t.lane).status = .online →
    ∀ (image : CardImage) (w : CardWrite), (s.lane t.lane).txn = .writing image w → w.orphaned = true →
    ∀ (outcome : WriteOutcome) (bytes : List Byte) (n : Byte),
    answerReport t.lane bytes = some (n, .writeResult (s.lane t.lane).link.tag image.card outcome) →
    (s.lane t.lane).link.acked ≠ some n →
    exec (.answer bytes) s = .next (
      let r := s.record w.reservation (match outcome with
        | .done => cardDraft (if w.retry then .recoveredRetry else .admission) ⟨w.watch, true, false⟩ t.lane w.berth
            image.card w.product w.cls w.riders w.charge w.image.balance w.version
        | .failed => cardDraft .fail ⟨w.watch, true, false⟩ t.lane w.berth image.card w.product w.cls w.riders 0
            image.balance w.version
        | .uncertain => cardDraft .unresolved ⟨w.watch, true, false⟩ t.lane w.berth image.card w.product w.cls w.riders
            w.charge w.image.balance w.version)
      State.noticed s.flags { r.withLane t.lane
        { (s.lane t.lane).answeredBy t.carried n with txn := .none } with turn := none })) ∧
  ∀ (s : State), s.atRest → ∀ (t : Turn), s.turn = some t → t.absented = false → (s.lane t.lane).mode ≠ .absent →
    (s.lane t.lane).status = .online → ∀ (tag : Byte) (card : CardNo) (outcome : WriteOutcome) (bytes : List Byte) (n : Byte),
    answerReport t.lane bytes = some (n, .writeResult tag card outcome) → (s.lane t.lane).link.acked ≠ some n →
    (∀ image w, (s.lane t.lane).txn = .writing image w → tag ≠ (s.lane t.lane).link.tag ∨ card ≠ image.card) →
    exec (.answer bytes) s = .next { s.withLane t.lane ((s.lane t.lane).answeredBy t.carried n) with turn := none }

/-- A write of unknown outcome, by a matching UNCERTAIN or by its write timer, becomes the newest recovery entry with
its places and reservation, and the lane shows CARD REFUSED (R88, R89, R93); an orphaned one writes UNRESOLVED with
the ORPHAN mark (R89, R90). Stated where the list has room and no entry for the card; the next statement has the other
cases. A write timer that is not running does not expire (spec/00; log 1). -/
def Obligations.AnUncertainWriteBecomesAnEntry : Prop :=
  (∀ (s : State), s.atRest → ∀ (t : Turn), s.turn = some t → t.absented = false → (s.lane t.lane).mode ≠ .absent →
    (s.lane t.lane).status = .online → ∀ (image : CardImage) (w : CardWrite),
    (s.lane t.lane).txn = .writing image w → w.orphaned = false →
    (∀ e ∈ s.recovery, e.card ≠ image.card) → s.recovery.length < 8 → ∀ (bytes : List Byte) (n : Byte),
    answerReport t.lane bytes = some (n, .writeResult (s.lane t.lane).link.tag image.card .uncertain) →
    (s.lane t.lane).link.acked ≠ some n →
    exec (.answer bytes) s = .next { s.withLane t.lane (Lane.showing
        { (s.lane t.lane).answeredBy t.carried n with txn := .none } .cardRefused) with
      turn := none
      recovery := s.recovery ++ [w.entry t.lane image.card s.settings.recoveryTime] }) ∧
  (∀ (s : State) (l : LaneId) (image : CardImage) (w : CardWrite), (s.lane l).txn = .writing image w →
    w.orphaned = false → (s.lane l).mode ≠ .absent → (s.lane l).status = .online →
    (∀ e ∈ s.recovery, e.card ≠ image.card) → s.recovery.length < 8 →
    exec (.writeTimerExpiry l) s = .next { s.withLane l (Lane.showing { s.lane l with txn := .none } .cardRefused) with
      recovery := s.recovery ++ [w.entry l image.card s.settings.recoveryTime] }) ∧
  (∀ (s : State) (l : LaneId) (image : CardImage) (w : CardWrite), (s.lane l).txn = .writing image w →
    w.orphaned = true → exec (.writeTimerExpiry l) s = .next (
      let r := s.record w.reservation (cardDraft .unresolved ⟨w.watch, true, false⟩ l w.berth image.card w.product w.cls
        w.riders w.charge w.image.balance w.version)
      State.noticed s.flags (r.withLane l { s.lane l with txn := .none }))) ∧
  ∀ (s : State) (l : LaneId), (∀ image w, (s.lane l).txn ≠ .writing image w) → exec (.writeTimerExpiry l) s = .next s

/-- Recovery entries are closed UNRESOLVED when their timer expires (R92, R96), when a new entry for the same card
replaces them (R94), and when they are the oldest of eight and another card's entry comes (R95), be the new entry made at
the expiry of a write timer (R89) or by a matching UNCERTAIN (R88). The premises are invariants of every run. An expiry
for a card without an entry changes nothing (log 1); one that stands behind a replacement closes the new entry, which is
the model's choice (log 34). -/
def Obligations.EntriesAreClosedAtExpiryReplacementAndEviction : Prop :=
  (∀ (s : State), s.placesSound → ∀ e ∈ s.recovery, exec (.recoveryExpiry e.card) s = .next (State.noticed s.flags (s.unresolved e))) ∧
  (∀ (s : State) (card : CardNo), (∀ e ∈ s.recovery, e.card ≠ card) → exec (.recoveryExpiry card) s = .next s) ∧
  (∀ (s : State), s.placesSound → ∀ (l : LaneId) (image : CardImage) (w : CardWrite), (s.lane l).txn = .writing image w →
    w.orphaned = false → ∀ e ∈ s.recovery,
    e.card = image.card ∨ (s.recovery.length = 8 ∧ s.recovery.head? = some e ∧ ∀ o ∈ s.recovery, o.card ≠ image.card) →
    exec (.writeTimerExpiry l) s = .next (State.noticed s.flags
      { (s.unresolved e).withLane l (Lane.showing { s.lane l with txn := .none } .cardRefused) with
        recovery := (s.unresolved e).recovery ++ [w.entry l image.card s.settings.recoveryTime] })) ∧
  ∀ (s : State), s.atRest → s.placesSound → ∀ (t : Turn), s.turn = some t → t.absented = false →
    ∀ (image : CardImage) (w : CardWrite), (s.lane t.lane).txn = .writing image w → w.orphaned = false →
    ∀ e ∈ s.recovery,
    e.card = image.card ∨ (s.recovery.length = 8 ∧ s.recovery.head? = some e ∧ ∀ o ∈ s.recovery, o.card ≠ image.card) →
    ∀ (bytes : List Byte) (n : Byte),
    answerReport t.lane bytes = some (n, .writeResult (s.lane t.lane).link.tag image.card .uncertain) →
    (s.lane t.lane).link.acked ≠ some n →
    exec (.answer bytes) s = .next (State.noticed s.flags
      { (s.unresolved e).withLane t.lane (Lane.showing
          { (s.lane t.lane).answeredBy t.carried n with txn := .none } .cardRefused) with
        turn := none
        recovery := (s.unresolved e).recovery ++ [w.entry t.lane image.card s.settings.recoveryTime] })

/-- A PASSAGE report: while release is active it raises the lane's IN and OUT counters only (R28). Outside release,
each IN passage at an EXIT lane is wrong-way and each at a CLOSED lane unpaid, each OUT passage an exit (R34); at an
ENTRY lane each IN passage uses a credit while there is one and is unpaid after that, with one UNPAID record each,
and each OUT passage is a reverse passage (R29, R30, R115, R116). The premises are invariants of every run. That the
berth settles its state at each passage is read from chapter 6 (log 28). -/
def Obligations.PassagesAreCountedByTheLanesMode : Prop :=
  (∀ (s : State), s.atRest → s.gatesInOrder → ∀ (t : Turn), s.turn = some t → t.absented = false →
    (s.lane t.lane).mode ≠ .absent → (s.lane t.lane).status = .online → ∀ (i o : Fin 8) (bytes : List Byte) (n : Byte),
    answerReport t.lane bytes = some (n, .passage i o) → (s.lane t.lane).link.acked ≠ some n →
    let x := (s.lane t.lane).answeredBy t.carried n
    let y := { x with counters := { x.counters with
      inward := min 65535 (x.counters.inward + i), outward := min 65535 (x.counters.outward + o) } }
    let z := { y with counters := { y.counters with unpaid := raised 65535 x.counters.unpaid i } }
    let lit := if (i : Nat) = 0 then s.flags else s.flags ||| 1#16
    (s.releaseActive = true → exec (.answer bytes) s = .next { s.withLane t.lane y with turn := none }) ∧
    (s.releaseActive = false → x.mode = .exit → exec (.answer bytes) s = .next (State.noticed s.flags
      { s.withLane t.lane z with
        turn := none
        pier := ⟨raised 4294967295 s.pier.exits o, raised 4294967295 s.pier.wrongWay i, s.pier.unpaid⟩
        flags := lit })) ∧
    (s.releaseActive = false → x.mode = .closed → exec (.answer bytes) s = .next (State.noticed s.flags
      { s.withLane t.lane z with
        turn := none
        pier := ⟨raised 4294967295 s.pier.exits o, s.pier.wrongWay, raised 4294967295 s.pier.unpaid i⟩
        flags := lit }))) ∧
  ∀ (s : State), s.atRest → s.placesSound → s.gatesInOrder → s.releaseActive = false →
    ∀ (t : Turn), s.turn = some t → t.absented = false → ∀ (b : BerthId), (s.lane t.lane).mode = .entry b →
    (s.lane t.lane).status = .online → ∀ (i o : Fin 8) (bytes : List Byte) (n : Byte), answerReport t.lane bytes = some (n, .passage i o) →
    (s.lane t.lane).link.acked ≠ some n →
    exec (.answer bytes) s = .next (
      let x := (s.lane t.lane).answeredBy t.carried n
      let paid := min i.val x.credits
      let unpaid := i.val - paid
      let left := x.credits - paid
      let y := { x with counters := { x.counters with
        inward := min 65535 (x.counters.inward + i), outward := min 65535 (x.counters.outward + o)
        unpaid := raised 65535 x.counters.unpaid unpaid } }
      let used := if paid = 0 then y else { y with
        leaf := if left = 0 then .shut else .opened left
        holdTimer := if left = 0 then none else some s.settings.holdTime
        gateOrder := if left = 0 then .shut else .opened left
        link := y.link.placeGate false }
      let inside := (s.berth b).counted fun c => { c with
        granted := c.granted - paid, passed := c.passed + paid, unpaid := raised 65535 c.unpaid unpaid }
      let after := inside.counted fun c => { c with
        passed := c.passed - o, reverse := raised 65535 c.reverse o }
      let r := (fun u : State => u.record false
        ⟨.unpaid, ⟨false, false, false⟩, some t.lane, some b, .fields { CardFields.zero with riders := 1 }⟩)^[unpaid] s
      State.noticed s.flags { (r.withLane t.lane used).withBerth b after with
        turn := none
        flags := r.flags ||| (if unpaid = 0 then 0 else 1#16) |||
          (if (s.berth b).state = .boarding ∧ inside.state = .full then 0x10#16 else 0) })

/-- A LEAF FAULT makes the leaf FAULT, forfeits the credits with a FORFEIT record, shuts the gate of a lane that had
them and sets the LEAF FAULT flag, once (R27, R35); a LEAF CLEAR makes a faulted leaf SHUT and asks for a GATE (R36).
The premises are invariants of every run. -/
def Obligations.LeafFaultsForfeitAndLeafClearsReopen : Prop :=
  ∀ (s : State), s.atRest → s.placesSound → s.gatesInOrder → ∀ (t : Turn), s.turn = some t → t.absented = false →
    (s.lane t.lane).mode ≠ .absent → (s.lane t.lane).status = .online →
    (∀ (bytes : List Byte) (n : Byte), answerReport t.lane bytes = some (n, .status .leafFault) →
      (s.lane t.lane).link.acked ≠ some n →
      let x := (s.lane t.lane).answeredBy t.carried n
      (x.leaf = .fault → exec (.answer bytes) s = .next { s.withLane t.lane x with turn := none }) ∧
      (x.leaf = .shut → exec (.answer bytes) s = .next (State.noticed s.flags
        { s.withLane t.lane { x with leaf := .fault } with turn := none, flags := s.flags ||| 4#16 })) ∧
      (∀ k, x.leaf = .opened k → ∀ b, x.mode = .entry b → exec (.answer bytes) s = .next (
        let r := s.record false (forfeitRecord t.lane b k false)
        State.noticed s.flags { (r.withLane t.lane { x with
            leaf := .fault
            gateOrder := .shut
            holdTimer := none
            counters := { x.counters with forfeited := min 65535 (x.counters.forfeited + k) }
            link := x.link.placeGate false }).withBerth b ((s.berth b).counted fun c => { c with
              granted := c.granted - k, forfeited := min 65535 (c.forfeited + k) }) with
          turn := none
          flags := r.flags ||| 4#16 }))) ∧
    ∀ (bytes : List Byte) (n : Byte), answerReport t.lane bytes = some (n, .status .leafClear) →
      (s.lane t.lane).link.acked ≠ some n →
      let x := (s.lane t.lane).answeredBy t.carried n
      exec (.answer bytes) s = .next { s.withLane t.lane
        (if x.leaf = .fault then Lane.gated { x with leaf := .shut } s.releaseActive else x) with turn := none }

/-- A lane reset, by LANE RESET with the reason DEPOT or by HEAD RESTART, ends the transaction, takes the credits as
a forfeit with its FORFEIT record, at the berth and in the lane's counter, makes the leaf SHUT unless FAULT, stops the
hold timer, empties the slots but for the GATE it asks for and the FREE EXIT of release, and keeps mode, link status, tag
and acknowledged number; a write that was not orphaned becomes the newest recovery entry, in place of the entry for its
card or of the oldest of eight, an orphaned one writes UNRESOLVED with the ORPHAN mark, and a validation of the lane is
abandoned (R27, R37, R38, R58, R93, R94, R95, R162). The whole device is given, with a transaction or credits too. A lane
number out of range is answered RANGE. The premises are invariants of every run. -/
def Obligations.ALaneResetEndsTheLanesWork : Prop :=
  (∀ (s : State), s.request = none → ∀ (tag lane : Byte), lane.toNat = 0 ∨ 16 < lane.toNat →
    exec (.laneReset tag lane) s = .next (s.answered s [.reply .laneReset tag (.plain .range)])) ∧
  (∀ (s : State), s.request = none → s.atRest → ∀ (l : LaneId) (tag : Byte), (s.lane l).txn = .none → (s.lane l).credits = 0 →
    exec (.laneReset tag (number l)) s = .next (s.replied (s.withLane l (Lane.freed (Lane.gated { s.lane l with
      leaf := if (s.lane l).leaf = .fault then .fault else .shut
      holdTimer := none
      lastReset := .depot
      link := { (s.lane l).link with command := none, waiting := none, display := none } } s.releaseActive)
        s.releaseActive)) .laneReset tag (.plain .done))) ∧
  (∀ (s : State), s.request = none → s.placesSound → ∀ (l : LaneId) (tag : Byte),
    exec (.laneReset tag (number l)) s = .next (
      let ended := (s.laneResetTo l (s.lane l) .depot).endEvent s.flags
      { ended with
        depotLost := false
        silenceTimer := s.silenceLoaded
        depotOut := ended.depotOut ++ [.reply .laneReset tag (.plain .done)] })) ∧
  (∀ (s : State), s.placesSound → ∀ (u : Turn), s.turn = some u → u.absented = false → (s.lane u.lane).mode ≠ .absent →
    (s.lane u.lane).status = .online → ∀ (bytes : List Byte) (n : Byte),
    answerReport u.lane bytes = some (n, .status .headRestart) → (s.lane u.lane).link.acked ≠ some n →
    exec (.answer bytes) s = .next ((State.laneResetTo { s with turn := none } u.lane
      ((s.lane u.lane).answeredBy u.carried n) .headRestart).endEvent s.flags)) ∧
  ∀ (s : State), s.atRest → ∀ (t : Turn), s.turn = some t → t.absented = false → (s.lane t.lane).mode ≠ .absent →
    (s.lane t.lane).status = .online → (s.lane t.lane).txn = .none → (s.lane t.lane).credits = 0 →
    ∀ (bytes : List Byte) (n : Byte), answerReport t.lane bytes = some (n, .status .headRestart) →
    (s.lane t.lane).link.acked ≠ some n →
    exec (.answer bytes) s = .next (
      let x := (s.lane t.lane).answeredBy t.carried n
      { s.withLane t.lane (Lane.freed (Lane.gated { x with
        leaf := if x.leaf = .fault then .fault else .shut
        holdTimer := none
        lastReset := .headRestart
        link := { x.link with command := none, waiting := none, display := none } } s.releaseActive)
          s.releaseActive) with turn := none })

/-- LANE SETUP: RANGE for a lane, mode or berth out of range, STATE during release, BUSY while the lane has a
transaction or its leaf is not SHUT; otherwise the mode is taken, an ABSENT lane leaves the poll list, and at every
other lane the gate order is worked out and a GATE asked for (R16, R39). -/
def Obligations.LaneSetupTakesAModeAtAnIdleLane : Prop :=
  (∀ (s : State), s.request = none → ∀ (tag lane mode berth : Byte),
    (lane.toNat = 0 ∨ 16 < lane.toNat ∨ 3 < mode.toNat ∨ (mode = 2 ∧ (berth.toNat = 0 ∨ 4 < berth.toNat))) →
    exec (.laneSetup tag lane mode berth) s = .next (s.answered s [.reply .laneSetup tag (.plain .range)])) ∧
  ∀ (s : State), s.request = none → ∀ (l : LaneId) (tag berth : Byte) (b : BerthId),
    exec (.laneSetup tag (number l) 0 berth) s = .next (s.laneSetUp l .absent tag) ∧
    exec (.laneSetup tag (number l) 1 berth) s = .next (s.laneSetUp l .closed tag) ∧
    exec (.laneSetup tag (number l) 2 (number b)) s = .next (s.laneSetUp l (.entry b) tag) ∧
    exec (.laneSetup tag (number l) 3 berth) s = .next (s.laneSetUp l .exit tag)

/-! ### Timers and the clock (spec/02, spec/04, spec/06) -/

/-- The expiry of a hold timer forfeits all the lane's credits: the leaf becomes SHUT, the berth gets its places back,
the lane's counter rises, a FORFEIT record is written, the gate order becomes SHUT and a GATE is asked for (R26, R27,
R117). The premises are invariants of every run. An expiry of a stopped timer changes nothing (log 1). -/
def Obligations.AHoldExpiryForfeitsTheCredits : Prop :=
  (∀ (s : State), s.placesSound → s.gatesInOrder → ∀ (l : LaneId) (k : Nat), (s.lane l).leaf = .opened k →
    ∀ b, (s.lane l).mode = .entry b → exec (.holdTimerExpiry l) s = .next (
      let x := s.lane l
      let r := s.record false (forfeitRecord l b k false)
      State.noticed s.flags ((r.withLane l { x with
          leaf := .shut
          gateOrder := .shut
          holdTimer := none
          counters := { x.counters with forfeited := min 65535 (x.counters.forfeited + k) }
          link := x.link.placeGate (s.carriedBy l) }).withBerth b ((s.berth b).counted fun c => { c with
            granted := c.granted - k, forfeited := min 65535 (c.forfeited + k) })))) ∧
  ∀ (s : State) (l : LaneId), (s.lane l).holdTimer = none → exec (.holdTimerExpiry l) s = .next s

/-- The expiry of a quiet timer in BOARDING or FULL sets the last-call mark and flag, shows LAST CALL at every ONLINE
lane of the berth outside release, and loads the timer again or stops it (R123). Any other expiry cannot arise and
changes nothing (log 1). -/
def Obligations.AQuietExpiryCallsLast : Prop :=
  (∀ (s : State) (b : BerthId), (s.berth b).quietTimer ≠ none →
    ((s.berth b).state = .boarding ∨ (s.berth b).state = .full) →
    ∃ t, exec (.quietTimerExpiry b) s = .next t ∧
      t = State.noticed s.flags { s with
        lanes := t.lanes
        berths := s.berths.set b { s.berth b with
          lastCall := true, quietTimer := if s.settings.quietUnit = 0 then none else some (s.settings.quietUnit * 5) }
        flags := s.flags ||| 0x20#16 } ∧
      ∀ l : LaneId, t.lane l =
        if (s.lane l).mode = .entry b ∧ (s.lane l).status = .online ∧ s.releaseActive = false then
          (s.lane l).showing .lastCall
        else s.lane l) ∧
  ∀ (s : State) (b : BerthId), ((s.berth b).quietTimer = none ∨ ((s.berth b).state ≠ .boarding ∧ (s.berth b).state ≠ .full)) →
    exec (.quietTimerExpiry b) s = .next s

/-- The running clock advances by a second, and at the end of the day rolls over to second 0 of the next day modulo
65536 with the CLOCK ROLLOVER flag (R63, R64); CLOCK SET sets day and seconds, clamped to 86399, and starts the clock
(R65). A clock that does not run does not advance (log 2); an advance that a CLOCK SET discards is no command (log 33). A
pending activation whose instant is at or before the time the clock takes is carried out in that event: the swap, its
ACTIVATION DONE flag and its ACTIVATION record, stamped with the new time (R67, R138, R139). While the work of a table
request is under way nothing is pending and no swap can take place (R128); the premise of that clause is an invariant of
every run, and that a TABLE ACTIVATE has no such work is the model's reading (log 7). -/
def Obligations.TheClockAdvancesAndCarriesOutActivations : Prop :=
  ((∀ (s : State), s.clock.running = true → s.clock.secs < 86399 →
    (∀ i, s.pendingActivation = some i → ¬ i.dueAt s.clock.day (s.clock.secs + 1)) →
    exec .clockAdvance s = .next { s with clock := { s.clock with secs := s.clock.secs + 1 } }) ∧
  (∀ (s : State), s.clock.running = true → s.clock.secs = 86399 →
    (∀ i, s.pendingActivation = some i → ¬ i.dueAt ((s.clock.day + 1) % 65536) 0) →
    exec .clockAdvance s = .next (State.noticed s.flags { s with
      clock := { s.clock with day := (s.clock.day + 1) % 65536, secs := 0 }, flags := s.flags ||| 0x4000#16 })) ∧
  (∀ (s : State), s.clock.running = false → exec .clockAdvance s = .next s) ∧
  (∀ (s : State), s.tablesSound → s.request.any TableJob.works = true → s.pendingActivation = none ∧
    ∀ t, exec .clockAdvance s = .next t → t.active = s.active) ∧
  ∀ (s : State), s.request = none → ∀ (tag : Byte) (day : Half) (secs : Quad),
    (∀ i, s.pendingActivation = some i → ¬ i.dueAt day.toNat (min secs.toNat 86399)) →
    exec (.clockSet tag day secs) s = .next (s.answered
      { s with clock := ⟨true, day.toNat, min secs.toNat 86399, true⟩ }
      [.reply .clockSet tag (.clockApplied day.toNat (min secs.toNat 86399))])) ∧
  ((∀ (s : State), s.clock.running = true → s.clock.secs < 86399 →
    ∀ i, s.pendingActivation = some i → i.dueAt s.clock.day (s.clock.secs + 1) →
    exec .clockAdvance s = .next (State.noticed s.flags
      (State.swapped { s with clock := { s.clock with secs := s.clock.secs + 1 } }))) ∧
  (∀ (s : State), s.clock.running = true → s.clock.secs = 86399 →
    ∀ i, s.pendingActivation = some i → i.dueAt ((s.clock.day + 1) % 65536) 0 →
    exec .clockAdvance s = .next (State.noticed s.flags (State.swapped { s with
      clock := { s.clock with day := (s.clock.day + 1) % 65536, secs := 0 }, flags := s.flags ||| 0x4000#16 }))) ∧
  ∀ (s : State), s.request = none → ∀ i, s.pendingActivation = some i → ∀ (tag : Byte) (day : Half) (secs : Quad),
    i.dueAt day.toNat (min secs.toNat 86399) → exec (.clockSet tag day secs) s = .next (s.replied
      (State.swapped { s with clock := ⟨true, day.toNat, min secs.toNat 86399, true⟩ }) .clockSet tag
      (.clockApplied day.toNat (min secs.toNat 86399))))

/-! ### The validation engine (spec/03, spec/04, spec/05) -/

/-- Stage 1 refuses OUT OF SERVICE without a bank reference, a set clock at grant or a pier number, then CARD FORMAT
for a card number of 0 or all ones, and else hands on to stage 2 (R46). Stage 3 finds the card in the referenced bank's
list: BLOCK refuses BLOCKED, CLASS k replaces the rider class, WATCH marks the validation, and a card not listed keeps
its class (R48); the order of the list is an invariant of every run. Stage 4 looks the product up in the referenced bank
and checks in order: valid, the route mask against the band of the vessel at the berth if there is one, the pass expiry
day, the trips left (R49). That an IDLE berth makes no check of the route mask for an empty mask either, where R131
refuses it at every berth, is the model's choice (log 37). A refusal shows the display code that R56 gives its refusal
code. -/
def Obligations.StagesOneThreeAndFourCheckInOrder : Prop :=
  (∀ (s : State) (v : Validation), s.engine = some v → v.stage = .service → exec .stageService s = .next (
    if v.bank = none ∨ v.clockSet = false ∨ s.settings.pierNumber = 0 then s.refusedBy v .outOfService
    else if v.image.card.toNat = 0 ∨ v.image.card.toNat = 281474976710655 then s.refusedBy v .cardFormat
    else s.passedTo { v with stage := .recoveryMatch })) ∧
  (∀ (s : State) (v : Validation), s.engine = some v → v.stage = .cardStatus → ∀ i, v.bank = some i →
    (s.bank i).cardsAscend →
    ((∀ e ∈ (s.bank i).cards, e.card ≠ v.image.card) →
      exec .stageCardStatus s = .next (s.passedTo { v with stage := .product, cls := some v.image.cls })) ∧
    ∀ e ∈ (s.bank i).cards, e.card = v.image.card → exec .stageCardStatus s = .next (match e.action with
      | .block => s.refusedBy { v with cls := some v.image.cls } .blocked
      | .cls k => s.passedTo { v with stage := .product, cls := some k }
      | .watch => s.passedTo { v with stage := .product, cls := some v.image.cls, watch := true })) ∧
  (∀ (s : State) (v : Validation), s.engine = some v → v.stage = .product → ∀ i, v.bank = some i →
    exec .stageProduct s = .next (
      let p := (s.bank i).products[v.image.product]
      let found := { v with product := some p, band := (s.berth v.berth).vessel.map (·.band) }
      if p.valid = false then s.refusedBy v .unknownProduct
      else if (s.berth v.berth).vessel.any (fun x => !p.mask.getLsbD x.band.val) then s.refusedBy found .routeNotCovered
      else if p.kind = .pass ∧ v.image.passExpiry < v.day then s.refusedBy found .passExpired
      else if p.kind = .bundle ∧ v.image.trips < p.riders then s.refusedBy found .lowValue
      else s.passedTo { found with stage := .passback })) ∧
  ∀ c : RefusalCode, c.display = match c with
    | .outOfService => .outOfService
    | .cardFormat | .blocked | .unknownProduct | .routeNotCovered | .passExpired => .cardRefused
    | .lowValue => .lowValue
    | .passback => .passback
    | .boardingClosed => .boardingClosed
    | .staffBoarding | .halted => .seeStaff
    | .laneBusy => .wait
    | .full => .full
    | .wrongBerth => .wrongBerth

/-- Stages 5, 6 and 8: PASSBACK for a card of one rider that boarded here within the setting (R50, R70); BOARDING
CLOSED, STAFF BOARDING and HALTED in that order (R51); LANE BUSY where the riders do not fit beside the lane's credits
(R53). Each reads the settings and units as they stand at the stage (R61). -/
def Obligations.StagesPassbackBerthStateAndLaneRoom : Prop :=
  (∀ (s : State) (v : Validation), s.engine = some v → v.stage = .passback → ∀ p, v.product = some p →
    exec .stagePassback s = .next (
      if p.riders = 1 ∧ s.settings.passback ≠ 0 ∧ v.image.lastPier = s.settings.pierNumber ∧ v.image.dayStamp = v.day ∧
          (0 : Int) ≤ (v.secs / 60 : Nat) - v.image.lastMinute ∧
          ((v.secs / 60 : Nat) : Int) - v.image.lastMinute ≤ s.settings.passback then s.refusedBy v .passback
      else s.passedTo { v with stage := .berthState })) ∧
  (∀ (s : State) (v : Validation), s.engine = some v → v.stage = .berthState → exec .stageBerthState s = .next (
    if (s.berth v.berth).state ≠ .boarding ∧ (s.berth v.berth).state ≠ .full then s.refusedBy v .boardingClosed
    else if (s.berth v.berth).source = .tally then s.refusedBy v .staffBoarding
    else if (s.berth v.berth).halted = true then s.refusedBy v .halted
    else s.passedTo { v with stage := .fare })) ∧
  ∀ (s : State) (v : Validation), s.engine = some v → v.stage = .laneRoom → ∀ p, v.product = some p →
    exec .stageLaneRoom s = .next (
      if 15 < (s.lane v.lane).credits + p.riders then s.refusedBy v .laneBusy else s.passedTo { v with stage := .decision })

/-- Stage 7 computes the fare of the product found at stage 4 with the referenced bank's fare for the route band of
stage 4 and the time band of now, the class after override, and the overdraft limit and pier number as they stand;
LOW VALUE refuses (R52, R73, R74, R83). Where stage 4 met an IDLE berth and read no band, the model computes with
some band, of which nothing is known (log 8). -/
def Obligations.StageFareComputesTheCharge : Prop :=
  (∀ (s : State) (v : Validation), s.engine = some v → v.stage = .fare → ∀ i, v.bank = some i → ∀ p, v.product = some p →
    ∀ band, v.band = some band → ∀ time, timeBandAt (s.bank i).bands (v.secs / 60) = some time →
    ∀ cls : ClassId, v.cls.getD v.image.cls = cls →
    exec .stageFare s = .next (match computeFare ⟨(s.bank i).fares[band.val * 4 + time.val]'(by omega), p,
        (s.bank i).classes[cls].concession, (s.bank i).classes[cls].cap, s.settings.overdraft, s.settings.pierNumber,
        v.day, v.secs / 60⟩ v.image with
      | none => s.refusedBy v .lowValue
      | some (charge, image) => s.passedTo { v with stage := .laneRoom, fare := some (charge, image) })) ∧
  ∀ (s : State) (v : Validation), s.engine = some v → v.stage = .fare → ∀ i, v.bank = some i → ∀ p, v.product = some p →
    v.band = none → ∀ time, timeBandAt (s.bank i).bands (v.secs / 60) = some time →
    ∀ cls : ClassId, v.cls.getD v.image.cls = cls →
    ∃ band : RouteBand, exec .stageFare s = .next (
      let u := if p.kind = .storedValue then { s with freeCount := s.freeCount + 1 } else s
      match computeFare ⟨(s.bank i).fares[band.val * 4 + time.val]'(by omega), p,
        (s.bank i).classes[cls].concession, (s.bank i).classes[cls].cap, s.settings.overdraft, s.settings.pierNumber,
        v.day, v.secs / 60⟩ v.image with
      | none => u.refusedBy v .lowValue
      | some (charge, image) => u.passedTo { v with stage := .laneRoom, fare := some (charge, image) })

/-- The decision event: with a charge and a full journal, OUT OF SERVICE with nothing asked of the berth (R54);
otherwise the berth answers hold N by its checks in order, against its state and counts at that moment, and a
refusal counts at the berth (R55, R112); places held lead to ADMIT: held rises, a reservation is taken for a charge
(R147), the lane is WRITING with a CARD WRITE placed and its write timer loaded (R23, R89), and the engine is FREE
(R57). -/
def Obligations.TheDecisionAdmitsOrRefuses : Prop :=
  ∀ (s : State) (v : Validation), s.engine = some v → v.stage = .decision → ∀ i, v.bank = some i →
    ∀ p, v.product = some p → ∀ f, v.fare = some f → (s.lane v.lane).mode ≠ .absent → (s.lane v.lane).status = .online →
    exec .decisionEvent s = .next (
      let b := s.berth v.berth
      let priority := (s.bank i).classes[v.cls.getD v.image.cls].priority
      let refused := (if b.state = .idle then s else s.withBerth v.berth { b with
        counts := { b.counts with refusals := min 65535 (b.counts.refusals + 1) } }).refusedBy v
      let held := { b with counts := { b.counts with held := b.counts.held + p.riders } }.follow
      let r := if 0 < f.1 then s.reserve else s
      let w : CardWrite := ⟨v.berth, p.riders, f.1, f.2, decide (0 < f.1), false, s.settings.writeTime, false,
        v.image.product, v.cls.getD v.image.cls, v.watch, (s.bank i).version⟩
      let x := { s.lane v.lane with
        txn := .writing v.image w
        link := (s.lane v.lane).link.placeCardWrite (s.lane v.lane).link.tag v.image.card f.2 }
      if 0 < f.1 ∧ 2048 ≤ s.journal.records.length + s.journal.reservations then s.refusedBy v .outOfService
      else if b.state ≠ .boarding ∧ b.state ≠ .full then refused .boardingClosed
      else if b.source = .tally then refused .staffBoarding
      else if b.halted = true then refused .halted
      else if b.room - (if priority then 0 else (b.reserve : Int)) < p.riders then refused .full
      else State.endEvent { (r.withLane v.lane x).withBerth v.berth held with
        engine := none
        flags := r.flags ||| (if b.state = .boarding ∧ held.state = .full then 0x10#16 else 0) |||
          (if v.watch then 2#16 else 0) } s.flags)

/-- Stage 2: a card without an entry goes on (R47); at another berth WRONG BERTH, and where the riders do not fit
LANE BUSY, with the entry left as it is (R97, R98, R99); the old sequence plus 1 is TOOK, with the places converted,
the record written, the entry gone and the credits granted (R24, R98); the old sequence is a retry that takes the
entry over (R99); any other sequence closes the entry UNRESOLVED and the validation goes on as a new tap (R100). The
premises are invariants of every run. The bank version of a refusal at this stage, the product of its records and its
WATCH CARD flag are the model's reading of R57 (logs 10, 11, 12). -/
def Obligations.StageRecoveryMatchResolvesTheEntry : Prop :=
  (∀ (s : State) (v : Validation), s.engine = some v → v.stage = .recoveryMatch →
    (∀ e ∈ s.recovery, e.card ≠ v.image.card) →
    exec .stageRecoveryMatch s = .next (s.passedTo { v with stage := .cardStatus })) ∧
  ∀ (s : State), s.placesSound → s.gatesInOrder → ∀ (v : Validation), s.engine = some v → v.stage = .recoveryMatch →
    ∀ e ∈ s.recovery, e.card = v.image.card → exec .stageRecoveryMatch s = .next (
      let x := s.lane v.lane
      let b := s.berth e.berth
      let fits := decide (x.credits + e.riders ≤ 15)
      let r := s.record e.reservation (cardDraft .recoveredTook ⟨e.watch, false, false⟩ v.lane e.berth e.card e.product
        e.cls e.riders e.charge e.image.balance e.version)
      let counted := { b with counts := { b.counts with
        held := b.counts.held - e.riders
        granted := b.counts.granted + e.riders
        admissions := min 65535 (b.counts.admissions + 1)
        revenue := min 4294967295 (b.counts.revenue + e.charge) } }
      let converted := if b.state = .closed then counted else { counted with
        quietTimer := if s.settings.quietUnit = 0 then none else some (s.settings.quietUnit * 5), lastCall := false }
      let rest := s.recovery.filter (·.card != e.card)
      let watched := fun flags : Half => if e.watch then flags ||| 2#16 else flags
      if v.berth ≠ e.berth then s.refusedAt v e.cls e.riders e.watch .wrongBerth
      else if v.image.sequence = e.image.sequence then
        if fits then
          let ended := { x with
            txn := .none, counters := { x.counters with admissions := min 65535 (x.counters.admissions + 1) } }
          if x.leaf = .fault then
            let f := r.record false (forfeitRecord v.lane e.berth e.riders false)
            State.endEvent { (f.withLane v.lane { ended with
                counters := { ended.counters with forfeited := min 65535 (x.counters.forfeited + e.riders) } }).withBerth
                  e.berth (converted.counted fun c => { c with
                    granted := c.granted - e.riders, forfeited := min 65535 (c.forfeited + e.riders) }) with
              recovery := rest, engine := none, flags := watched f.flags } s.flags
          else State.endEvent
            { (r.withLane v.lane (Lane.showing { ended with
                leaf := .opened (x.credits + e.riders)
                gateOrder := .opened (x.credits + e.riders)
                holdTimer := some s.settings.holdTime
                link := x.link.placeGate (s.carriedBy v.lane) } .go)).withBerth e.berth converted with
              recovery := rest, engine := none, flags := watched r.flags } s.flags
        else s.refusedAt v e.cls e.riders e.watch .laneBusy
      else if v.image.sequence + 1 = e.image.sequence then
        if fits then State.endEvent
          { s.withLane v.lane { x with
              txn := .writing v.image ⟨e.berth, e.riders, e.charge, e.image, e.reservation, false, s.settings.writeTime,
                true, e.product, e.cls, e.watch, e.version⟩
              link := x.link.placeCardWrite x.link.tag v.image.card e.image } with
            recovery := rest, engine := none, flags := watched s.flags } s.flags
        else s.refusedAt v e.cls e.riders e.watch .laneBusy
      else State.endEvent { s.unresolved e with engine := some { v with stage := .cardStatus } } s.flags)

/-! ### The fare computation (spec/04) -/

/-- The net fare: the gross fare is the base fare times the riders and lies from 0 to 59994; the discount is rounded
to the nearest cent, the half cent up, and is at most the gross fare; the net fare lies from 0 to 59994; a concession
of 0 discounts nothing and one of 100 leaves nothing (R75). The premises are the ranges R131 gives the table
values. -/
def Obligations.TheNetFareRoundsTheDiscount : Prop :=
  ∀ (x : FareInput), x.base ≤ 9999 → x.product.riders ≤ 6 → x.concession ≤ 100 →
    x.gross = x.base * x.product.riders ∧ x.gross ≤ 59994 ∧
    x.discount = (x.gross * x.concession + 50) / 100 ∧ x.discount ≤ x.gross ∧
    x.net = x.gross - x.discount ∧ x.net ≤ 59994 ∧
    (∀ d : Nat, d * 100 ≤ x.gross * x.concession + 50 → d ≤ x.discount) ∧
    (x.concession = 0 → x.discount = 0) ∧ (x.concession = 100 → x.net = 0) ∧
    (x.net = 0 → ∀ image, x.charge image = 0 ∧ x.overdrawn image = false)

/-- The daily cap: the spend of another day does not count; the charge is the smaller of the fare after transfer and
the cap room, or the fare after transfer with no cap; it never exceeds the fare after transfer nor, under a cap, the
cap less the day's spend, and is 0 once the cap is spent (R77). -/
def Obligations.TheDailyCapBoundsTheCharge : Prop :=
  ∀ (x : FareInput) (image : CardImage),
    x.spendSoFar image = (if image.dayStamp = x.today then image.daySpend else 0) ∧
    x.charge image = (if x.cap = 0 then x.afterTransfer image
      else min (x.afterTransfer image) (if x.cap ≤ x.spendSoFar image then 0 else x.cap - x.spendSoFar image)) ∧
    (x.cap ≠ 0 → x.cap ≤ x.spendSoFar image → x.charge image = 0) ∧
    x.charge image ≤ x.afterTransfer image ∧ (x.cap ≠ 0 → x.charge image ≤ x.cap - x.spendSoFar image) ∧
    (x.base ≤ 9999 → x.product.riders ≤ 6 → x.charge image ≤ 59994)

/-- What the fare computation hands on: LOW VALUE or the charge with the new balance of a stored-value card, never
below minus the overdraft limit after a charge (R78, R79); a charge of 0 for a pass and for a bundle, which loses its
trips (R80, R81); and on every path the transfer mark of R76, today, now, the pier and the next sequence (R82). -/
def Obligations.TheFareComputationGivesChargeAndImage : Prop :=
  ∀ (x : FareInput) (card : CardImage),
    let transfer := x.product.window ≠ 0 ∧ card.transferUsed = false ∧ card.dayStamp = x.today ∧
      card.lastMinute ≤ x.now ∧ x.now ≤ card.lastMinute + x.product.window
    x.afterTransfer card = x.net - (if transfer then min x.net x.product.allowance else 0) ∧
    computeFare x card = (
      let image := fun (balance : Int) (trips spend : Nat) =>
        (⟨balance, trips, x.today, spend, x.now, x.pier, decide transfer, card.sequence + 1⟩ : NewImage)
      match x.product.kind with
      | .storedValue =>
        if 0 < x.charge card ∧ card.balance - x.charge card < -(x.overdraft : Int) then none
        else some (x.charge card,
          image (card.balance - x.charge card) card.trips (min 65535 (x.spendSoFar card + x.charge card)))
      | .pass => some (0, image card.balance card.trips (x.spendSoFar card))
      | .bundle => some (0, image card.balance (card.trips - x.product.riders) (x.spendSoFar card))) ∧
    ∀ result, computeFare x card = some result → 0 < result.1 → -(x.overdraft : Int) ≤ result.2.balance

/-- A window is passed when and only when the card's day stamp is today and the minute difference, a whole number that
may be negative, lies from 0 to the window; a window of 0 admits a difference of 0 (R70). The time band of a minute is
that of the last boundary starting at or below it, and below the first boundary that of the last boundary of the list
(R71); the order of the list is an invariant of every run. -/
def Obligations.TheWindowTestAndTheTimeBandLookup : Prop :=
  (∀ (image : CardImage) (today now window : Nat),
    (inWindow image today now window = true ↔
      image.dayStamp = today ∧ 0 ≤ (now : Int) - image.lastMinute ∧ (now : Int) - image.lastMinute ≤ window) ∧
    (image.dayStamp ≠ today → inWindow image today now window = false) ∧
    (now < image.lastMinute → inWindow image today now window = false) ∧
    (image.dayStamp = today → now = image.lastMinute → inWindow image today now window = true)) ∧
  (∀ (k : Bank), k.bandsAscend → ∀ (m : Nat), ∀ x ∈ k.bands,
    (x.start ≤ m → (∀ y ∈ k.bands, y.start ≤ m → y.start ≤ x.start) → timeBandAt k.bands m = some x.band) ∧
    ((∀ y ∈ k.bands, m < y.start ∧ y.start ≤ x.start) → timeBandAt k.bands m = some x.band))

/-! ### Berths (spec/06) -/

/-- BERTH ARRIVE and BERTH CAPACITY: values clamped, E worked out from the capacity, the gangway limit and those
aboard, the reserve the smaller of the one asked and E (R105, R107, R118); CAPACITY never sets E below held plus
granted plus passed and then sets CAPACITY CLAMPED, and the state follows room (R106, R118). BERTH OPEN in ALONGSIDE
gives BOARDING, or FULL with BERTH FULL where room is 0 or less, and loads the quiet timer (R108, R122); BERTH CLOSE
in BOARDING or FULL gives CLOSED, stops the quiet timer and clears the mark (R109); BERTH SOURCE sets the count
source in ALONGSIDE, BOARDING and FULL (R119). In every other state each is answered STATE, and a number out of range
RANGE. That an ARRIVE out of range is answered RANGE in every state is the model's reading (log 27). -/
def Obligations.BerthRequestsChangeTheCall : Prop :=
  ((∀ (s : State), s.request = none → ∀ (b : BerthId) (tag reserve band : Byte) (vessel capacity aboard : Half),
    exec (.berthArrive tag (number b) vessel capacity aboard reserve band) s = .next (
      let c := min 1200 capacity.toNat
      let a := min 1200 aboard.toNat
      let e := min c s.settings.gangway[b] - a
      if h : band.toNat < 8 then
        if (s.berth b).state = .idle then s.answered (s.withBerth b { s.berth b with
            state := .alongside, effective := e, reserve := min (min 50 reserve.toNat) e, source := .gates
            vessel := some ⟨vessel.toNat, c, a, min 50 reserve.toNat, ⟨band.toNat, h⟩⟩ })
          [.reply .berthArrive tag (.arrived c a (min 50 reserve.toNat) e)]
        else s.answered s [.reply .berthArrive tag (.plain .state)]
      else s.answered s [.reply .berthArrive tag (.plain .range)])) ∧
  ∀ (s : State), s.request = none → ∀ (b : BerthId) (tag : Byte) (capacity aboard : Half),
    ((s.berth b).state = .idle → exec (.berthCapacity tag (number b) capacity aboard) s =
      .next (s.answered s [.reply .berthCapacity tag (.plain .state)])) ∧
    ∀ vessel, (s.berth b).vessel = some vessel → (s.berth b).state ≠ .idle →
    exec (.berthCapacity tag (number b) capacity aboard) s = .next (
      let c := min 1200 capacity.toNat
      let a := min 1200 aboard.toNat
      let formula := min c s.settings.gangway[b] - a
      let committed := (s.berth b).counts.held + (s.berth b).counts.granted + (s.berth b).counts.passed
      let e := max formula committed
      let after := { s.berth b with
        vessel := some { vessel with capacity := c, aboard := a }
        effective := e, reserve := min vessel.reserveAsked e }.follow
      s.replied { s.withBerth b after with
          flags := s.flags ||| (if formula < committed then 0x8000#16 else 0) |||
            (if (s.berth b).state = .boarding ∧ after.state = .full then 0x10#16 else 0) }
        .berthCapacity tag (.recapacitated c a e))) ∧
  ((∀ (s : State), s.request = none → ∀ (b : BerthId) (tag : Byte),
    exec (.berthOpen tag (number b)) s = .next (
      let opened := { s.berth b with
        state := if (s.berth b).room ≤ 0 then .full else .boarding, lastCall := false
        quietTimer := if s.settings.quietUnit = 0 then none else some (s.settings.quietUnit * 5) }
      if (s.berth b).state = .alongside then s.replied { s.withBerth b opened with
          flags := if (s.berth b).room ≤ 0 then s.flags ||| 0x10#16 else s.flags } .berthOpen tag (.plain .done)
      else s.answered s [.reply .berthOpen tag (.plain .state)]) ∧
    exec (.berthClose tag (number b)) s = .next (
      if (s.berth b).state = .boarding ∨ (s.berth b).state = .full then s.answered
        (s.withBerth b { s.berth b with state := .closed, quietTimer := none, lastCall := false })
        [.reply .berthClose tag (.plain .done)]
      else s.answered s [.reply .berthClose tag (.plain .state)])) ∧
  (∀ (s : State), s.request = none → ∀ (b : BerthId) (tag source : Byte),
    exec (.berthSource tag (number b) source) s = .next (
      if 1 < source.toNat then s.answered s [.reply .berthSource tag (.plain .range)]
      else if (s.berth b).state = .idle ∨ (s.berth b).state = .closed then
        s.answered s [.reply .berthSource tag (.plain .state)]
      else s.answered (s.withBerth b { s.berth b with source := if source = 0 then .gates else .tally })
        [.reply .berthSource tag (.plain .done)])) ∧
  ∀ (s : State), s.request = none → ∀ (tag n source band : Byte) (x y z : Half), n.toNat = 0 ∨ 4 < n.toNat →
    exec (.berthArrive tag n x y z source band) s = .next (s.answered s [.reply .berthArrive tag (.plain .range)]) ∧
    exec (.berthOpen tag n) s = .next (s.answered s [.reply .berthOpen tag (.plain .range)]) ∧
    exec (.berthClose tag n) s = .next (s.answered s [.reply .berthClose tag (.plain .range)]) ∧
    exec (.berthDepart tag n) s = .next (s.answered s [.reply .berthDepart tag (.plain .range)]) ∧
    exec (.berthSource tag n source) s = .next (s.answered s [.reply .berthSource tag (.plain .range)]) ∧
    exec (.berthCapacity tag n x y) s = .next (s.answered s [.reply .berthCapacity tag (.plain .range)]))

/-- BERTH DEPART performs the turnover: the credits of the berth's lanes are forfeited, its writes orphaned, its
recovery entries closed, the manifest with nothing held or granted closed under the vessel's number, and the berth is
IDLE; waiting and validating lanes and other berths are not touched (R110, R111). The journal receives a FORFEIT record
for each lane with credits in ascending number, an UNRESOLVED record for each entry from the oldest, and then the
MANIFEST record of the closed manifest (R110, R111). The last clause gives the whole device: a lane that had credits with
its leaf and gate SHUT, a GATE asked for, the hold timer stopped and its counter raised (R19, R27), and RECOVERY
UNRESOLVED set where an entry is closed (R92). IDLE answers STATE. The premises are invariants of every run. -/
def Obligations.DepartPerformsTheTurnover : Prop :=
  (∀ (s : State), s.request = none → ∀ (b : BerthId) (tag : Byte), (s.berth b).state = .idle →
    exec (.berthDepart tag (number b)) s = .next (s.answered s [.reply .berthDepart tag (.plain .state)])) ∧
  (∀ (s : State), s.request = none → s.placesSound → ∀ (b : BerthId) (tag : Byte), (s.berth b).state ≠ .idle →
    ∃ t, exec (.berthDepart tag (number b)) s = .next t ∧
      t.berth b = (s.departed b).berth b ∧
      t.journal = (s.departed b).journal ∧
      (∀ c : BerthId, c ≠ b → t.berth c = s.berth c) ∧
      t.recovery = s.recovery.filter (·.berth ≠ b) ∧
      (∀ l : LaneId, (t.lane l).txn = (s.lane l).txn.leftAt b) ∧
      (∀ l : LaneId, (t.lane l).credits = if (s.lane l).mode = .entry b then 0 else (s.lane l).credits) ∧
      (∀ l : LaneId, (s.lane l).mode ≠ .entry b → (t.lane l).leaf = (s.lane l).leaf ∧ (t.lane l).link = (s.lane l).link) ∧
      t.engine = s.engine ∧ t.bankA = s.bankA ∧ t.bankB = s.bankB ∧ t.clock = s.clock ∧ t.settings = s.settings) ∧
  ∀ (s : State), s.request = none → s.placesSound → s.gatesInOrder → ∀ (b : BerthId) (tag : Byte),
    (s.berth b).state ≠ .idle →
    exec (.berthDepart tag (number b)) s = .next (s.replied (s.departed b) .berthDepart tag (.plain .done))

/-- The count requests of spec/06, each with the state that follows room (R106): convert, release, pass, reverse,
unpaid and forfeit change the counts their rules name and are not applied in IDLE (R113 to R117; forfeit nor in
ALONGSIDE), and tally counts only under TALLY in BOARDING or FULL (R120). For convert in IDLE and release in IDLE the
model's reading is log 15. That room is settled at each request is read from the section Place requests (log 28). -/
def Obligations.CountRequestsMoveThePlaces : Prop :=
  ∀ (s : State) (b : BerthId) (n charge : Nat), let x := s.berth b
    (s.release b n).berth b = x.counted (fun c => { c with held := c.held - n }) ∧
    (s.pass b).berth b = x.counted (fun c => { c with granted := c.granted - 1, passed := c.passed + 1 }) ∧
    (s.reverse b).berth b = x.counted (fun c => { c with passed := c.passed - 1, reverse := min 65535 (c.reverse + 1) }) ∧
    (s.unpaid b).berth b = x.counted (fun c => { c with unpaid := min 65535 (c.unpaid + 1) }) ∧
    (s.forfeitPlaces b n).berth b = (if x.state = .alongside then x else
      x.counted fun c => { c with granted := c.granted - n, forfeited := min 65535 (c.forfeited + n) }) ∧
    (s.tally b).berth b = (if x.source = .tally ∧ (x.state = .boarding ∨ x.state = .full) then
      x.counted fun c => { c with tallied := min 65535 (c.tallied + 1) } else x.follow) ∧
    ((s.convert b n charge).berth b).counts = (x.counted fun c => { c with
      held := c.held - n, granted := c.granted + n, admissions := min 65535 (c.admissions + 1)
      revenue := min 4294967295 (c.revenue + charge) }).counts ∧
    (∀ y : Berth, (y.follow).state = if y.state = .boarding ∨ y.state = .full then
      (if (y.effective : Int) - (y.counts.held + y.counts.granted + y.counts.passed + y.counts.unpaid + y.counts.tallied) ≤ 0
        then .full else .boarding) else y.state)

/-! ### The Table Store (spec/07) -/

/-- A request that changes the shadow is taken in the event of its arrival while the shadow is not read-locked, and
waits, in progress, otherwise (R128, R140). Once taken it stays in progress until TABLE_WORK_DONE does its work, sends its
reply and ends it (R128); that its entries stand in the shadow from then on is the model's reading (log 5), and so is that
every such request but TABLE ACTIVATE stays in progress until then (log 6), while a TABLE ACTIVATE, which has no work left
when it has been taken, is answered in that event, after its NOTICE (log 7). With no request taken TABLE_WORK_DONE cannot
arise and changes nothing, which is the model's choice (log 2). -/
def Obligations.ATableRequestIsTakenOrWaits : Prop :=
  (∀ (c : Instr) (s : State), s.request = none → ∀ (tag : Byte) (r : TableRequest), tableRequestOf c = some (tag, r) →
    (s.readLocked = true → exec c s = .next (s.answered { s with request := some ⟨tag, r, .waiting⟩ } [])) ∧
    (s.readLocked = false → r.kind ≠ .tableActivate → exec c s = .next (s.answered
      { (s.takeTable r).1 with request := some ⟨tag, r, .working (s.takeTable r).2⟩ }
      (noticeFor s.flags (s.takeTable r).1))) ∧
    (s.readLocked = false → r.kind = .tableActivate → exec c s = .next
      (s.replied (s.takeTable r).1 .tableActivate tag (s.takeTable r).2))) ∧
  ∀ (s : State),
    (∀ j, s.request = some j → ∀ body, j.phase = .working body →
      exec .tableWorkDone s = .next { s.workTable j.request with
        request := none, depotOut := s.depotOut ++ [.reply j.request.kind j.tag body] }) ∧
    (s.request.all TableJob.waits = true → exec .tableWorkDone s = .next s)

/-- What each table request but TABLE ACTIVATE does: when it is taken its outcome is decided against the shadow and a
pending activation is cancelled with its flag whatever the outcome; its work writes what the outcome names into the
shadow, and nothing else (R128, R129, R132 to R136). The work of a TABLE ACTIVATE is done at its taking. -/
def Obligations.TableRequestsEditTheShadowAndCancel : Prop :=
  ∀ (s : State), let kept := if s.pendingActivation = none then s else
      { s with pendingActivation := none, flags := s.flags ||| 0x800#16 }
    let shadow := s.bank s.shadow
    (s.takeTable .clear = (kept, .plain .done) ∧
      s.workTable .clear = s.withBank s.shadow ⟨[], .replicate 64 ⟨false, .storedValue, 1, 0, 0, 0⟩,
        .replicate 32 0, .replicate 8 ⟨0, 0, false⟩, [], 0⟩) ∧
    (s.active = none → s.takeTable .copy = (kept, .plain .state) ∧ s.workTable .copy = s) ∧
    (∀ i, s.active = some i → s.takeTable .copy = (kept, .plain .done) ∧
      s.workTable .copy = s.withBank s.shadow (s.bank i)) ∧
    (∀ card : CardNo, let present := shadow.cards.any (·.card == card)
      s.takeTable (.remove card) = (kept, .plain (if present then .done else .notFound)) ∧
      s.workTable (.remove card) = if present then
        s.withBank s.shadow { shadow with cards := shadow.cards.eraseP (·.card == card) } else s) ∧
    (∀ r : RawCard,
      let outcome : Result := if cardLawful r = false then .range
        else if shadow.cards.any (·.card == r.card) then .duplicate
        else if 4096 ≤ shadow.cards.length then .capacity
        else .done
      s.takeTable (.insert r) = (kept, .plain outcome) ∧
      s.workTable (.insert r) = if outcome = .done then
        s.withBank s.shadow { shadow with cards := insertCard (cardSpelled r) shadow.cards } else s) ∧
    (∀ (start : Half) (body : TableBody), let r := shadow.writeChecked start.toNat body
      s.takeTable (.write start body) = (kept, .tableWrite r.2.result r.2.written (body.count - r.2.written)) ∧
      s.workTable (.write start body) = s.withBank s.shadow r.1) ∧
    ∀ (version : Quad) (expected : Half) (timing : Byte) (day : Half) (secs : Quad),
      s.workTable (.activate version expected timing day secs) = s

/-- TABLE WRITE: a count of 0 or above 32 is RANGE; the entries before the first failing one are written, and that one
and every later one are not, so written and not written add to the count (R129). An ordered list, CARD LIST or TIME
BANDS, appends at its count, restarts at 0 and answers ORDER at any other start; the write ends with the result of the
first failing check of R130, or DONE. In an indexed table, PRODUCTS, FARES or CLASSES, each entry written stands at its
index and every other entry is as it was, and an index or field out of range ends the write with RANGE (R131). CARD
INSERT puts an entry in its place: the list stays strictly ascending and holds the entry and what it held before; CARD
REMOVE takes exactly the card's entry out (R130, R132, R133). -/
def Obligations.TableWritesStopAtTheFirstFailureAndKeepOrder : Prop :=
  ((∀ (k : Bank) (start : Nat) (body : TableBody), body.count = 0 ∨ 32 < body.count →
    k.writeChecked start body = (k, ⟨.range, 0⟩)) ∧
  (∀ (k : Bank) (start : Nat) (body : TableBody),
    (k.writeChecked start body).2.written ≤ body.count ∧
    ((k.writeChecked start body).2.result = .done → (k.writeChecked start body).2.written = body.count) ∧
    (k.writeChecked start body).1.version = k.version)) ∧
  ((∀ (k : Bank) (es : List RawCard), 1 ≤ es.length → es.length ≤ 32 →
    (∀ (start : Nat), start ≠ 0 → start ≠ k.cards.length → k.writeChecked start (.cards es) = (k, ⟨.order, 0⟩)) ∧
    (let r := k.writeChecked 0 (.cards es);
      r.1 = { k with cards := r.1.cards } ∧ orderedWrite cardCheck cardSpelled [] r.1.cards es r.2) ∧
    let r := k.writeChecked k.cards.length (.cards es)
    k.cards ≠ [] → r.1 = { k with cards := r.1.cards } ∧ orderedWrite cardCheck cardSpelled k.cards r.1.cards es r.2) ∧
  (∀ (k : Bank) (es : List RawBoundary), 1 ≤ es.length → es.length ≤ 32 →
    (∀ (start : Nat), start ≠ 0 → start ≠ k.bands.length → k.writeChecked start (.timeBands es) = (k, ⟨.order, 0⟩)) ∧
    (let r := k.writeChecked 0 (.timeBands es);
      r.1 = { k with bands := r.1.bands } ∧ orderedWrite boundaryCheck boundarySpelled [] r.1.bands es r.2) ∧
    let r := k.writeChecked k.bands.length (.timeBands es)
    k.bands ≠ [] →
      r.1 = { k with bands := r.1.bands } ∧ orderedWrite boundaryCheck boundarySpelled k.bands r.1.bands es r.2)) ∧
  ((∀ (k : Bank) (start : Nat) (es : List RawProduct), 1 ≤ es.length → es.length ≤ 32 →
    let r := k.writeChecked start (.products es)
    r.1 = { k with products := r.1.products } ∧
      indexedWrite productLawful productSpelled start k.products r.1.products es r.2) ∧
  (∀ (k : Bank) (start : Nat) (es : List Half), 1 ≤ es.length → es.length ≤ 32 →
    let r := k.writeChecked start (.fares es)
    r.1 = { k with fares := r.1.fares } ∧
      indexedWrite (fun e => decide (e.toNat ≤ 9999)) (·.toNat) start k.fares r.1.fares es r.2) ∧
  (∀ (k : Bank) (start : Nat) (es : List RawClass), 1 ≤ es.length → es.length ≤ 32 →
    let r := k.writeChecked start (.classes es)
    r.1 = { k with classes := r.1.classes } ∧
      indexedWrite classLawful classSpelled start k.classes r.1.classes es r.2)) ∧
  ∀ (k : Bank), k.cardsAscend →
    (∀ (r : RawCard), (k.insert r).1.cardsAscend ∧ ((k.insert r).2 = .done →
      ∀ e, e ∈ (k.insert r).1.cards ↔ e ∈ k.cards ∨ cardEntryOf r = some e)) ∧
    ∀ (card : CardNo), (k.remove card).1.cardsAscend ∧
      (∀ e, e ∈ (k.remove card).1.cards ↔ e ∈ k.cards ∧ e.card ≠ card) ∧
      ((k.remove card).2 = .done ↔ ∃ e ∈ k.cards, e.card = card)

/-- TABLE ACTIVATE: RANGE for a timing or seconds value out of range, INCOMPLETE for a shadow whose count is not the one
expected, that has no valid product or no boundary, each changing nothing; otherwise the version is written, and the
swap is made at once for NOW and for an instant the set clock has reached, or the instant becomes pending in place of
any other (R137, R138, R139). -/
def Obligations.ActivateSwapsNowOrAtItsInstant : Prop :=
  ∀ (s : State) (version : Quad) (expected : Half) (timing : Byte) (day : Half) (secs : Quad),
    s.takeTable (.activate version expected timing day secs) =
      let shadow := s.bank s.shadow
      let versioned := s.withBank s.shadow { shadow with version := version }
      if 1 < timing.toNat ∨ (timing = 1 ∧ 86399 < secs.toNat) then (s, .plain .range)
      else if shadow.cards.length ≠ expected.toNat ∨ (∀ i : Fin 64, shadow.products[i].valid = false) ∨ shadow.bands = [] then
        (s, .plain .incomplete)
      else if timing = 0 ∨ (s.clock.isSet = true ∧
          (Instant.mk day.toNat secs.toNat).dueAt s.clock.day s.clock.secs) then (versioned.swapped, .activated true)
      else ({ versioned with pendingActivation := some ⟨day.toNat, secs.toNat⟩ }, .activated false)

/-! ### The Journal (spec/08) -/

/-- A record takes its reserved slot, else a free slot, else it is counted in the overflow tally (R144, R149). A stored
one takes the next sequence number and the clock's time, or 0 and 0 while the clock is UNSET; the batch counter rises
and JOURNAL BATCH is set at the setting (R153); an occupancy that rises to 1792 or 2048 sets JOURNAL HIGH or JOURNAL
FULL, by an unreserved record or a reservation (R147, R148). -/
def Obligations.TheJournalStoresOrCountsARecord : Prop :=
  ∀ (s : State) (d : Draft), let j := s.journal
    let time := if s.clock.isSet then (s.clock.day, s.clock.secs) else (0, 0)
    let full := s.settings.journalBatch ≠ 0 ∧ s.settings.journalBatch ≤ j.batch + 1
    let stored := { j with
      records := j.records ++ [⟨j.next, time.1, time.2, d⟩]
      next := j.next + 1
      batch := if s.settings.journalBatch = 0 then j.batch else if full then 0 else j.batch + 1 }
    let lit := s.flags ||| (if full then 0x200#16 else 0)
    let marks := fun k : Nat => (if k + 1 = 1792 then 0x80#16 else 0) ||| (if k + 1 = 2048 then 0x100#16 else 0)
    s.record true d = { s with journal := { stored with reservations := j.reservations - 1 }, flags := lit } ∧
    (j.records.length + j.reservations < 2048 → s.record false d =
      { s with journal := stored, flags := lit ||| marks (j.records.length + j.reservations) }) ∧
    (2048 ≤ j.records.length + j.reservations → s.record false d = { s with journal := { j with
      tally := j.tally.set d.kind.index (min 65535 (j.tally[d.kind.index] + 1)) } }) ∧
    s.reserve = { s with
      journal := { j with reservations := j.reservations + 1 }, flags := s.flags ||| marks (j.records.length + j.reservations) }

/-! ### Pier lines and emergency release (spec/09) -/

/-- A level change at a line changes the level outside alone; a level held for 20 ms becomes the debounced level at
every line that is no OUTPUT (R156), and then an INPUT TALLY line that falls sends tally 1 to its berth, an INPUT HALT
line sets its berth's halt flag to whether one of the berth's halt lines is low, and an INPUT RELEASE line that changes
nothing about release changes nothing else (R120, R121, R157, R160). The premises are invariants of every run. A
debounce with no measure in progress cannot arise and changes nothing (log 2). -/
def Obligations.DebouncedLinesDriveTheirFunctions : Prop :=
  (∀ (s : State) (i : LineId) (level : Level), exec (.lineLevelChange i level) s =
    .next { s with lines := s.lines.set i { s.line i with level := level } }) ∧
  (∀ (s : State) (i : LineId), ((s.line i).entry.isOutput = true ∨ (s.line i).level = (s.line i).debounced) →
    exec (.lineDebounce i) s = .next s) ∧
  ∀ (s : State), s.atRest → s.linesFollowed → ∀ (i : LineId), (s.line i).entry.isOutput = false →
    (s.line i).level ≠ (s.line i).debounced →
    let read := { s with lines := s.lines.set i { s.line i with debounced := (s.line i).level } }
    ((s.line i).entry = .unused → exec (.lineDebounce i) s = .next read) ∧
    (∀ b, (s.line i).entry = .inputTally b →
      ((s.line i).level = .high → exec (.lineDebounce i) s = .next read) ∧
      ((s.line i).level = .low → exec (.lineDebounce i) s = .next (State.noticed s.flags (read.tally b)))) ∧
    (∀ b, (s.line i).entry = .inputHalt b → exec (.lineDebounce i) s = .next (read.withBerth b { s.berth b with
      halted := decide (∃ j : LineId, (read.line j).entry = .inputHalt b ∧ (read.line j).debounced = .low) })) ∧
    ((s.line i).entry = .inputRelease →
      ∃ t, exec (.lineDebounce i) s = .next t ∧ t.lines = read.lines ∧
        t.lineSource = decide (∃ j : LineId, (read.line j).entry = .inputRelease ∧ (read.line j).debounced = .low) ∧
        t.releaseActive = (s.frameSource || t.lineSource) ∧
        (t.releaseActive = s.releaseActive → t = { read with lineSource := t.lineSource }))

/-- LINE SETUP is answered RANGE for a line, berth or output event out of range, and otherwise replaces the entry: an
OUTPUT and a line that stops being one stand at debounced high, and the halt flags and the line release source follow
the lines in the same event; other lines, and with no change of release everything else, are as they were (R155, R157).
The premises are invariants of every run. -/
def Obligations.LineSetupTakesEffectAtOnce : Prop :=
  (∀ (s : State), s.request = none → ∀ (tag line entry parameter options : Byte),
    (line.toNat = 0 ∨ 8 < line.toNat ∨ 4 < entry.toNat ∨ (entry = 1 ∧ 17 < parameter.toNat) ∨
      ((entry = 3 ∨ entry = 4) ∧ (parameter.toNat = 0 ∨ 4 < parameter.toNat))) →
    exec (.lineSetup tag line entry parameter options) s = .next (s.answered s [.reply .lineSetup tag (.plain .range)])) ∧
  ∀ (s : State), s.request = none → s.placesSound → s.linesFollowed → ∀ (i : LineId) (tag entry parameter options : Byte),
    ∀ e, lineEntryOf entry parameter options = some e →
    ∃ t, exec (.lineSetup tag (number i) entry parameter options) s = .next t ∧
      t.line i = { s.line i with
        entry := e, debounced := if e.isOutput || (s.line i).entry.isOutput then .high else (s.line i).debounced } ∧
      (∀ j : LineId, j ≠ i → t.line j = s.line j) ∧
      t.lineSource = decide (∃ j : LineId, (t.line j).entry = .inputRelease ∧ (t.line j).debounced = .low) ∧
      (∀ b : BerthId, (t.berth b).halted = decide (∃ j : LineId, (t.line j).entry = .inputHalt b ∧ (t.line j).debounced = .low)) ∧
      t.releaseActive = (s.frameSource || t.lineSource) ∧
      (t.releaseActive = s.releaseActive →
        t = s.answered (s.withLine i (t.line i)) [.reply .lineSetup tag (.plain .done)]) ∧
      t.depotOut = s.depotOut ++ noticeFor s.flags t ++ [.reply .lineSetup tag (.plain .done)]

/-- The start of release, by RELEASE START, by an INPUT RELEASE line that falls and by a LINE SETUP that reads a low line
for release: modes saved, waiting and validating work dropped, credits forfeited, writes orphaned, recovery entries
closed, every ENTRY and CLOSED gate OPEN FREE with FREE EXIT shown at the ONLINE ones, nothing held or granted at any
berth, the RELEASE CHANGE flag, and a FORFEIT record for each lane with credits in ascending number and then an UNRESOLVED
record for each entry from the oldest, all with the RELEASE mark (R27, R90, R92, R155, R157, R161); while release is
already active a RELEASE START sets the source alone (R160). The premises are invariants of every run. -/
def Obligations.ReleaseOpensEveryGate : Prop :=
  (∀ (s : State), s.request = none → s.atRest → s.releaseActive = true → ∀ (tag : Byte), exec (.releaseStart tag) s =
    .next (s.answered { s with frameSource := true } [.reply .releaseStart tag (.release true)])) ∧
  (∀ (s : State), s.request = none → s.placesSound → s.gatesInOrder → s.releaseActive = false → ∀ (tag : Byte),
    exec (.releaseStart tag) s =
      .next (s.replied (State.releaseBegun { s with frameSource := true }) .releaseStart tag (.release true))) ∧
  (∀ (s : State), s.placesSound → s.gatesInOrder → s.linesFollowed → s.releaseActive = false → ∀ (i : LineId),
    (s.line i).entry = .inputRelease → (s.line i).level = .low →
    exec (.lineDebounce i) s =
      .next ((s.withLine i { s.line i with debounced := .low }).releaseBegun.endEvent s.flags)) ∧
  ∀ (s : State), s.request = none → s.placesSound → s.gatesInOrder → s.linesFollowed → s.releaseActive = false →
    ∀ (i : LineId), (s.line i).entry.isOutput = false → (s.line i).debounced = .low →
    ∀ (tag parameter options : Byte), exec (.lineSetup tag (number i) 2 parameter options) s =
      .next (s.replied (s.withLine i { s.line i with entry := .inputRelease }).releaseBegun .lineSetup tag (.plain .done))

/-- The end of release, by RELEASE END, by the last INPUT RELEASE line that rises and by a LINE SETUP that leaves no low
line read for release: every lane takes its saved mode, its leaf is SHUT, its gate order worked out and a GATE asked for,
WAIT shown at ENTRY and LANE CLOSED at CLOSED lanes, and the RELEASE CHANGE flag is set (R155, R157, R163); while a release
line holds release active, or release is inactive, a RELEASE END clears the source alone (R160). The premises are
invariants of every run. -/
def Obligations.ReleaseEndsToTheSavedModes : Prop :=
  (∀ (s : State), s.request = none → s.atRest → s.releaseActive = s.lineSource → ∀ (tag : Byte),
    exec (.releaseEnd tag) s =
      .next (s.answered { s with frameSource := false } [.reply .releaseEnd tag (.release s.releaseActive)])) ∧
  (∀ (s : State), s.request = none → s.atRest → s.releaseActive = true → s.lineSource = false → ∀ (tag : Byte),
    exec (.releaseEnd tag) s =
      .next (s.replied (State.releaseOver { s with frameSource := false }) .releaseEnd tag (.release false))) ∧
  (∀ (s : State), s.linesFollowed → s.releaseActive = true → s.frameSource = false → ∀ (i : LineId),
    (s.line i).entry = .inputRelease → (s.line i).level = .high →
    (∀ j : LineId, j ≠ i → (s.line j).entry = .inputRelease → (s.line j).debounced = .high) →
    exec (.lineDebounce i) s =
      .next ((s.withLine i { s.line i with debounced := .high }).releaseOver.endEvent s.flags)) ∧
  ∀ (s : State), s.request = none → s.atRest → s.linesFollowed → s.releaseActive = true → s.frameSource = false →
    ∀ (i : LineId), (s.line i).entry = .inputRelease →
    (∀ j : LineId, j ≠ i → (s.line j).entry = .inputRelease → (s.line j).debounced = .high) →
    ∀ (tag entry parameter options : Byte) (e : LineEntry), lineEntryOf entry parameter options = some e →
    e ≠ .inputRelease → exec (.lineSetup tag (number i) entry parameter options) s =
      .next (s.replied (s.withLine i { s.line i with
        entry := e, debounced := if e.isOutput then .high else (s.line i).debounced }).releaseOver
          .lineSetup tag (.plain .done))

/-! ### The invariants, at reset and at every step -/

/-- Every invariant of Safety.lean holds at reset. -/
def Obligations.TheInvariantsHoldAtReset : Prop :=
  State.reset.gatesInOrder ∧ State.reset.slotsLawful ∧ State.reset.journal.numbered ∧ State.reset.valuesInRange ∧
  State.reset.tablesSound ∧ State.reset.linesFollowed ∧ State.reset.placesSound ∧ State.reset.atRest

/-- Every step keeps the gate order of each lane equal to the first case of R19 that applies, and keeps at most one CARD
WRITE and at most one GATE between the two slots of a lane, the stale mark on a sent GATE alone, and the miss count at
most 8 (R4, R5, R11). -/
def Obligations.EveryStepKeepsGateOrdersAndSlots : Prop :=
  (∀ s t : State, s.gatesInOrder → step s = .next t → t.gatesInOrder) ∧
  (∀ s t : State, s.slotsLawful → step s = .next t → t.slotsLawful)

/-- Every step keeps the records of the journal consecutively numbered up to the next sequence number (R144, R151,
R152), and keeps the settings, the batch counter and the clock in their ranges (R62, R64, R153, R171). -/
def Obligations.EveryStepKeepsNumbersAndRanges : Prop :=
  (∀ s t : State, s.journal.numbered → step s = .next t → t.journal.numbered) ∧
  (∀ s t : State, s.valuesInRange → step s = .next t → t.valuesInRange)

/-- Every step keeps both banks as the checks of the table requests demand, the card and time-band lists ascending, a
bank with a boundary behind every reference, and no change pending over a locked shadow (R72, R130, R131, R137,
R140). -/
def Obligations.EveryStepKeepsTheTablesSound : Prop :=
  ∀ s t : State, s.tablesSound → step s = .next t → t.tablesSound

/-- Every step keeps release equal to its sources, and the halt flags and the line release source equal to the lines
(R121, R157, R160). -/
def Obligations.EveryStepKeepsReleaseAndHaltsOnTheirLines : Prop :=
  ∀ s t : State, s.linesFollowed → step s = .next t → t.linesFollowed

/-- Every step keeps the laws of admission: no berth is oversold, held, granted and the reservations are exactly what
the writes, entries and credits account for, at most one validation is in flight and it is its lane's, the recovery list
holds at most 8 entries of distinct cards, and records plus reservations never exceed 2048 (R42, R91, R106, R114, R117,
R147, R162). Where these laws and those of the tables hold, nothing waits that could be served (R42, R140): the premise
`atRest` of the statements above. -/
def Obligations.EveryStepKeepsThePlacesSound : Prop :=
  (∀ s t : State, s.placesSound → step s = .next t → t.placesSound) ∧
  ∀ s : State, s.placesSound → s.tablesSound → s.atRest

/-! ### The frames (spec/11) -/

/-- An answer of the lane link whose bytes are those spec/11 gives a report is read as that report from that lane, with
every field at every value a frame carries; at another lane's turn it is bad. -/
def Obligations.AnswersAreReadAsTheyAreWritten : Prop :=
  ∀ (l m : LaneId) (n : Byte) (r : Report), r.inFrame = true →
    answerReport l (answerBytes l n r) = some (n, r) ∧ (m ≠ l → answerReport m (answerBytes l n r) = none)

/-- The bytes that spec/11 gives a well-formed request are read as that request, with every operand at every value
(R166, R177). Which command the bytes stand for is the form of the model's commands (log 22). A frame with a correct
check whose body is shorter than its kind requires is bad, and one of a kind that is no request and long enough is of an
unknown kind (R166, R177). What a kind that is no request requires is the model's choice: a kind without a layout on the
depot link requires nothing (log 32), and a reply to IDENTIFY with the result DONE requires the 13 bytes of its fields,
where spec/11 states 12 (log 35). -/
def Obligations.RequestsAreReadAsTheyAreWritten : Prop :=
  (∀ (c : Instr), c.wellFormed = true → ∀ e, requestEnvelope c = some e → depotCommand e.bytes = c) ∧
  ∀ (kind tag : Byte) (body : List Byte), body.length < 65534 →
    (∀ k, requestKindOf kind = some k → body.length < k.bodySize body →
      depotCommand (Envelope.bytes ⟨kind, tag, body⟩) = .depotBadFrame) ∧
    (requestKindOf kind = none → depotCommand (Envelope.bytes ⟨kind, tag, body⟩) =
      if body.length < otherBodySize kind body then .depotBadFrame else .depotUnknownFrame kind tag)
end

