-- ==== Sys2Proof/Laws/State.lean ====
section
/-! SUPPORT. What each update of the state does to each field: one lemma per field per update, so that no later
proof unfolds a record update. -/

namespace Sys2Proof.Machine

variable (s : State)

/-! ### State.raise -/

@[simp] theorem State.raise_lanes (x : NoticeFlag) : (s.raise x).lanes = s.lanes := rfl
@[simp] theorem State.raise_lastPolled (x : NoticeFlag) : (s.raise x).lastPolled = s.lastPolled := rfl
@[simp] theorem State.raise_turn (x : NoticeFlag) : (s.raise x).turn = s.turn := rfl
@[simp] theorem State.raise_pier (x : NoticeFlag) : (s.raise x).pier = s.pier := rfl
@[simp] theorem State.raise_engine (x : NoticeFlag) : (s.raise x).engine = s.engine := rfl
@[simp] theorem State.raise_lastGranted (x : NoticeFlag) : (s.raise x).lastGranted = s.lastGranted := rfl
@[simp] theorem State.raise_berths (x : NoticeFlag) : (s.raise x).berths = s.berths := rfl
@[simp] theorem State.raise_recovery (x : NoticeFlag) : (s.raise x).recovery = s.recovery := rfl
@[simp] theorem State.raise_bankA (x : NoticeFlag) : (s.raise x).bankA = s.bankA := rfl
@[simp] theorem State.raise_bankB (x : NoticeFlag) : (s.raise x).bankB = s.bankB := rfl
@[simp] theorem State.raise_active (x : NoticeFlag) : (s.raise x).active = s.active := rfl
@[simp] theorem State.raise_pendingActivation (x : NoticeFlag) : (s.raise x).pendingActivation = s.pendingActivation := rfl
@[simp] theorem State.raise_request (x : NoticeFlag) : (s.raise x).request = s.request := rfl
@[simp] theorem State.raise_journal (x : NoticeFlag) : (s.raise x).journal = s.journal := rfl
@[simp] theorem State.raise_clock (x : NoticeFlag) : (s.raise x).clock = s.clock := rfl
@[simp] theorem State.raise_lines (x : NoticeFlag) : (s.raise x).lines = s.lines := rfl
@[simp] theorem State.raise_frameSource (x : NoticeFlag) : (s.raise x).frameSource = s.frameSource := rfl
@[simp] theorem State.raise_lineSource (x : NoticeFlag) : (s.raise x).lineSource = s.lineSource := rfl
@[simp] theorem State.raise_releaseActive (x : NoticeFlag) : (s.raise x).releaseActive = s.releaseActive := rfl
@[simp] theorem State.raise_silenceTimer (x : NoticeFlag) : (s.raise x).silenceTimer = s.silenceTimer := rfl
@[simp] theorem State.raise_depotLost (x : NoticeFlag) : (s.raise x).depotLost = s.depotLost := rfl
@[simp] theorem State.raise_flags (x : NoticeFlag) : (s.raise x).flags = s.flags ||| x.mark := rfl
@[simp] theorem State.raise_settings (x : NoticeFlag) : (s.raise x).settings = s.settings := rfl
@[simp] theorem State.raise_depotOut (x : NoticeFlag) : (s.raise x).depotOut = s.depotOut := rfl
@[simp] theorem State.raise_freeCount (x : NoticeFlag) : (s.raise x).freeCount = s.freeCount := rfl
@[simp] theorem State.raise_pending (x : NoticeFlag) : (s.raise x).pending = s.pending := rfl

/-! ### State.raiseIf -/

@[simp] theorem State.raiseIf_lanes (c : Bool) (x : NoticeFlag) : (s.raiseIf c x).lanes = s.lanes := by cases c <;> rfl
@[simp] theorem State.raiseIf_lastPolled (c : Bool) (x : NoticeFlag) : (s.raiseIf c x).lastPolled = s.lastPolled := by cases c <;> rfl
@[simp] theorem State.raiseIf_turn (c : Bool) (x : NoticeFlag) : (s.raiseIf c x).turn = s.turn := by cases c <;> rfl
@[simp] theorem State.raiseIf_pier (c : Bool) (x : NoticeFlag) : (s.raiseIf c x).pier = s.pier := by cases c <;> rfl
@[simp] theorem State.raiseIf_engine (c : Bool) (x : NoticeFlag) : (s.raiseIf c x).engine = s.engine := by cases c <;> rfl
@[simp] theorem State.raiseIf_lastGranted (c : Bool) (x : NoticeFlag) : (s.raiseIf c x).lastGranted = s.lastGranted := by cases c <;> rfl
@[simp] theorem State.raiseIf_berths (c : Bool) (x : NoticeFlag) : (s.raiseIf c x).berths = s.berths := by cases c <;> rfl
@[simp] theorem State.raiseIf_recovery (c : Bool) (x : NoticeFlag) : (s.raiseIf c x).recovery = s.recovery := by cases c <;> rfl
@[simp] theorem State.raiseIf_bankA (c : Bool) (x : NoticeFlag) : (s.raiseIf c x).bankA = s.bankA := by cases c <;> rfl
@[simp] theorem State.raiseIf_bankB (c : Bool) (x : NoticeFlag) : (s.raiseIf c x).bankB = s.bankB := by cases c <;> rfl
@[simp] theorem State.raiseIf_active (c : Bool) (x : NoticeFlag) : (s.raiseIf c x).active = s.active := by cases c <;> rfl
@[simp] theorem State.raiseIf_pendingActivation (c : Bool) (x : NoticeFlag) : (s.raiseIf c x).pendingActivation = s.pendingActivation := by cases c <;> rfl
@[simp] theorem State.raiseIf_request (c : Bool) (x : NoticeFlag) : (s.raiseIf c x).request = s.request := by cases c <;> rfl
@[simp] theorem State.raiseIf_journal (c : Bool) (x : NoticeFlag) : (s.raiseIf c x).journal = s.journal := by cases c <;> rfl
@[simp] theorem State.raiseIf_clock (c : Bool) (x : NoticeFlag) : (s.raiseIf c x).clock = s.clock := by cases c <;> rfl
@[simp] theorem State.raiseIf_lines (c : Bool) (x : NoticeFlag) : (s.raiseIf c x).lines = s.lines := by cases c <;> rfl
@[simp] theorem State.raiseIf_frameSource (c : Bool) (x : NoticeFlag) : (s.raiseIf c x).frameSource = s.frameSource := by cases c <;> rfl
@[simp] theorem State.raiseIf_lineSource (c : Bool) (x : NoticeFlag) : (s.raiseIf c x).lineSource = s.lineSource := by cases c <;> rfl
@[simp] theorem State.raiseIf_releaseActive (c : Bool) (x : NoticeFlag) : (s.raiseIf c x).releaseActive = s.releaseActive := by cases c <;> rfl
@[simp] theorem State.raiseIf_silenceTimer (c : Bool) (x : NoticeFlag) : (s.raiseIf c x).silenceTimer = s.silenceTimer := by cases c <;> rfl
@[simp] theorem State.raiseIf_depotLost (c : Bool) (x : NoticeFlag) : (s.raiseIf c x).depotLost = s.depotLost := by cases c <;> rfl
@[simp] theorem State.raiseIf_flags (c : Bool) (x : NoticeFlag) : (s.raiseIf c x).flags = if c then s.flags ||| x.mark else s.flags := by cases c <;> rfl
@[simp] theorem State.raiseIf_settings (c : Bool) (x : NoticeFlag) : (s.raiseIf c x).settings = s.settings := by cases c <;> rfl
@[simp] theorem State.raiseIf_depotOut (c : Bool) (x : NoticeFlag) : (s.raiseIf c x).depotOut = s.depotOut := by cases c <;> rfl
@[simp] theorem State.raiseIf_freeCount (c : Bool) (x : NoticeFlag) : (s.raiseIf c x).freeCount = s.freeCount := by cases c <;> rfl
@[simp] theorem State.raiseIf_pending (c : Bool) (x : NoticeFlag) : (s.raiseIf c x).pending = s.pending := by cases c <;> rfl

/-! ### State.transmit -/

@[simp] theorem State.transmit_lanes (x : DepotFrame) : (s.transmit x).lanes = s.lanes := rfl
@[simp] theorem State.transmit_lastPolled (x : DepotFrame) : (s.transmit x).lastPolled = s.lastPolled := rfl
@[simp] theorem State.transmit_turn (x : DepotFrame) : (s.transmit x).turn = s.turn := rfl
@[simp] theorem State.transmit_pier (x : DepotFrame) : (s.transmit x).pier = s.pier := rfl
@[simp] theorem State.transmit_engine (x : DepotFrame) : (s.transmit x).engine = s.engine := rfl
@[simp] theorem State.transmit_lastGranted (x : DepotFrame) : (s.transmit x).lastGranted = s.lastGranted := rfl
@[simp] theorem State.transmit_berths (x : DepotFrame) : (s.transmit x).berths = s.berths := rfl
@[simp] theorem State.transmit_recovery (x : DepotFrame) : (s.transmit x).recovery = s.recovery := rfl
@[simp] theorem State.transmit_bankA (x : DepotFrame) : (s.transmit x).bankA = s.bankA := rfl
@[simp] theorem State.transmit_bankB (x : DepotFrame) : (s.transmit x).bankB = s.bankB := rfl
@[simp] theorem State.transmit_active (x : DepotFrame) : (s.transmit x).active = s.active := rfl
@[simp] theorem State.transmit_pendingActivation (x : DepotFrame) : (s.transmit x).pendingActivation = s.pendingActivation := rfl
@[simp] theorem State.transmit_request (x : DepotFrame) : (s.transmit x).request = s.request := rfl
@[simp] theorem State.transmit_journal (x : DepotFrame) : (s.transmit x).journal = s.journal := rfl
@[simp] theorem State.transmit_clock (x : DepotFrame) : (s.transmit x).clock = s.clock := rfl
@[simp] theorem State.transmit_lines (x : DepotFrame) : (s.transmit x).lines = s.lines := rfl
@[simp] theorem State.transmit_frameSource (x : DepotFrame) : (s.transmit x).frameSource = s.frameSource := rfl
@[simp] theorem State.transmit_lineSource (x : DepotFrame) : (s.transmit x).lineSource = s.lineSource := rfl
@[simp] theorem State.transmit_releaseActive (x : DepotFrame) : (s.transmit x).releaseActive = s.releaseActive := rfl
@[simp] theorem State.transmit_silenceTimer (x : DepotFrame) : (s.transmit x).silenceTimer = s.silenceTimer := rfl
@[simp] theorem State.transmit_depotLost (x : DepotFrame) : (s.transmit x).depotLost = s.depotLost := rfl
@[simp] theorem State.transmit_flags (x : DepotFrame) : (s.transmit x).flags = s.flags := rfl
@[simp] theorem State.transmit_settings (x : DepotFrame) : (s.transmit x).settings = s.settings := rfl
@[simp] theorem State.transmit_depotOut (x : DepotFrame) : (s.transmit x).depotOut = s.depotOut ++ [x] := rfl
@[simp] theorem State.transmit_freeCount (x : DepotFrame) : (s.transmit x).freeCount = s.freeCount := rfl
@[simp] theorem State.transmit_pending (x : DepotFrame) : (s.transmit x).pending = s.pending := rfl

/-! ### State.send -/

@[simp] theorem State.send_lanes (x : List DepotFrame) : (s.send x).lanes = s.lanes := rfl
@[simp] theorem State.send_lastPolled (x : List DepotFrame) : (s.send x).lastPolled = s.lastPolled := rfl
@[simp] theorem State.send_turn (x : List DepotFrame) : (s.send x).turn = s.turn := rfl
@[simp] theorem State.send_pier (x : List DepotFrame) : (s.send x).pier = s.pier := rfl
@[simp] theorem State.send_engine (x : List DepotFrame) : (s.send x).engine = s.engine := rfl
@[simp] theorem State.send_lastGranted (x : List DepotFrame) : (s.send x).lastGranted = s.lastGranted := rfl
@[simp] theorem State.send_berths (x : List DepotFrame) : (s.send x).berths = s.berths := rfl
@[simp] theorem State.send_recovery (x : List DepotFrame) : (s.send x).recovery = s.recovery := rfl
@[simp] theorem State.send_bankA (x : List DepotFrame) : (s.send x).bankA = s.bankA := rfl
@[simp] theorem State.send_bankB (x : List DepotFrame) : (s.send x).bankB = s.bankB := rfl
@[simp] theorem State.send_active (x : List DepotFrame) : (s.send x).active = s.active := rfl
@[simp] theorem State.send_pendingActivation (x : List DepotFrame) : (s.send x).pendingActivation = s.pendingActivation := rfl
@[simp] theorem State.send_request (x : List DepotFrame) : (s.send x).request = s.request := rfl
@[simp] theorem State.send_journal (x : List DepotFrame) : (s.send x).journal = s.journal := rfl
@[simp] theorem State.send_clock (x : List DepotFrame) : (s.send x).clock = s.clock := rfl
@[simp] theorem State.send_lines (x : List DepotFrame) : (s.send x).lines = s.lines := rfl
@[simp] theorem State.send_frameSource (x : List DepotFrame) : (s.send x).frameSource = s.frameSource := rfl
@[simp] theorem State.send_lineSource (x : List DepotFrame) : (s.send x).lineSource = s.lineSource := rfl
@[simp] theorem State.send_releaseActive (x : List DepotFrame) : (s.send x).releaseActive = s.releaseActive := rfl
@[simp] theorem State.send_silenceTimer (x : List DepotFrame) : (s.send x).silenceTimer = s.silenceTimer := rfl
@[simp] theorem State.send_depotLost (x : List DepotFrame) : (s.send x).depotLost = s.depotLost := rfl
@[simp] theorem State.send_flags (x : List DepotFrame) : (s.send x).flags = s.flags := rfl
@[simp] theorem State.send_settings (x : List DepotFrame) : (s.send x).settings = s.settings := rfl
@[simp] theorem State.send_depotOut (x : List DepotFrame) : (s.send x).depotOut = s.depotOut ++ x := rfl
@[simp] theorem State.send_freeCount (x : List DepotFrame) : (s.send x).freeCount = s.freeCount := rfl
@[simp] theorem State.send_pending (x : List DepotFrame) : (s.send x).pending = s.pending := rfl

/-! ### State.onLane -/

@[simp] theorem State.onLane_lanes (l : LaneId) (f : Lane → Lane) : (s.onLane l f).lanes = s.lanes.set l (f (s.lane l)) := rfl
@[simp] theorem State.onLane_lastPolled (l : LaneId) (f : Lane → Lane) : (s.onLane l f).lastPolled = s.lastPolled := rfl
@[simp] theorem State.onLane_turn (l : LaneId) (f : Lane → Lane) : (s.onLane l f).turn = s.turn := rfl
@[simp] theorem State.onLane_pier (l : LaneId) (f : Lane → Lane) : (s.onLane l f).pier = s.pier := rfl
@[simp] theorem State.onLane_engine (l : LaneId) (f : Lane → Lane) : (s.onLane l f).engine = s.engine := rfl
@[simp] theorem State.onLane_lastGranted (l : LaneId) (f : Lane → Lane) : (s.onLane l f).lastGranted = s.lastGranted := rfl
@[simp] theorem State.onLane_berths (l : LaneId) (f : Lane → Lane) : (s.onLane l f).berths = s.berths := rfl
@[simp] theorem State.onLane_recovery (l : LaneId) (f : Lane → Lane) : (s.onLane l f).recovery = s.recovery := rfl
@[simp] theorem State.onLane_bankA (l : LaneId) (f : Lane → Lane) : (s.onLane l f).bankA = s.bankA := rfl
@[simp] theorem State.onLane_bankB (l : LaneId) (f : Lane → Lane) : (s.onLane l f).bankB = s.bankB := rfl
@[simp] theorem State.onLane_active (l : LaneId) (f : Lane → Lane) : (s.onLane l f).active = s.active := rfl
@[simp] theorem State.onLane_pendingActivation (l : LaneId) (f : Lane → Lane) : (s.onLane l f).pendingActivation = s.pendingActivation := rfl
@[simp] theorem State.onLane_request (l : LaneId) (f : Lane → Lane) : (s.onLane l f).request = s.request := rfl
@[simp] theorem State.onLane_journal (l : LaneId) (f : Lane → Lane) : (s.onLane l f).journal = s.journal := rfl
@[simp] theorem State.onLane_clock (l : LaneId) (f : Lane → Lane) : (s.onLane l f).clock = s.clock := rfl
@[simp] theorem State.onLane_lines (l : LaneId) (f : Lane → Lane) : (s.onLane l f).lines = s.lines := rfl
@[simp] theorem State.onLane_frameSource (l : LaneId) (f : Lane → Lane) : (s.onLane l f).frameSource = s.frameSource := rfl
@[simp] theorem State.onLane_lineSource (l : LaneId) (f : Lane → Lane) : (s.onLane l f).lineSource = s.lineSource := rfl
@[simp] theorem State.onLane_releaseActive (l : LaneId) (f : Lane → Lane) : (s.onLane l f).releaseActive = s.releaseActive := rfl
@[simp] theorem State.onLane_silenceTimer (l : LaneId) (f : Lane → Lane) : (s.onLane l f).silenceTimer = s.silenceTimer := rfl
@[simp] theorem State.onLane_depotLost (l : LaneId) (f : Lane → Lane) : (s.onLane l f).depotLost = s.depotLost := rfl
@[simp] theorem State.onLane_flags (l : LaneId) (f : Lane → Lane) : (s.onLane l f).flags = s.flags := rfl
@[simp] theorem State.onLane_settings (l : LaneId) (f : Lane → Lane) : (s.onLane l f).settings = s.settings := rfl
@[simp] theorem State.onLane_depotOut (l : LaneId) (f : Lane → Lane) : (s.onLane l f).depotOut = s.depotOut := rfl
@[simp] theorem State.onLane_freeCount (l : LaneId) (f : Lane → Lane) : (s.onLane l f).freeCount = s.freeCount := rfl
@[simp] theorem State.onLane_pending (l : LaneId) (f : Lane → Lane) : (s.onLane l f).pending = s.pending := rfl

/-! ### State.onBerth -/

@[simp] theorem State.onBerth_lanes (b : BerthId) (f : Berth → Berth) : (s.onBerth b f).lanes = s.lanes := rfl
@[simp] theorem State.onBerth_lastPolled (b : BerthId) (f : Berth → Berth) : (s.onBerth b f).lastPolled = s.lastPolled := rfl
@[simp] theorem State.onBerth_turn (b : BerthId) (f : Berth → Berth) : (s.onBerth b f).turn = s.turn := rfl
@[simp] theorem State.onBerth_pier (b : BerthId) (f : Berth → Berth) : (s.onBerth b f).pier = s.pier := rfl
@[simp] theorem State.onBerth_engine (b : BerthId) (f : Berth → Berth) : (s.onBerth b f).engine = s.engine := rfl
@[simp] theorem State.onBerth_lastGranted (b : BerthId) (f : Berth → Berth) : (s.onBerth b f).lastGranted = s.lastGranted := rfl
@[simp] theorem State.onBerth_berths (b : BerthId) (f : Berth → Berth) : (s.onBerth b f).berths = s.berths.set b (f (s.berth b)) := rfl
@[simp] theorem State.onBerth_recovery (b : BerthId) (f : Berth → Berth) : (s.onBerth b f).recovery = s.recovery := rfl
@[simp] theorem State.onBerth_bankA (b : BerthId) (f : Berth → Berth) : (s.onBerth b f).bankA = s.bankA := rfl
@[simp] theorem State.onBerth_bankB (b : BerthId) (f : Berth → Berth) : (s.onBerth b f).bankB = s.bankB := rfl
@[simp] theorem State.onBerth_active (b : BerthId) (f : Berth → Berth) : (s.onBerth b f).active = s.active := rfl
@[simp] theorem State.onBerth_pendingActivation (b : BerthId) (f : Berth → Berth) : (s.onBerth b f).pendingActivation = s.pendingActivation := rfl
@[simp] theorem State.onBerth_request (b : BerthId) (f : Berth → Berth) : (s.onBerth b f).request = s.request := rfl
@[simp] theorem State.onBerth_journal (b : BerthId) (f : Berth → Berth) : (s.onBerth b f).journal = s.journal := rfl
@[simp] theorem State.onBerth_clock (b : BerthId) (f : Berth → Berth) : (s.onBerth b f).clock = s.clock := rfl
@[simp] theorem State.onBerth_lines (b : BerthId) (f : Berth → Berth) : (s.onBerth b f).lines = s.lines := rfl
@[simp] theorem State.onBerth_frameSource (b : BerthId) (f : Berth → Berth) : (s.onBerth b f).frameSource = s.frameSource := rfl
@[simp] theorem State.onBerth_lineSource (b : BerthId) (f : Berth → Berth) : (s.onBerth b f).lineSource = s.lineSource := rfl
@[simp] theorem State.onBerth_releaseActive (b : BerthId) (f : Berth → Berth) : (s.onBerth b f).releaseActive = s.releaseActive := rfl
@[simp] theorem State.onBerth_silenceTimer (b : BerthId) (f : Berth → Berth) : (s.onBerth b f).silenceTimer = s.silenceTimer := rfl
@[simp] theorem State.onBerth_depotLost (b : BerthId) (f : Berth → Berth) : (s.onBerth b f).depotLost = s.depotLost := rfl
@[simp] theorem State.onBerth_flags (b : BerthId) (f : Berth → Berth) : (s.onBerth b f).flags = s.flags := rfl
@[simp] theorem State.onBerth_settings (b : BerthId) (f : Berth → Berth) : (s.onBerth b f).settings = s.settings := rfl
@[simp] theorem State.onBerth_depotOut (b : BerthId) (f : Berth → Berth) : (s.onBerth b f).depotOut = s.depotOut := rfl
@[simp] theorem State.onBerth_freeCount (b : BerthId) (f : Berth → Berth) : (s.onBerth b f).freeCount = s.freeCount := rfl
@[simp] theorem State.onBerth_pending (b : BerthId) (f : Berth → Berth) : (s.onBerth b f).pending = s.pending := rfl

/-! ### State.onLine -/

@[simp] theorem State.onLine_lanes (i : LineId) (f : PierLine → PierLine) : (s.onLine i f).lanes = s.lanes := rfl
@[simp] theorem State.onLine_lastPolled (i : LineId) (f : PierLine → PierLine) : (s.onLine i f).lastPolled = s.lastPolled := rfl
@[simp] theorem State.onLine_turn (i : LineId) (f : PierLine → PierLine) : (s.onLine i f).turn = s.turn := rfl
@[simp] theorem State.onLine_pier (i : LineId) (f : PierLine → PierLine) : (s.onLine i f).pier = s.pier := rfl
@[simp] theorem State.onLine_engine (i : LineId) (f : PierLine → PierLine) : (s.onLine i f).engine = s.engine := rfl
@[simp] theorem State.onLine_lastGranted (i : LineId) (f : PierLine → PierLine) : (s.onLine i f).lastGranted = s.lastGranted := rfl
@[simp] theorem State.onLine_berths (i : LineId) (f : PierLine → PierLine) : (s.onLine i f).berths = s.berths := rfl
@[simp] theorem State.onLine_recovery (i : LineId) (f : PierLine → PierLine) : (s.onLine i f).recovery = s.recovery := rfl
@[simp] theorem State.onLine_bankA (i : LineId) (f : PierLine → PierLine) : (s.onLine i f).bankA = s.bankA := rfl
@[simp] theorem State.onLine_bankB (i : LineId) (f : PierLine → PierLine) : (s.onLine i f).bankB = s.bankB := rfl
@[simp] theorem State.onLine_active (i : LineId) (f : PierLine → PierLine) : (s.onLine i f).active = s.active := rfl
@[simp] theorem State.onLine_pendingActivation (i : LineId) (f : PierLine → PierLine) : (s.onLine i f).pendingActivation = s.pendingActivation := rfl
@[simp] theorem State.onLine_request (i : LineId) (f : PierLine → PierLine) : (s.onLine i f).request = s.request := rfl
@[simp] theorem State.onLine_journal (i : LineId) (f : PierLine → PierLine) : (s.onLine i f).journal = s.journal := rfl
@[simp] theorem State.onLine_clock (i : LineId) (f : PierLine → PierLine) : (s.onLine i f).clock = s.clock := rfl
@[simp] theorem State.onLine_lines (i : LineId) (f : PierLine → PierLine) : (s.onLine i f).lines = s.lines.set i (f (s.line i)) := rfl
@[simp] theorem State.onLine_frameSource (i : LineId) (f : PierLine → PierLine) : (s.onLine i f).frameSource = s.frameSource := rfl
@[simp] theorem State.onLine_lineSource (i : LineId) (f : PierLine → PierLine) : (s.onLine i f).lineSource = s.lineSource := rfl
@[simp] theorem State.onLine_releaseActive (i : LineId) (f : PierLine → PierLine) : (s.onLine i f).releaseActive = s.releaseActive := rfl
@[simp] theorem State.onLine_silenceTimer (i : LineId) (f : PierLine → PierLine) : (s.onLine i f).silenceTimer = s.silenceTimer := rfl
@[simp] theorem State.onLine_depotLost (i : LineId) (f : PierLine → PierLine) : (s.onLine i f).depotLost = s.depotLost := rfl
@[simp] theorem State.onLine_flags (i : LineId) (f : PierLine → PierLine) : (s.onLine i f).flags = s.flags := rfl
@[simp] theorem State.onLine_settings (i : LineId) (f : PierLine → PierLine) : (s.onLine i f).settings = s.settings := rfl
@[simp] theorem State.onLine_depotOut (i : LineId) (f : PierLine → PierLine) : (s.onLine i f).depotOut = s.depotOut := rfl
@[simp] theorem State.onLine_freeCount (i : LineId) (f : PierLine → PierLine) : (s.onLine i f).freeCount = s.freeCount := rfl
@[simp] theorem State.onLine_pending (i : LineId) (f : PierLine → PierLine) : (s.onLine i f).pending = s.pending := rfl

/-! ### State.withBank -/

@[simp] theorem State.withBank_lanes (i : BankId) (k : Bank) : (s.withBank i k).lanes = s.lanes := by cases i <;> rfl
@[simp] theorem State.withBank_lastPolled (i : BankId) (k : Bank) : (s.withBank i k).lastPolled = s.lastPolled := by cases i <;> rfl
@[simp] theorem State.withBank_turn (i : BankId) (k : Bank) : (s.withBank i k).turn = s.turn := by cases i <;> rfl
@[simp] theorem State.withBank_pier (i : BankId) (k : Bank) : (s.withBank i k).pier = s.pier := by cases i <;> rfl
@[simp] theorem State.withBank_engine (i : BankId) (k : Bank) : (s.withBank i k).engine = s.engine := by cases i <;> rfl
@[simp] theorem State.withBank_lastGranted (i : BankId) (k : Bank) : (s.withBank i k).lastGranted = s.lastGranted := by cases i <;> rfl
@[simp] theorem State.withBank_berths (i : BankId) (k : Bank) : (s.withBank i k).berths = s.berths := by cases i <;> rfl
@[simp] theorem State.withBank_recovery (i : BankId) (k : Bank) : (s.withBank i k).recovery = s.recovery := by cases i <;> rfl
@[simp] theorem State.withBank_active (i : BankId) (k : Bank) : (s.withBank i k).active = s.active := by cases i <;> rfl
@[simp] theorem State.withBank_pendingActivation (i : BankId) (k : Bank) : (s.withBank i k).pendingActivation = s.pendingActivation := by cases i <;> rfl
@[simp] theorem State.withBank_request (i : BankId) (k : Bank) : (s.withBank i k).request = s.request := by cases i <;> rfl
@[simp] theorem State.withBank_journal (i : BankId) (k : Bank) : (s.withBank i k).journal = s.journal := by cases i <;> rfl
@[simp] theorem State.withBank_clock (i : BankId) (k : Bank) : (s.withBank i k).clock = s.clock := by cases i <;> rfl
@[simp] theorem State.withBank_lines (i : BankId) (k : Bank) : (s.withBank i k).lines = s.lines := by cases i <;> rfl
@[simp] theorem State.withBank_frameSource (i : BankId) (k : Bank) : (s.withBank i k).frameSource = s.frameSource := by cases i <;> rfl
@[simp] theorem State.withBank_lineSource (i : BankId) (k : Bank) : (s.withBank i k).lineSource = s.lineSource := by cases i <;> rfl
@[simp] theorem State.withBank_releaseActive (i : BankId) (k : Bank) : (s.withBank i k).releaseActive = s.releaseActive := by cases i <;> rfl
@[simp] theorem State.withBank_silenceTimer (i : BankId) (k : Bank) : (s.withBank i k).silenceTimer = s.silenceTimer := by cases i <;> rfl
@[simp] theorem State.withBank_depotLost (i : BankId) (k : Bank) : (s.withBank i k).depotLost = s.depotLost := by cases i <;> rfl
@[simp] theorem State.withBank_flags (i : BankId) (k : Bank) : (s.withBank i k).flags = s.flags := by cases i <;> rfl
@[simp] theorem State.withBank_settings (i : BankId) (k : Bank) : (s.withBank i k).settings = s.settings := by cases i <;> rfl
@[simp] theorem State.withBank_depotOut (i : BankId) (k : Bank) : (s.withBank i k).depotOut = s.depotOut := by cases i <;> rfl
@[simp] theorem State.withBank_freeCount (i : BankId) (k : Bank) : (s.withBank i k).freeCount = s.freeCount := by cases i <;> rfl
@[simp] theorem State.withBank_pending (i : BankId) (k : Bank) : (s.withBank i k).pending = s.pending := by cases i <;> rfl

/-! ### State.goOn -/

@[simp] theorem State.goOn_lanes (v : Validation) (g : Stage) : (s.goOn v g).lanes = s.lanes := rfl
@[simp] theorem State.goOn_lastPolled (v : Validation) (g : Stage) : (s.goOn v g).lastPolled = s.lastPolled := rfl
@[simp] theorem State.goOn_turn (v : Validation) (g : Stage) : (s.goOn v g).turn = s.turn := rfl
@[simp] theorem State.goOn_pier (v : Validation) (g : Stage) : (s.goOn v g).pier = s.pier := rfl
@[simp] theorem State.goOn_engine (v : Validation) (g : Stage) : (s.goOn v g).engine = some { v with stage := g } := rfl
@[simp] theorem State.goOn_lastGranted (v : Validation) (g : Stage) : (s.goOn v g).lastGranted = s.lastGranted := rfl
@[simp] theorem State.goOn_berths (v : Validation) (g : Stage) : (s.goOn v g).berths = s.berths := rfl
@[simp] theorem State.goOn_recovery (v : Validation) (g : Stage) : (s.goOn v g).recovery = s.recovery := rfl
@[simp] theorem State.goOn_bankA (v : Validation) (g : Stage) : (s.goOn v g).bankA = s.bankA := rfl
@[simp] theorem State.goOn_bankB (v : Validation) (g : Stage) : (s.goOn v g).bankB = s.bankB := rfl
@[simp] theorem State.goOn_active (v : Validation) (g : Stage) : (s.goOn v g).active = s.active := rfl
@[simp] theorem State.goOn_pendingActivation (v : Validation) (g : Stage) : (s.goOn v g).pendingActivation = s.pendingActivation := rfl
@[simp] theorem State.goOn_request (v : Validation) (g : Stage) : (s.goOn v g).request = s.request := rfl
@[simp] theorem State.goOn_journal (v : Validation) (g : Stage) : (s.goOn v g).journal = s.journal := rfl
@[simp] theorem State.goOn_clock (v : Validation) (g : Stage) : (s.goOn v g).clock = s.clock := rfl
@[simp] theorem State.goOn_lines (v : Validation) (g : Stage) : (s.goOn v g).lines = s.lines := rfl
@[simp] theorem State.goOn_frameSource (v : Validation) (g : Stage) : (s.goOn v g).frameSource = s.frameSource := rfl
@[simp] theorem State.goOn_lineSource (v : Validation) (g : Stage) : (s.goOn v g).lineSource = s.lineSource := rfl
@[simp] theorem State.goOn_releaseActive (v : Validation) (g : Stage) : (s.goOn v g).releaseActive = s.releaseActive := rfl
@[simp] theorem State.goOn_silenceTimer (v : Validation) (g : Stage) : (s.goOn v g).silenceTimer = s.silenceTimer := rfl
@[simp] theorem State.goOn_depotLost (v : Validation) (g : Stage) : (s.goOn v g).depotLost = s.depotLost := rfl
@[simp] theorem State.goOn_flags (v : Validation) (g : Stage) : (s.goOn v g).flags = s.flags := rfl
@[simp] theorem State.goOn_settings (v : Validation) (g : Stage) : (s.goOn v g).settings = s.settings := rfl
@[simp] theorem State.goOn_depotOut (v : Validation) (g : Stage) : (s.goOn v g).depotOut = s.depotOut := rfl
@[simp] theorem State.goOn_freeCount (v : Validation) (g : Stage) : (s.goOn v g).freeCount = s.freeCount := rfl
@[simp] theorem State.goOn_pending (v : Validation) (g : Stage) : (s.goOn v g).pending = s.pending := rfl

/-! ### State.removeEntry -/

@[simp] theorem State.removeEntry_lanes (c : CardNo) : (s.removeEntry c).lanes = s.lanes := rfl
@[simp] theorem State.removeEntry_lastPolled (c : CardNo) : (s.removeEntry c).lastPolled = s.lastPolled := rfl
@[simp] theorem State.removeEntry_turn (c : CardNo) : (s.removeEntry c).turn = s.turn := rfl
@[simp] theorem State.removeEntry_pier (c : CardNo) : (s.removeEntry c).pier = s.pier := rfl
@[simp] theorem State.removeEntry_engine (c : CardNo) : (s.removeEntry c).engine = s.engine := rfl
@[simp] theorem State.removeEntry_lastGranted (c : CardNo) : (s.removeEntry c).lastGranted = s.lastGranted := rfl
@[simp] theorem State.removeEntry_berths (c : CardNo) : (s.removeEntry c).berths = s.berths := rfl
@[simp] theorem State.removeEntry_recovery (c : CardNo) : (s.removeEntry c).recovery = s.recovery.eraseP (·.card == c) := rfl
@[simp] theorem State.removeEntry_bankA (c : CardNo) : (s.removeEntry c).bankA = s.bankA := rfl
@[simp] theorem State.removeEntry_bankB (c : CardNo) : (s.removeEntry c).bankB = s.bankB := rfl
@[simp] theorem State.removeEntry_active (c : CardNo) : (s.removeEntry c).active = s.active := rfl
@[simp] theorem State.removeEntry_pendingActivation (c : CardNo) : (s.removeEntry c).pendingActivation = s.pendingActivation := rfl
@[simp] theorem State.removeEntry_request (c : CardNo) : (s.removeEntry c).request = s.request := rfl
@[simp] theorem State.removeEntry_journal (c : CardNo) : (s.removeEntry c).journal = s.journal := rfl
@[simp] theorem State.removeEntry_clock (c : CardNo) : (s.removeEntry c).clock = s.clock := rfl
@[simp] theorem State.removeEntry_lines (c : CardNo) : (s.removeEntry c).lines = s.lines := rfl
@[simp] theorem State.removeEntry_frameSource (c : CardNo) : (s.removeEntry c).frameSource = s.frameSource := rfl
@[simp] theorem State.removeEntry_lineSource (c : CardNo) : (s.removeEntry c).lineSource = s.lineSource := rfl
@[simp] theorem State.removeEntry_releaseActive (c : CardNo) : (s.removeEntry c).releaseActive = s.releaseActive := rfl
@[simp] theorem State.removeEntry_silenceTimer (c : CardNo) : (s.removeEntry c).silenceTimer = s.silenceTimer := rfl
@[simp] theorem State.removeEntry_depotLost (c : CardNo) : (s.removeEntry c).depotLost = s.depotLost := rfl
@[simp] theorem State.removeEntry_flags (c : CardNo) : (s.removeEntry c).flags = s.flags := rfl
@[simp] theorem State.removeEntry_settings (c : CardNo) : (s.removeEntry c).settings = s.settings := rfl
@[simp] theorem State.removeEntry_depotOut (c : CardNo) : (s.removeEntry c).depotOut = s.depotOut := rfl
@[simp] theorem State.removeEntry_freeCount (c : CardNo) : (s.removeEntry c).freeCount = s.freeCount := rfl
@[simp] theorem State.removeEntry_pending (c : CardNo) : (s.removeEntry c).pending = s.pending := rfl

/-! ### State.store -/

@[simp] theorem State.store_lanes (d : Draft) : (s.store d).lanes = s.lanes := by simp [State.store]
@[simp] theorem State.store_lastPolled (d : Draft) : (s.store d).lastPolled = s.lastPolled := by simp [State.store]
@[simp] theorem State.store_turn (d : Draft) : (s.store d).turn = s.turn := by simp [State.store]
@[simp] theorem State.store_pier (d : Draft) : (s.store d).pier = s.pier := by simp [State.store]
@[simp] theorem State.store_engine (d : Draft) : (s.store d).engine = s.engine := by simp [State.store]
@[simp] theorem State.store_lastGranted (d : Draft) : (s.store d).lastGranted = s.lastGranted := by simp [State.store]
@[simp] theorem State.store_berths (d : Draft) : (s.store d).berths = s.berths := by simp [State.store]
@[simp] theorem State.store_recovery (d : Draft) : (s.store d).recovery = s.recovery := by simp [State.store]
@[simp] theorem State.store_bankA (d : Draft) : (s.store d).bankA = s.bankA := by simp [State.store]
@[simp] theorem State.store_bankB (d : Draft) : (s.store d).bankB = s.bankB := by simp [State.store]
@[simp] theorem State.store_active (d : Draft) : (s.store d).active = s.active := by simp [State.store]
@[simp] theorem State.store_pendingActivation (d : Draft) : (s.store d).pendingActivation = s.pendingActivation := by simp [State.store]
@[simp] theorem State.store_request (d : Draft) : (s.store d).request = s.request := by simp [State.store]
@[simp] theorem State.store_clock (d : Draft) : (s.store d).clock = s.clock := by simp [State.store]
@[simp] theorem State.store_lines (d : Draft) : (s.store d).lines = s.lines := by simp [State.store]
@[simp] theorem State.store_frameSource (d : Draft) : (s.store d).frameSource = s.frameSource := by simp [State.store]
@[simp] theorem State.store_lineSource (d : Draft) : (s.store d).lineSource = s.lineSource := by simp [State.store]
@[simp] theorem State.store_releaseActive (d : Draft) : (s.store d).releaseActive = s.releaseActive := by simp [State.store]
@[simp] theorem State.store_silenceTimer (d : Draft) : (s.store d).silenceTimer = s.silenceTimer := by simp [State.store]
@[simp] theorem State.store_depotLost (d : Draft) : (s.store d).depotLost = s.depotLost := by simp [State.store]
@[simp] theorem State.store_settings (d : Draft) : (s.store d).settings = s.settings := by simp [State.store]
@[simp] theorem State.store_depotOut (d : Draft) : (s.store d).depotOut = s.depotOut := by simp [State.store]
@[simp] theorem State.store_freeCount (d : Draft) : (s.store d).freeCount = s.freeCount := by simp [State.store]
@[simp] theorem State.store_pending (d : Draft) : (s.store d).pending = s.pending := by simp [State.store]

/-! ### State.countOverflow -/

@[simp] theorem State.countOverflow_lanes (k : RecordKind) : (s.countOverflow k).lanes = s.lanes := rfl
@[simp] theorem State.countOverflow_lastPolled (k : RecordKind) : (s.countOverflow k).lastPolled = s.lastPolled := rfl
@[simp] theorem State.countOverflow_turn (k : RecordKind) : (s.countOverflow k).turn = s.turn := rfl
@[simp] theorem State.countOverflow_pier (k : RecordKind) : (s.countOverflow k).pier = s.pier := rfl
@[simp] theorem State.countOverflow_engine (k : RecordKind) : (s.countOverflow k).engine = s.engine := rfl
@[simp] theorem State.countOverflow_lastGranted (k : RecordKind) : (s.countOverflow k).lastGranted = s.lastGranted := rfl
@[simp] theorem State.countOverflow_berths (k : RecordKind) : (s.countOverflow k).berths = s.berths := rfl
@[simp] theorem State.countOverflow_recovery (k : RecordKind) : (s.countOverflow k).recovery = s.recovery := rfl
@[simp] theorem State.countOverflow_bankA (k : RecordKind) : (s.countOverflow k).bankA = s.bankA := rfl
@[simp] theorem State.countOverflow_bankB (k : RecordKind) : (s.countOverflow k).bankB = s.bankB := rfl
@[simp] theorem State.countOverflow_active (k : RecordKind) : (s.countOverflow k).active = s.active := rfl
@[simp] theorem State.countOverflow_pendingActivation (k : RecordKind) : (s.countOverflow k).pendingActivation = s.pendingActivation := rfl
@[simp] theorem State.countOverflow_request (k : RecordKind) : (s.countOverflow k).request = s.request := rfl
@[simp] theorem State.countOverflow_clock (k : RecordKind) : (s.countOverflow k).clock = s.clock := rfl
@[simp] theorem State.countOverflow_lines (k : RecordKind) : (s.countOverflow k).lines = s.lines := rfl
@[simp] theorem State.countOverflow_frameSource (k : RecordKind) : (s.countOverflow k).frameSource = s.frameSource := rfl
@[simp] theorem State.countOverflow_lineSource (k : RecordKind) : (s.countOverflow k).lineSource = s.lineSource := rfl
@[simp] theorem State.countOverflow_releaseActive (k : RecordKind) : (s.countOverflow k).releaseActive = s.releaseActive := rfl
@[simp] theorem State.countOverflow_silenceTimer (k : RecordKind) : (s.countOverflow k).silenceTimer = s.silenceTimer := rfl
@[simp] theorem State.countOverflow_depotLost (k : RecordKind) : (s.countOverflow k).depotLost = s.depotLost := rfl
@[simp] theorem State.countOverflow_flags (k : RecordKind) : (s.countOverflow k).flags = s.flags := rfl
@[simp] theorem State.countOverflow_settings (k : RecordKind) : (s.countOverflow k).settings = s.settings := rfl
@[simp] theorem State.countOverflow_depotOut (k : RecordKind) : (s.countOverflow k).depotOut = s.depotOut := rfl
@[simp] theorem State.countOverflow_freeCount (k : RecordKind) : (s.countOverflow k).freeCount = s.freeCount := rfl
@[simp] theorem State.countOverflow_pending (k : RecordKind) : (s.countOverflow k).pending = s.pending := rfl

/-! ### State.goodFrame -/

@[simp] theorem State.goodFrame_lanes  : (s.goodFrame).lanes = s.lanes := rfl
@[simp] theorem State.goodFrame_lastPolled  : (s.goodFrame).lastPolled = s.lastPolled := rfl
@[simp] theorem State.goodFrame_turn  : (s.goodFrame).turn = s.turn := rfl
@[simp] theorem State.goodFrame_pier  : (s.goodFrame).pier = s.pier := rfl
@[simp] theorem State.goodFrame_engine  : (s.goodFrame).engine = s.engine := rfl
@[simp] theorem State.goodFrame_lastGranted  : (s.goodFrame).lastGranted = s.lastGranted := rfl
@[simp] theorem State.goodFrame_berths  : (s.goodFrame).berths = s.berths := rfl
@[simp] theorem State.goodFrame_recovery  : (s.goodFrame).recovery = s.recovery := rfl
@[simp] theorem State.goodFrame_bankA  : (s.goodFrame).bankA = s.bankA := rfl
@[simp] theorem State.goodFrame_bankB  : (s.goodFrame).bankB = s.bankB := rfl
@[simp] theorem State.goodFrame_active  : (s.goodFrame).active = s.active := rfl
@[simp] theorem State.goodFrame_pendingActivation  : (s.goodFrame).pendingActivation = s.pendingActivation := rfl
@[simp] theorem State.goodFrame_request  : (s.goodFrame).request = s.request := rfl
@[simp] theorem State.goodFrame_journal  : (s.goodFrame).journal = s.journal := rfl
@[simp] theorem State.goodFrame_clock  : (s.goodFrame).clock = s.clock := rfl
@[simp] theorem State.goodFrame_lines  : (s.goodFrame).lines = s.lines := rfl
@[simp] theorem State.goodFrame_frameSource  : (s.goodFrame).frameSource = s.frameSource := rfl
@[simp] theorem State.goodFrame_lineSource  : (s.goodFrame).lineSource = s.lineSource := rfl
@[simp] theorem State.goodFrame_releaseActive  : (s.goodFrame).releaseActive = s.releaseActive := rfl
@[simp] theorem State.goodFrame_silenceTimer  : (s.goodFrame).silenceTimer = s.silenceLoaded := rfl
@[simp] theorem State.goodFrame_depotLost  : (s.goodFrame).depotLost = false := rfl
@[simp] theorem State.goodFrame_flags  : (s.goodFrame).flags = s.flags := rfl
@[simp] theorem State.goodFrame_settings  : (s.goodFrame).settings = s.settings := rfl
@[simp] theorem State.goodFrame_depotOut  : (s.goodFrame).depotOut = s.depotOut := rfl
@[simp] theorem State.goodFrame_freeCount  : (s.goodFrame).freeCount = s.freeCount := rfl
@[simp] theorem State.goodFrame_pending  : (s.goodFrame).pending = s.pending := rfl

/-! ### State.reply -/

@[simp] theorem State.reply_lanes (k : RequestKind) (t : Byte) (b : ReplyBody) : (s.reply k t b).lanes = s.lanes := rfl
@[simp] theorem State.reply_lastPolled (k : RequestKind) (t : Byte) (b : ReplyBody) : (s.reply k t b).lastPolled = s.lastPolled := rfl
@[simp] theorem State.reply_turn (k : RequestKind) (t : Byte) (b : ReplyBody) : (s.reply k t b).turn = s.turn := rfl
@[simp] theorem State.reply_pier (k : RequestKind) (t : Byte) (b : ReplyBody) : (s.reply k t b).pier = s.pier := rfl
@[simp] theorem State.reply_engine (k : RequestKind) (t : Byte) (b : ReplyBody) : (s.reply k t b).engine = s.engine := rfl
@[simp] theorem State.reply_lastGranted (k : RequestKind) (t : Byte) (b : ReplyBody) : (s.reply k t b).lastGranted = s.lastGranted := rfl
@[simp] theorem State.reply_berths (k : RequestKind) (t : Byte) (b : ReplyBody) : (s.reply k t b).berths = s.berths := rfl
@[simp] theorem State.reply_recovery (k : RequestKind) (t : Byte) (b : ReplyBody) : (s.reply k t b).recovery = s.recovery := rfl
@[simp] theorem State.reply_bankA (k : RequestKind) (t : Byte) (b : ReplyBody) : (s.reply k t b).bankA = s.bankA := rfl
@[simp] theorem State.reply_bankB (k : RequestKind) (t : Byte) (b : ReplyBody) : (s.reply k t b).bankB = s.bankB := rfl
@[simp] theorem State.reply_active (k : RequestKind) (t : Byte) (b : ReplyBody) : (s.reply k t b).active = s.active := rfl
@[simp] theorem State.reply_pendingActivation (k : RequestKind) (t : Byte) (b : ReplyBody) : (s.reply k t b).pendingActivation = s.pendingActivation := rfl
@[simp] theorem State.reply_request (k : RequestKind) (t : Byte) (b : ReplyBody) : (s.reply k t b).request = s.request := rfl
@[simp] theorem State.reply_journal (k : RequestKind) (t : Byte) (b : ReplyBody) : (s.reply k t b).journal = s.journal := rfl
@[simp] theorem State.reply_clock (k : RequestKind) (t : Byte) (b : ReplyBody) : (s.reply k t b).clock = s.clock := rfl
@[simp] theorem State.reply_lines (k : RequestKind) (t : Byte) (b : ReplyBody) : (s.reply k t b).lines = s.lines := rfl
@[simp] theorem State.reply_frameSource (k : RequestKind) (t : Byte) (b : ReplyBody) : (s.reply k t b).frameSource = s.frameSource := rfl
@[simp] theorem State.reply_lineSource (k : RequestKind) (t : Byte) (b : ReplyBody) : (s.reply k t b).lineSource = s.lineSource := rfl
@[simp] theorem State.reply_releaseActive (k : RequestKind) (t : Byte) (b : ReplyBody) : (s.reply k t b).releaseActive = s.releaseActive := rfl
@[simp] theorem State.reply_silenceTimer (k : RequestKind) (t : Byte) (b : ReplyBody) : (s.reply k t b).silenceTimer = s.silenceTimer := rfl
@[simp] theorem State.reply_depotLost (k : RequestKind) (t : Byte) (b : ReplyBody) : (s.reply k t b).depotLost = s.depotLost := rfl
@[simp] theorem State.reply_flags (k : RequestKind) (t : Byte) (b : ReplyBody) : (s.reply k t b).flags = s.flags := rfl
@[simp] theorem State.reply_settings (k : RequestKind) (t : Byte) (b : ReplyBody) : (s.reply k t b).settings = s.settings := rfl
@[simp] theorem State.reply_depotOut (k : RequestKind) (t : Byte) (b : ReplyBody) : (s.reply k t b).depotOut = s.depotOut ++ [.reply k t b] := rfl
@[simp] theorem State.reply_freeCount (k : RequestKind) (t : Byte) (b : ReplyBody) : (s.reply k t b).freeCount = s.freeCount := rfl
@[simp] theorem State.reply_pending (k : RequestKind) (t : Byte) (b : ReplyBody) : (s.reply k t b).pending = s.pending := rfl

end Sys2Proof.Machine
end

