-- ==== Sys2Proof/Laws/Units.lean ====
section
/-! SUPPORT. Reading one lane, berth, line or bank after one of them has changed, and the shape of the shared
operations: which fields each can change at all. A shape `s.op = { s with f := (s.op).f }` says that every field
not named stays as it was. -/

namespace Sys2Proof.Machine

/-! ### One unit -/

theorem State.lane_congr {s t : State} (h : s.lanes = t.lanes) (l : LaneId) : s.lane l = t.lane l := by
  simp [State.lane, h]
theorem State.berth_congr {s t : State} (h : s.berths = t.berths) (b : BerthId) : s.berth b = t.berth b := by
  simp [State.berth, h]
theorem State.line_congr {s t : State} (h : s.lines = t.lines) (i : LineId) : s.line i = t.line i := by
  simp [State.line, h]

theorem State.lane_onLane (s : State) (l m : LaneId) (f : Lane → Lane) :
    (s.onLane l f).lane m = if m = l then f (s.lane l) else s.lane m := by
  by_cases h : m = l
  · subst h; simp [State.lane, State.onLane]
  · have h' : (l : Nat) ≠ (m : Nat) := fun e => h (Fin.ext e.symm)
    simp [State.lane, State.onLane, h, h']

@[simp] theorem State.lane_onLane_self (s : State) (l : LaneId) (f : Lane → Lane) :
    (s.onLane l f).lane l = f (s.lane l) := by simp [State.lane_onLane]

theorem State.lane_onLane_of_ne (s : State) {l m : LaneId} (h : m ≠ l) (f : Lane → Lane) :
    (s.onLane l f).lane m = s.lane m := by simp [State.lane_onLane, h]

theorem State.berth_onBerth (s : State) (b c : BerthId) (f : Berth → Berth) :
    (s.onBerth b f).berth c = if c = b then f (s.berth b) else s.berth c := by
  by_cases h : c = b
  · subst h; simp [State.berth, State.onBerth]
  · have h' : (b : Nat) ≠ (c : Nat) := fun e => h (Fin.ext e.symm)
    simp [State.berth, State.onBerth, h, h']

@[simp] theorem State.berth_onBerth_self (s : State) (b : BerthId) (f : Berth → Berth) :
    (s.onBerth b f).berth b = f (s.berth b) := by simp [State.berth_onBerth]

theorem State.line_onLine (s : State) (i j : LineId) (f : PierLine → PierLine) :
    (s.onLine i f).line j = if j = i then f (s.line i) else s.line j := by
  by_cases h : j = i
  · subst h; simp [State.line, State.onLine]
  · have h' : (i : Nat) ≠ (j : Nat) := fun e => h (Fin.ext e.symm)
    simp [State.line, State.onLine, h, h']

theorem State.bank_withBank (s : State) (i j : BankId) (k : Bank) :
    (s.withBank i k).bank j = if j = i then k else s.bank j := by
  cases i <;> cases j <;> rfl

/-- The lanes and berths after the start and the end of release, and after a change of a line (R157, R161, R163). -/
@[simp] theorem State.lane_releaseBegun (s : State) (l : LaneId) :
    s.releaseBegun.lane l = (s.lane l).releaseStarted (s.carriedBy l) := by simp [State.releaseBegun, State.lane]
@[simp] theorem State.lane_releaseOver (s : State) (l : LaneId) :
    s.releaseOver.lane l = (s.lane l).releaseEnded (s.carriedBy l) := by simp [State.releaseOver, State.lane]
@[simp] theorem State.berth_releaseOver (s : State) (b : BerthId) : s.releaseOver.berth b = s.berth b := rfl
@[simp] theorem State.lane_withLine (s : State) (i : LineId) (x : PierLine) (l : LaneId) :
    (s.withLine i x).lane l = s.lane l := rfl

/-- Two changes of one lane are one. -/
theorem State.onLane_onLane (s : State) (l : LaneId) (f g : Lane → Lane) :
    (s.onLane l f).onLane l g = s.onLane l (g ∘ f) := by
  simp [State.onLane, State.lane, Vector.set_set]

/-- Every lane number stands in the list of lanes, once. -/
theorem mem_allLanes (l : LaneId) : l ∈ allLanes := by revert l; decide
theorem allLanes_nodup : allLanes.Nodup := by decide
theorem mem_allBerths (b : BerthId) : b ∈ allBerths := by revert b; decide

/-! ### Shapes of the shared operations -/

theorem State.raiseIf_shape (s : State) (c : Bool) (x : NoticeFlag) :
    s.raiseIf c x = { s with flags := (s.raiseIf c x).flags } := by cases c <;> rfl

theorem State.store_shape (s : State) (d : Draft) :
    s.store d = { s with journal := (s.store d).journal, flags := (s.store d).flags } := by
  simp only [State.store, State.raiseIf]
  split_ifs <;> rfl

theorem State.compareMarks_shape (s : State) (n : Nat) :
    s.compareMarks n = { s with flags := (s.compareMarks n).flags } := by
  simp only [State.compareMarks, State.raiseIf]
  split_ifs <;> rfl

theorem State.record_shape (s : State) (r : Bool) (d : Draft) :
    s.record r d = { s with journal := (s.record r d).journal, flags := (s.record r d).flags } := by
  simp only [State.record, State.store, State.compareMarks, State.raiseIf, State.countOverflow]
  split_ifs <;> rfl

theorem State.reserve_shape (s : State) :
    s.reserve = { s with journal := { s.journal with reservations := s.journal.reservations + 1 }, flags := s.reserve.flags } := by
  simp only [State.reserve]; rw [State.compareMarks_shape]

theorem State.atBerth_shape (s : State) (b : BerthId) (f : Berth → Berth) :
    s.atBerth b f = { s with berths := s.berths.set b (f (s.berth b)).follow, flags := (s.atBerth b f).flags } := by
  simp only [State.atBerth]; rw [State.raiseIf_shape]; rfl

theorem State.onLink_shape (s : State) (l : LaneId) (f : Link → Link) :
    s.onLink l f = { s with lanes := s.lanes.set l { s.lane l with link := f (s.lane l).link } } := rfl

theorem State.askGate_shape (s : State) (l : LaneId) :
    s.askGate l = { s with lanes := (s.askGate l).lanes } := by simp only [State.askGate]; split <;> rfl

theorem State.askShow_shape (s : State) (l : LaneId) (c : DisplayCode) :
    s.askShow l c = { s with lanes := (s.askShow l c).lanes } := by simp only [State.askShow]; split <;> rfl

theorem State.askCardWrite_shape (s : State) (l : LaneId) (c : CardNo) (i : NewImage) :
    s.askCardWrite l c i = { s with lanes := (s.askCardWrite l c i).lanes } := by
  simp only [State.askCardWrite]; split <;> rfl

theorem State.renewGate_shape (s : State) (l : LaneId) :
    s.renewGate l = { s with lanes := (s.renewGate l).lanes } := by
  simp only [State.renewGate]; rw [State.askGate_shape]; simp [State.setOrder]

theorem State.reworkGate_shape (s : State) (l : LaneId) :
    s.reworkGate l = { s with lanes := (s.reworkGate l).lanes } := by
  simp only [State.reworkGate]; split
  · rfl
  · rw [State.askGate_shape]; simp [State.setOrder]

theorem State.closeEntry_shape (s : State) (r : Bool) (e : RecoveryEntry) :
    s.closeEntry r e = { s with
      berths := (s.closeEntry r e).berths
      recovery := s.recovery.eraseP (·.card == e.card)
      journal := (s.closeEntry r e).journal
      flags := (s.closeEntry r e).flags } := by
  simp only [State.closeEntry, State.removeEntry, State.raise, State.release]
  rw [State.record_shape, State.atBerth_shape]

theorem State.withShadow_shape (s : State) (k : Bank) :
    s.withShadow k = { s with bankA := (s.withShadow k).bankA, bankB := (s.withShadow k).bankB } := by
  simp only [State.withShadow, State.withBank]; split <;> rfl

theorem State.cancelActivation_shape (s : State) :
    s.cancelActivation = { s with pendingActivation := none, flags := s.cancelActivation.flags } := by
  unfold State.cancelActivation; split
  · rfl
  · next h => rw [← h]

theorem State.swap_shape (s : State) :
    s.swap = { s with
      active := some s.shadow, pendingActivation := none, journal := s.swap.journal, flags := s.swap.flags } := by
  simp only [State.swap]; rw [State.record_shape]; rfl

/-- The work of a request changes the shadow alone (R128). -/
theorem State.workTable_shape (s : State) (r : TableRequest) :
    s.workTable r = { s with bankA := (s.workTable r).bankA, bankB := (s.workTable r).bankB } := by
  cases r <;> simp only [State.workTable] <;> first | exact s.withShadow_shape _ | rfl | skip
  split
  · exact s.withShadow_shape _
  · rfl

/-- The taking of a request other than TABLE ACTIVATE cancels a pending activation, and leaves the shadow to its work
(R128, R136). -/
theorem State.takeTable_edit (s : State) {r : TableRequest} (h : ∀ v e t d c, r ≠ .activate v e t d c) :
    (s.takeTable r).1 = s.cancelActivation := by
  cases r <;> first | rfl | exact absurd rfl (h _ _ _ _ _)

/-- The clock's time leaves the Table Store alone, or makes the swap of an activation that is due (R67, R138). -/
theorem State.handTime_cases (s : State) :
    s.handTime = s ∨ (s.handTime = s.swap ∧
      ∃ i, s.pendingActivation = some i ∧ i.reachedAt s.clock.day s.clock.secs = true) := by
  unfold State.handTime
  split
  · next i h =>
    split
    · next c => exact .inr ⟨rfl, i, h, c⟩
    · exact .inl rfl
  · exact .inl rfl

/-- Everything that the taking of a waiting request can do: nothing waits, or the lock is locked, and nothing changes; a
request with work goes on; one without is answered (R128, R140). -/
theorem State.takeWaiting_cases (s : State) :
    s.takeWaiting = (s, []) ∨ ∃ j, s.request = some j ∧ j.phase = .waiting ∧ s.readLocked = false ∧
      let r := s.takeTable j.request
      (j.request.hasWork = true ∧ s.takeWaiting = ({ r.1 with request := some { j with phase := .working r.2 } }, [])) ∨
      (j.request.hasWork = false ∧
        s.takeWaiting = ({ r.1 with request := none }, [.reply j.request.kind j.tag r.2])) := by
  unfold State.takeWaiting
  split
  · next tag request h =>
    split
    · exact .inl rfl
    · next c =>
      refine .inr ⟨_, h, rfl, by simpa using c, ?_⟩
      by_cases w : request.hasWork
      · exact .inl ⟨w, by simp [w]⟩
      · exact .inr ⟨by simpa using w, by simp [w]⟩
  · exact .inl rfl

theorem State.takeMode_shape (s : State) (l : LaneId) (m : Mode) :
    s.takeMode l m = { s with lanes := (s.takeMode l m).lanes, turn := (s.takeMode l m).turn } := rfl

/-! ### Shapes of the end of an event -/

theorem State.notify_eq_noticed (s : State) (before : Half) : s.notify before = s.noticed before := by
  simp only [State.notify, State.noticeDue, State.noticed, noticeFor, State.transmit, bne_iff_ne, ne_eq]
  by_cases h : s.flags &&& ~~~before &&& s.settings.mask = 0#16
  · simp [h]
  · simp [h]

/-- Where no flag has changed there is no NOTICE. -/
@[simp] theorem noticeFor_same (s : State) : noticeFor s.flags s = [] := by
  simp [noticeFor]

theorem noticeFor_of_flags {u : State} {before : Half} (h : u.flags = before) : noticeFor before u = [] := by
  simp [noticeFor, h]

theorem State.noticed_of_flags {u : State} {before : Half} (h : u.flags = before) : u.noticed before = u := by
  simp [State.noticed, noticeFor_of_flags h]

theorem State.takeWaiting_of_atRest {s : State} (h : s.request.any TableJob.waits = true → s.readLocked = true) :
    s.takeWaiting = (s, []) := by
  unfold State.takeWaiting
  split
  · next tag request heq => rw [if_pos (h (by simp [heq, TableJob.waits]))]
  · rfl

theorem State.arbitrate_of_atRest {s : State} (h : s.engine = none → ∀ l, (s.lane l).txn.isWaiting = false) :
    s.arbitrate = s := by
  unfold State.arbitrate
  split
  · next l he hn =>
    have := List.find?_some hn
    simp [h he l] at this
  · rfl

@[simp] theorem State.send_nil (s : State) : s.send [] = s := by simp [State.send]

/-- Where nothing waits that could be served, the end of an event adds its NOTICE alone (R42, R140, R168). -/
theorem State.endEvent_of_atRest {s : State} (h : s.atRest) (before : Half) : s.endEvent before = s.noticed before := by
  unfold State.endEvent
  rw [State.takeWaiting_of_atRest h.2]
  simp [State.arbitrate_of_atRest h.1, State.notify_eq_noticed]

end Sys2Proof.Machine
end

