-- ==== Sys2Proof/Laws/Ends.lean ====
section
/-! SUPPORT. How a command ends: a request answered or waiting, a stage run or passed over, in the words of the
statements. -/

namespace Sys2Proof.Machine

/-! ### Requests -/

/-- A request that meets another in progress is answered BUSY (R166). -/
theorem State.answer_of_busy {s : State} (kind : RequestKind) (tag : Byte) (owner : State → State × ReplyBody)
    (h : s.request ≠ none) : s.answer kind tag owner = s.answered s [.reply kind tag (.plain .busy)] := by
  obtain ⟨j, hj⟩ := Option.ne_none_iff_exists'.1 h
  simp [State.answer, State.goodFrame, hj, State.reply, State.transmit, State.answered, State.silenceLoaded]

/-- A request that meets none is handed to its owner, and the reply follows the NOTICE of its event (R166, R167,
R168). -/
theorem State.answer_of_free {s : State} (kind : RequestKind) (tag : Byte) (owner : State → State × ReplyBody)
    (h : s.request = none) : s.answer kind tag owner =
      let r := owner s.goodFrame
      { r.1 with depotOut := r.1.depotOut ++ noticeFor s.flags r.1 ++ [.reply kind tag r.2] } := by
  simp [State.answer, State.goodFrame, h, State.notify_eq_noticed, State.noticed, State.reply, State.transmit]

/-- A read is answered from the state as it stands and changes nothing else. -/
theorem State.answer_readOnly {s : State} (kind : RequestKind) (tag : Byte) (body : State → ReplyBody)
    (h : s.request = none) :
    s.answer kind tag (readOnly body) = s.answered s [.reply kind tag (body s.goodFrame)] := by
  rw [State.answer_of_free kind tag _ h]
  simp [readOnly, State.goodFrame, State.answered, State.silenceLoaded, noticeFor]

/-- A table request that meets another request is answered BUSY (R166). -/
theorem State.arrive_of_busy {s : State} (tag : Byte) (r : TableRequest) (h : s.request ≠ none) :
    s.arrive tag r = s.answered s [.reply r.kind tag (.plain .busy)] := by
  obtain ⟨j, hj⟩ := Option.ne_none_iff_exists'.1 h
  simp [State.arrive, State.goodFrame, hj, State.reply, State.transmit, State.answered, State.silenceLoaded]

/-! ### Stages -/

/-- The stage that is next is run, and its event ends (R45, R140, R42, R168). -/
theorem State.atStage_of_next {s : State} {v : Validation} {stage : Stage} (run : State → Validation → State)
    (he : s.engine = some v) (hs : v.stage = stage) :
    s.atStage stage run = (run s v).endEvent s.flags := by
  simp [State.atStage, he, hs]

/-- Any other stage changes nothing (log 2). -/
theorem State.atStage_of_other {s : State} {stage : Stage} (run : State → Validation → State)
    (h : ∀ v, s.engine = some v → v.stage ≠ stage) : s.atStage stage run = s := by
  unfold State.atStage
  split
  · next v he => rw [if_neg (h v he)]
  · rfl

end Sys2Proof.Machine
end

