-- ==== Sys2Proof/Tests/Slice0.lean ====
section
/-! SUPPORT. Tests of one step each, with results worked out from the spec, and for each statement of
Certificates/Slice0/Obligations.lean with hypotheses a witness: concrete states and operands that meet the hypotheses of
each of its clauses. -/

namespace Sys2Proof.Tests

open Sys2Proof.Machine

-- One test after the other: tests elaborated side by side take a thread each.
set_option Elab.async false

/-! ### Small states -/

/-- Fare tables with three cards, one product, and fares of 200. -/
def tables : Bank := { Bank.empty with
  cards := [⟨5, .block⟩, ⟨6, .watch⟩, ⟨7, .cls 3⟩]
  products := Bank.empty.products.set 1 ⟨true, .storedValue, 1, 60, 150, 0xFF⟩
  fares := .replicate 32 200
  bands := [⟨420, 1⟩, ⟨600, 0⟩]
  version := 9 }

/-- An ONLINE lane in a mode. -/
def head (m : Mode) : Lane :=
  { Lane.powerOn with mode := m, status := .online, gateOrder := if m = .exit then .openFree else .shut }

/-- A berth BOARDING for 100. -/
def boat : Berth := { Berth.powerOn with state := .boarding, vessel := some ⟨31, 100, 0, 0, 2⟩, effective := 100 }

/-- A pier in service: lanes 1 to 3 ENTRY of berth 1, lane 4 EXIT, lane 5 CLOSED; day 100, minute 600. -/
def quay : State := { State.reset with
  settings := { Settings.defaults with pierNumber := 7 }
  clock := ⟨true, 100, 36000, true⟩
  bankA := tables
  active := some .a
  lanes := ((((State.reset.lanes.set 0 (head (.entry 0))).set 1 (head (.entry 0))).set 2 (head (.entry 0))).set 3
    (head .exit)).set 4 (head .closed)
  berths := State.reset.berths.set 0 boat }

/-- A stored-value card with 500 cents. -/
def card : CardImage := ⟨1234, 1, 0, 500, 0, 90, 0, 0, 0, false, 0, 4⟩

/-- A charge of 200 for it, under way. -/
def write : CardWrite := ⟨0, 1, 200, ⟨300, 0, 100, 200, 600, 7, false, 5⟩, true, false, 2, false, 1, 0, false, 9⟩

/-- A recovery entry for a card. -/
def torn (c : CardNo) : RecoveryEntry := write.entry 0 c 20

/-- Lane 1 with 2 credits, lane 2 WRITING, lane 3 WRITING orphaned, and recovery entries for some cards: everything is
held, granted and reserved as the laws of admission demand. -/
def busy (cards : List CardNo) : State := { quay with
  lanes := ((quay.lanes.set 0 { head (.entry 0) with
      leaf := .opened 2, gateOrder := .opened 2, holdTimer := some 8 }).set 1
      { head (.entry 0) with txn := .writing card write }).set 2
      { head (.entry 0) with txn := .writing card { write with orphaned := true } }
  berths := quay.berths.set 0 { boat with counts := { Counts.zero with held := 1 + cards.length, granted := 2 } }
  recovery := cards.map torn
  journal := { Journal.powerOn with reservations := 2 + cards.length } }

/-- The turn in progress with a lane, carrying EMPTY. -/
def turnWith (l : LaneId) (s : State) : State := { s with turn := some ⟨l, .empty, ⟨l, none, 0, .empty⟩, false, false⟩ }

/-- The validation of the card at lane 1, at a stage. -/
def tap (stage : Stage) : Validation :=
  ⟨0, 0, card, 100, 36000, true, some .a, stage, none, false, none, none, none⟩

/-- `quay` with that validation in flight. -/
def trying (v : Validation) (s : State) : State :=
  { s.withLane 0 { s.lane 0 with txn := .validating v.image } with engine := some v }

/-- The product of the tables. -/
def single : Product := ⟨true, .storedValue, 1, 60, 150, 0xFF⟩

/-- `quay` in release, by the frame source. -/
def freed : State := { quay with
  lanes := quay.lanes.map fun x => { x with
    savedMode := x.mode, gateOrder := if x.mode = .absent then .shut else .openFree }
  frameSource := true, releaseActive := true }

/-! ### Commands and frames -/

theorem test_wellFormed_refuses_empty_answer : (Instr.answer []).wellFormed = false := by decide
theorem test_wellFormed_refuses_request_kind : (Instr.depotUnknownFrame 0x80 0).wellFormed = false := by decide
theorem test_wellFormed_refuses_last_request_kind : (Instr.depotUnknownFrame 0x9F 0).wellFormed = false := by decide
theorem test_wellFormed_takes_unknown_kind : (Instr.depotUnknownFrame 0xA0 0).wellFormed = true := by decide
theorem test_wellFormed_refuses_no_entries : (Instr.tableWrite 0 0 (.fares [])).wellFormed = false := by decide
theorem test_wellFormed_refuses_33_entries :
    (Instr.tableWrite 0 0 (.timeBands (.replicate 33 ⟨0, 0⟩))).wellFormed = false := by decide
theorem test_wellFormed_takes_32_entries :
    (Instr.tableWrite 0 0 (.timeBands (.replicate 32 ⟨0, 0⟩))).wellFormed = true := by decide

/-- The table gives its rows no bits (log 23). -/
theorem test_no_word_spells_a_command : ∀ n w : Nat, decodeTableWord n w = none := fun _ _ => rfl

/-- The check value of the frame check over the digits 1 to 9 (spec/11). -/
theorem test_frameCheck : frameCheck [0x31, 0x32, 0x33, 0x34, 0x35, 0x36, 0x37, 0x38, 0x39] = 0x29B1#16 := by
  decide +kernel

/-- A PASSAGE of 2 in and 1 out with report number 42 from lane 3, byte by byte (spec/11). -/
theorem test_passage_frame :
    answerBytes 2 42 (.passage 2 1) =
      [0xA5, 0x00, 0x05, 0x43, 42, 3, 2, 1] ++
        bytesBE 2 (frameCheck [0x00, 0x05, 0x43, 42, 3, 2, 1]).toNat ∧
    answerReport 2 (answerBytes 2 42 (.passage 2 1)) = some (42, .passage 2 1) := by decide +kernel

/-- A wrong last byte makes an answer bad (R2). -/
theorem test_bad_check : answerReport 2 ([0xA5, 0x00, 0x05, 0x43, 42, 3, 2, 1] ++ [0, 0]) = none := by decide +kernel

/-- A GATE of 3 credits to lane 1 that acknowledges report 41, byte by byte (spec/11). -/
theorem test_gate_frame : DownFrame.bytes ⟨0, some 41, 9, .gate (.opened 3)⟩ =
    [0xA5, 0x00, 0x07, 0x22, 9, 1, 1, 41, 1, 3] ++
      bytesBE 2 (frameCheck [0x00, 0x07, 0x22, 9, 1, 1, 41, 1, 3]).toNat := by decide +kernel

/-- CLOCK SET to day 258, second 86399, with tag 7: kind 0x94 (spec/11). -/
theorem test_clock_set_frame :
    depotCommand ([0xA5, 0x00, 0x08, 0x94, 7, 1, 2, 0, 1, 0x51, 0x7F] ++
      bytesBE 2 (frameCheck [0x00, 0x08, 0x94, 7, 1, 2, 0, 1, 0x51, 0x7F]).toNat) = .clockSet 7 258 86399 := by
  decide +kernel

/-- A body of another length than its kind requires is a bad frame (R166). -/
theorem test_short_body :
    depotCommand ([0xA5, 0x00, 0x02, 0x88, 7] ++ bytesBE 2 (frameCheck [0x00, 0x02, 0x88, 7]).toNat) = .depotBadFrame := by
  decide +kernel

/-- The same of a kind that only the device sends: a NOTICE with 1 byte of flags is bad, one with 2 is of an unknown
kind (R166, R177). -/
theorem test_short_notice : depotCommand (Envelope.bytes ⟨0xE0, 0, [1]⟩) = .depotBadFrame ∧
    depotCommand (Envelope.bytes ⟨0xE0, 0, [1, 2]⟩) = .depotUnknownFrame 0xE0 0 ∧
    depotCommand (Envelope.bytes ⟨0xC0, 7, []⟩) = .depotBadFrame := by decide +kernel

/-- A NOTICE of CLOCK ROLLOVER, number 15 (spec/10, spec/11). -/
theorem test_notice_frame : DepotFrame.bytes (.notice 0x4000) =
    [0xA5, 0x00, 0x04, 0xE0, 0, 0x40, 0x00] ++ bytesBE 2 (frameCheck [0x00, 0x04, 0xE0, 0, 0x40, 0x00]).toNat := by
  decide +kernel

/-! ### The worked fare cases of spec/04 -/

/-- A card of day 9000 with the balance, trips, day spend, last minute and transfer used given. -/
def rider (balance : Int) (trips spend minute : Nat) (used : Bool) (sequence : Half) : CardImage :=
  ⟨1, 1, 0, balance, trips, 9000, spend, minute, 3, used, 9001, sequence⟩

/-- The charge, balance, day spend and transfer used of a fare computation. -/
def outcome (x : FareInput) (c : CardImage) : Option (Nat × Int × Nat × Bool) :=
  (computeFare x c).map fun r => (r.1, r.2.balance, r.2.daySpend, r.2.transferUsed)

theorem test_fare_case_1 : outcome ⟨240, ⟨true, .storedValue, 2, 60, 150, 0⟩, 35, 700, 0, 7, 9000, 490⟩
    (rider 1250 0 620 452 false 1) = some (80, 1170, 700, true) := by decide +kernel
theorem test_fare_case_2 : FareInput.net ⟨250, ⟨true, .storedValue, 1, 0, 0, 0⟩, 35, 0, 0, 7, 9000, 0⟩ = 162 := by
  decide +kernel
theorem test_fare_case_3 :
    outcome ⟨120, ⟨true, .storedValue, 1, 0, 0, 0⟩, 0, 0, 50, 7, 9000, 0⟩ (rider 40 0 0 0 false 1) = none ∧
    outcome ⟨80, ⟨true, .storedValue, 1, 0, 0, 0⟩, 0, 0, 50, 7, 9000, 0⟩ (rider 40 0 0 0 false 1) =
      some (80, -40, 80, false) := by decide +kernel
theorem test_fare_case_4 : outcome ⟨300, ⟨true, .storedValue, 1, 0, 0, 0⟩, 0, 700, 0, 7, 9000, 0⟩
    (rider (-5) 0 760 0 false 1) = some (0, -5, 760, false) := by decide +kernel
theorem test_fare_case_5 : [300, 419, 420, 600, 960, 1139, 1140, 1439].map
    (timeBandAt [⟨420, 1⟩, ⟨600, 0⟩, ⟨960, 1⟩, ⟨1140, 2⟩]) =
    [some 2, some 2, some 1, some 0, some 1, some 1, some 2, some 2] := by decide +kernel
theorem test_fare_case_6 : outcome ⟨200, ⟨true, .storedValue, 1, 60, 150, 0⟩, 0, 0, 0, 7, 9000, 530⟩
    (rider 900 0 150 500 true 1) = some (200, 700, 350, false) := by decide +kernel
theorem test_fare_case_7 : outcome ⟨240, ⟨true, .storedValue, 1, 60, 150, 0⟩, 0, 0, 0, 7, 9000, 440⟩
    (rider 500 0 240 452 false 1) = some (240, 260, 480, false) := by decide +kernel
theorem test_fare_case_8 : outcome ⟨240, ⟨true, .pass, 1, 45, 0, 0⟩, 0, 0, 0, 7, 9001, 10⟩
    (rider 520 0 300 1430 false 1207) = some (0, 520, 0, false) := by decide +kernel
theorem test_fare_case_9 : (computeFare ⟨240, ⟨true, .bundle, 2, 0, 0, 0⟩, 0, 0, 0, 7, 9000, 10⟩
    (rider 520 3 0 0 false 65535)).map (fun r => (r.1, r.2.trips, r.2.sequence)) = some (0, 1, 0) := by decide +kernel
theorem test_fare_case_10 : outcome ⟨80, ⟨true, .storedValue, 1, 0, 0, 0⟩, 0, 0, 0, 7, 9000, 10⟩
    (rider 2000 0 65500 0 false 1) = some (80, 1920, 65535, false) := by decide +kernel
theorem test_fare_case_11 : outcome ⟨300, ⟨true, .storedValue, 1, 0, 0, 0⟩, 100, 0, 0, 7, 9000, 10⟩
    (rider (-200) 0 0 0 false 1) = some (0, -200, 0, false) := by decide +kernel

/-! ### One step -/

/-- The state after a command, for tests: `s` itself where there is none. -/
def after (c : Instr) (s : State) : State :=
  match exec c s with
  | .next t => t
  | _ => s

/-- A TAP advances the tag, is counted and is granted at once by a free engine (R20, R42). -/
theorem test_tap : let t := after (.answer (answerBytes 0 1 (.tap card))) (turnWith 0 quay)
    (t.lane 0).txn = .validating card ∧ (t.lane 0).link.tag = 1 ∧ (t.lane 0).counters.taps = 1 ∧
    t.engine.map (·.stage) = some .service ∧ t.turn = none := by decide +kernel
/-- A TAP at an EXIT lane shows LANE CLOSED (R21). -/
theorem test_tap_at_exit : let t := after (.answer (answerBytes 3 1 (.tap card))) (turnWith 3 quay)
    (t.lane 3).txn = .none ∧ (t.lane 3).link.display = some ⟨.laneClosed, false⟩ := by decide +kernel
/-- A confirmed write turns 1 held place into 1 granted one and opens the leaf (R25, R86, R113). -/
theorem test_done : let t := after (.answer (answerBytes 1 1 (.writeResult 0 1234 .done))) (turnWith 1 (busy []))
    (t.berth 0).counts.held = 0 ∧ (t.berth 0).counts.granted = 3 ∧ (t.lane 1).leaf = .opened 1 ∧
    (t.berth 0).counts.revenue = 200 ∧ t.journal.reservations = 1 ∧ t.journal.records.length = 1 := by decide +kernel
/-- 2 credits, 3 passages in: 2 paid, 1 unpaid (R29, R30). -/
theorem test_passage : let t := after (.answer (answerBytes 0 1 (.passage 3 0))) (turnWith 0 (busy []))
    (t.berth 0).counts.passed = 2 ∧ (t.berth 0).counts.unpaid = 1 ∧ (t.lane 0).leaf = .shut ∧
    t.flags = 1 := by decide +kernel
theorem test_poll_turn_wraps : (after .pollTurn quay).turn.map (·.lane) = some 0 := by decide +kernel
/-- The third miss takes an ONLINE lane OFFLINE (R12). -/
theorem test_third_miss : let s := turnWith 3 quay
    let t := after .answerWindowExpiry (s.withLane 3 { s.lane 3 with link := { (s.lane 3).link with misses := 2 } })
    (t.lane 3).status = .offline ∧ t.flags = 8 := by decide +kernel
/-- Set ABSENT and up again within its turn, a lane notes the number of the report and takes nothing else (R10, R16). -/
theorem test_absented_turn : let s := after (.laneSetup 1 4 1 0) (after (.laneSetup 1 4 0 0) (turnWith 3 quay))
    let t := after (.answer (answerBytes 3 9 (.passage 1 0))) s
    (t.lane 3).status = .offline ∧ (t.lane 3).link.acked = some 9 ∧ (t.lane 3).counters.inward = 0 ∧
    (after .answerWindowExpiry s).lane 3 = s.lane 3 := by decide +kernel
theorem test_hold_expiry : let t := after (.holdTimerExpiry 0) (busy [])
    (t.lane 0).leaf = .shut ∧ (t.berth 0).counts.granted = 0 ∧ (t.berth 0).counts.forfeited = 2 := by decide +kernel
theorem test_blocked_card : let t := after .stageCardStatus (trying { tap .cardStatus with image := { card with card := 5 } } quay)
    t.engine = none ∧ t.journal.records.map (·.draft.kind) = [.refused] ∧
    (t.lane 0).link.display = some ⟨.cardRefused, false⟩ := by decide +kernel
theorem test_watched_card :
    (after .stageCardStatus (trying { tap .cardStatus with image := { card with card := 6 } } quay)).engine.map (·.watch) =
      some true := by decide +kernel
theorem test_unknown_product :
    (after .stageProduct (trying { tap .product with image := { card with product := 2 } } quay)).engine = none := by
  decide +kernel
/-- A base fare of 200 for one rider and no concession: 200 from 500 leaves 300 (R75, R78). -/
theorem test_stage_fare : ((after .stageFare (trying { tap .fare with product := some single, band := some 2 } quay)).engine.bind
    (·.fare)).map (fun f => (f.1, f.2.balance)) = some (200, 300) := by decide +kernel
theorem test_admit : let t := after .decisionEvent (trying { tap .decision with
      product := some single, band := some 2, fare := some (200, write.image) } quay)
    (t.berth 0).counts.held = 1 ∧ t.journal.reservations = 1 ∧ t.engine = none ∧
    (t.lane 0).link.command.map (·.frame) = some (.cardWrite 0 1234 write.image) := by decide +kernel
/-- The new sequence on the card: the write took (R98). -/
theorem test_took : let t := after .stageRecoveryMatch (trying { tap .recoveryMatch with image := { card with card := 77, sequence := 5 } }
      ((busy [77]).withLane 0 (head (.entry 0))))
    t.recovery = [] ∧ (t.lane 0).leaf = .opened 1 ∧ t.journal.records.map (·.draft.kind) = [.recoveredTook] := by decide +kernel
/-- The old sequence: the image is written again (R99). -/
theorem test_retry : let t := after .stageRecoveryMatch (trying { tap .recoveryMatch with image := { card with card := 77, sequence := 4 } }
      ((busy [77]).withLane 0 (head (.entry 0))))
    t.recovery = [] ∧ (t.lane 0).link.command.map (·.frame) = some (.cardWrite 0 77 write.image) := by decide +kernel
theorem test_write_timer : let t := after (.writeTimerExpiry 1) (busy [])
    t.recovery = [{ torn 1234 with lane := 1 }] ∧ (t.lane 1).txn = .none := by decide +kernel
theorem test_recovery_expiry : let t := after (.recoveryExpiry 77) (busy [77])
    t.recovery = [] ∧ (t.berth 0).counts.held = 1 ∧ t.flags = 0x40 := by decide +kernel
theorem test_last_call : let s := quay.withBerth 0 { boat with quietTimer := some 5 }
    let t := after (.quietTimerExpiry 0) s
    (t.berth 0).lastCall = true ∧ (t.lane 1).link.display = some ⟨.lastCall, false⟩ ∧ t.flags = 0x20 := by decide +kernel
/-- Day 65535 is followed by day 0 (R64). -/
theorem test_rollover : let t := after .clockAdvance { quay with clock := ⟨true, 65535, 86399, true⟩ }
    t.clock = ⟨true, 0, 0, true⟩ ∧ t.flags = 0x4000 ∧ t.depotOut = [.notice 0x4000] := by decide +kernel
theorem test_berth_open : let t := after (.berthOpen 1 1) (quay.withBerth 0 { boat with state := .alongside })
    (t.berth 0).state = .boarding ∧ t.depotOut = [.reply .berthOpen 1 (.plain .done)] := by decide +kernel
theorem test_berth_depart : let t := after (.berthDepart 1 1) (busy [77])
    (t.berth 0).state = .idle ∧ (t.berth 0).closed.map (·.vessel) = some 31 ∧ t.recovery = [] ∧
    t.journal.records.map (·.draft.kind) = [.forfeit, .unresolved, .manifest] := by decide +kernel
/-- The entry at index 31 is written, the one past it is RANGE (R129, R131). -/
theorem test_fare_write : let t := after .tableWorkDone (after (.tableWrite 1 31 (.fares [5, 6])) quay)
    t.bankB.fares[31] = 5 ∧ t.depotOut = [.reply .tableWrite 1 (.tableWrite .range 1 1)] ∧ t.request = none := by
  decide +kernel
/-- The entries stand in the shadow when the work is done, not before (R128; log 5). -/
theorem test_table_work : let s := after (.tableCopy 1) quay
    s.bankB.cards = [] ∧ s.request.any TableJob.works = true ∧ (after .tableWorkDone s).bankB.cards = tables.cards := by
  decide +kernel
/-- A TABLE ACTIVATE is answered at once, and the second that reaches its instant makes the swap (R67, R138; log 7). -/
theorem test_swap_at_instant : let s := after (.tableActivate 1 10 3 1 100 36001) { quay with bankB := tables }
    s.pendingActivation = some ⟨100, 36001⟩ ∧ s.depotOut = [.reply .tableActivate 1 (.activated false)] ∧
    s.request = none ∧ (after .clockAdvance s).active = some .b := by decide +kernel
theorem test_activate_incomplete : let t := after (.tableActivate 1 3 0 0 0 0) quay
    t.depotOut = [.reply .tableActivate 1 (.plain .incomplete)] ∧ t.request = none := by decide +kernel
theorem test_release : let t := after (.releaseStart 1) (busy [])
    t.releaseActive = true ∧ (t.lane 0).gateOrder = .openFree ∧ (t.berth 0).counts.granted = 0 ∧
    (t.berth 0).counts.held = 0 := by decide +kernel
theorem test_release_end : let t := after (.releaseEnd 1) freed
    t.releaseActive = false ∧ (t.lane 0).gateOrder = .shut ∧ (t.lane 3).gateOrder = .openFree := by decide +kernel
theorem test_busy : (after (.clockRead 2) { quay with request := some ⟨1, .clear, .working (.plain .done)⟩ }).depotOut =
    [.reply .clockRead 2 (.plain .busy)] := by decide +kernel
/-- A line that falls drives its berth's halt once it is debounced (R121, R157). -/
theorem test_halt_line : let s := { quay with lines := quay.lines.set 0 ⟨.inputHalt 0, .high, .high⟩ }
    ((after (.lineDebounce 0) (after (.lineLevelChange 0 .low) s)).berth 0).halted = true := by decide +kernel
theorem test_control_reset : let t := after (.controlReset 1) (busy [77])
    t.recovery = [] ∧ t.journal.reservations = 0 ∧ t.flags = 0 ∧ t.settings = Settings.defaults ∧
    t.journal.records.map (·.draft.kind) = [.forfeit, .unresolved, .unresolved, .unresolved] := by decide +kernel
theorem test_setting_clamped : let t := after (.settingWrite 1 2 0 99) quay
    t.settings.holdTime = 30 ∧ t.depotOut = [.reply .settingWrite 1 (.settingApplied 2 0 30)] := by decide +kernel

/-! ### Witnesses: the hypotheses of each statement, met

Each theorem is named after its statement and holds, clause by clause in the statement's order, its hypotheses at
concrete states and operands. -/

/-- A lane WAITING while the engine is FREE. -/
def queued : State := quay.withLane 2 { quay.lane 2 with txn := .waiting card }

/-- A validation that references the shadow, which is therefore read-locked. -/
def locking : State := trying { tap .service with bank := some .b } quay

/-- A table request that waits. -/
def waitingJob : TableJob := ⟨1, .clear, .waiting⟩

/-- A TABLE ACTIVATE that waits. -/
def waitingSwap : TableJob := ⟨1, .activate 10 3 0 0 0, .waiting⟩

/-- Whether an outcome is a next state. -/
def isNext : Host.Outcome State Fault Refusal → Bool
  | .next _ => true
  | _ => false

theorem exists_next {o : Host.Outcome State Fault Refusal} (h : isNext o = true) : ∃ t, o = .next t := by
  cases o with
  | next t => exact ⟨t, rfl⟩
  | fault r => cases h
  | refused r => cases h

theorem witness_TheFrontCommandRunsOnTheRest : State.reset.pending = [] := rfl

theorem witness_TheEndOfAnEventServesWhatWaits :
    quay.atRest ∧
    (let s := { trying (tap .service) quay with request := some waitingJob };
      s.request = some waitingJob ∧ waitingJob.phase = .waiting ∧ s.readLocked = false ∧ s.engine ≠ none) ∧
    (let s := { quay with bankB := tables, request := some waitingSwap };
      waitingSwap.phase = .waiting ∧ waitingSwap.request.kind = .tableActivate ∧ s.readLocked = false ∧
      ∀ l : LaneId, (s.lane l).txn.isWaiting = false) ∧
    (let s := { queued with request := some waitingJob };
      s.readLocked = false ∧ s.engine = none ∧ (s.lane 2).txn = .waiting card ∧ (s.lane 2).mode = .entry 0 ∧
      s.firstWaiting 2) ∧
    (queued.engine = none ∧ queued.request.any TableJob.waits = false ∧ (queued.lane 2).txn = .waiting card ∧
      (queued.lane 2).mode = .entry 0 ∧ queued.firstWaiting 2) := by
  decide +kernel

theorem witness_FlagsStaySetUntilTheDepotClearsThem : (∃ t, exec .clockAdvance quay = .next t) ∧
    (∀ tag named, Instr.clockAdvance ≠ .noticeClear tag named) ∧ (∀ tag, Instr.clockAdvance ≠ .controlReset tag) ∧
    Instr.clockAdvance ≠ .powerOn := ⟨exists_next (by decide +kernel), nofun, nofun, nofun⟩

theorem witness_EventsEndInOneNoticeWhereOneIsDue : (∃ t, exec .clockAdvance quay = .next t) ∧
    requestKindAndTag .clockAdvance = none ∧ Instr.clockAdvance ≠ .powerOn ∧
    ∀ kind tag, Instr.clockAdvance ≠ .depotUnknownFrame kind tag := ⟨exists_next (by decide +kernel), rfl, nofun, nofun⟩

/-- The other case: the engine frees the lock for a TABLE ACTIVATE that waits, which ends in that event. -/
theorem witness_EventsEndInOneNoticeWhereOneIsDue_reply :
    (let s := { locking with request := some waitingSwap, bankB := tables, active := some .a };
      s.readLocked = true ∧ (after .answerWindowExpiry (turnWith 0 { s with settings := { s.settings with missLimit := 1 } })).request =
        none) := by decide +kernel

theorem witness_ARequestIsAnsweredOnceAfterItsNotice : requestKindAndTag (.releaseStart 1) = some (.releaseStart, 1) ∧
    RequestKind.releaseStart.changesShadow = false ∧ quay.request = none := by decide +kernel

theorem witness_ARequestInProgressMakesOthersBusy : requestKindAndTag (.identify 1) = some (.identify, 1) ∧
    RequestKind.identify ≠ .tableStatus ∧ ({ quay with request := some waitingJob }).request ≠ none := by decide +kernel

theorem witness_ReadsAnswerAndChangeNothing : quay.request = none ∧
    ((0#8).toNat = 0 ∧ 4 < (5#8).toNat) ∧ (0xFE#8).getLsbD 0 = false ∧ 16 < (17#8).toNat := by decide +kernel

theorem witness_LineReadAnswersEveryLine : quay.request = none := rfl

theorem witness_ClockReadAnswersTheClockAsItStands : quay.request = none ∧
    (State.reset.request = none ∧ State.reset.valuesInRange ∧ State.reset.clock.isSet = false) := by decide +kernel

theorem witness_FramesThatAreNoRequestAndSilence : quay.silenceTimer ≠ none ∧
    ({ quay with silenceTimer := none }).silenceTimer = none := by decide +kernel

theorem witness_SettingsTakeTheirAppliedValues : quay.request = none ∧
    ((0x01, 0, 255) ∈ numericSettings ∧ (0x08, 0, 255) ∈ numericSettings ∧ (0x0A, 1, 8) ∈ numericSettings) ∧
    ((0#8 = 0) ∧ 0x0D < (0x0E#8).toNat ∧ 4 < (5#8).toNat ∧ 1 < (2#16).toNat) := by decide +kernel

/-- One record, with sequence number 4294967295. -/
def recorded : State := (quay.withLane 0 (quay.lane 0)).record false (forfeitRecord 0 0 1 false)

theorem witness_TheDepotClearsOnlyWhatItNames : quay.request = none ∧ (1#8).getLsbD 0 = true ∧
    (quay.request = none ∧ quay.journal.records = []) ∧
    (recorded.request = none ∧ recorded.journal.records[0]? =
      some ⟨0, 100, 36000, forfeitRecord 0 0 1 false⟩) := by decide +kernel

theorem witness_ControlResetEndsEverythingInFlight : (busy [77]).request = none ∧ (busy [77]).placesSound ∧
    (busy [77]).linesFollowed := by decide +kernel

/-- A lane with a command and a code in its slots. -/
def slotted : State := quay.withLane 0 { quay.lane 0 with
  link := { (quay.lane 0).link with command := some ⟨.gate, false, false⟩, display := some ⟨.go, false⟩ } }

theorem witness_APollTurnCarriesTheNextLanesFrame :
    (slotted.turnsTo 0 ∧ (slotted.lane 0).link.command = some ⟨.gate, false, false⟩) ∧
    (let s := quay.withLane 0 { quay.lane 0 with link := { (quay.lane 0).link with display := some ⟨.go, false⟩ } };
      s.turnsTo 0 ∧ (s.lane 0).link.command = none ∧ (s.lane 0).link.display = some ⟨.go, false⟩) ∧
    (quay.turnsTo 0 ∧ (quay.lane 0).link.command = none ∧ (quay.lane 0).link.display = none) ∧
    ((turnWith 0 quay).turn ≠ none ∧ ∀ l : LaneId, (State.reset.lane l).mode = .absent) ∧
    ((turnWith 0 quay).turn = some ⟨0, .empty, ⟨0, none, 0, .empty⟩, false, false⟩) ∧
    (({ quay with turn := some ⟨0, .empty, ⟨0, none, 0, .empty⟩, true, false⟩ }).turn =
      some ⟨0, .empty, ⟨0, none, 0, .empty⟩, true, false⟩) ∧ quay.turn = none := by decide +kernel

/-- The turn of `turnWith`. -/
def turnOf (l : LaneId) : Turn := ⟨l, .empty, ⟨l, none, 0, .empty⟩, false, false⟩

/-- Lane 4 one miss short of the limit of 3. -/
def missing : State := turnWith 3 (quay.withLane 3 { quay.lane 3 with link := { (quay.lane 3).link with misses := 2 } })

/-- Lane 4 set ABSENT and up again within its turn. -/
def resumed : State := { (turnWith 3 quay).withLane 3 { quay.lane 3 with status := .offline } with
  turn := some { turnOf 3 with absented := true } }

theorem witness_AMissedTurnIsCountedToTheMissLimit :
    ((turnWith 3 quay).atRest ∧ (turnWith 3 quay).turn = some (turnOf 3) ∧ (turnOf 3).absented = false ∧
      ((turnWith 3 quay).lane 3).mode ≠ .absent ∧
      min 8 (((turnWith 3 quay).lane 3).link.misses + 1) < (turnWith 3 quay).settings.missLimit ∧
      (turnOf 3).answering = false ∧ answerReport 3 [0xA5] = none) ∧
    ((turnWith 5 quay).atRest ∧ (turnWith 5 quay).turn = some (turnOf 5) ∧ ((turnWith 5 quay).lane 5).mode = .absent) ∧
    (resumed.atRest ∧ resumed.turn = some { turnOf 3 with absented := true } ∧ answerReport 3 [] = none) ∧
    (missing.turn = some (turnOf 3) ∧ (turnOf 3).absented = false ∧
      (missing.lane 3).mode ≠ .absent ∧ (missing.lane 3).status = .online ∧
      missing.settings.missLimit ≤ min 8 ((missing.lane 3).link.misses + 1) ∧ missing.engineSound = true) ∧
    (let s := { turnWith 1 (busy [77]) with settings := { quay.settings with missLimit := 1 } };
      s.placesSound ∧ s.turn = some (turnOf 1) ∧ (s.lane 1).mode ≠ .absent ∧ (s.lane 1).status = .online ∧
      s.settings.missLimit ≤ min 8 ((s.lane 1).link.misses + 1) ∧ (s.lane 1).txn = .writing card write) := by
  refine ⟨?_, ?_, ?_, ?_, ?_⟩ <;> decide +kernel

/-- A lane that is OFFLINE, in its turn. -/
def dark : State := turnWith 0 (quay.withLane 0 { quay.lane 0 with status := .offline })

theorem witness_AGoodAnswerAcknowledgesAndBringsOnline :
    ((turnWith 3 quay).atRest ∧ (turnWith 3 quay).turn = some (turnOf 3) ∧ (turnOf 3).absented = false ∧
      ((turnWith 3 quay).lane 3).mode ≠ .absent ∧
      ((turnWith 3 quay).lane 3).status = .online ∧ answerReport 3 (answerBytes 3 9 .nothing) = some (9, .nothing)) ∧
    (resumed.atRest ∧ resumed.turn = some { turnOf 3 with absented := true }) ∧
    ((turnWith 5 quay).atRest ∧ (turnWith 5 quay).turn = some (turnOf 5) ∧ ((turnWith 5 quay).lane 5).mode = .absent ∧
      answerReport 5 (answerBytes 5 9 (.passage 1 0)) = some (9, .passage 1 0)) ∧
    ((Link.mk (some ⟨.gate, true, false⟩) none (some ⟨.go, true⟩) 0 0 none).command = some ⟨.gate, true, false⟩ ∧
      (Link.mk (some ⟨.gate, true, true⟩) none none 0 0 none).command = some ⟨.gate, true, true⟩ ∧
      (Link.mk (some ⟨.gate, false, false⟩) none none 0 0 none).command.any (·.sent) = false) ∧
    (dark.atRest ∧ dark.turn = some (turnOf 0) ∧ (turnOf 0).absented = false ∧
      (dark.lane 0).mode ≠ .absent ∧ (dark.lane 0).status = .offline ∧
      answerReport 0 (answerBytes 0 9 .nothing) = some (9, .nothing) ∧
      answerReport 0 (answerBytes 0 9 (.tap card)) = some (9, .tap card)) := by decide +kernel

theorem witness_TheSlotsTakeFramesByKind : Link.powerOn.lawful = true ∧ Link.powerOn.command = none ∧
    (let k := Link.mk (some ⟨.gate, true, false⟩) none none 0 0 none;
      k.lawful = true ∧ k.command = some ⟨.gate, true, false⟩) ∧
    (let k := Link.mk (some ⟨.cardWrite 1 2 write.image, true, false⟩) none none 0 0 none;
      k.lawful = true ∧ k.command = some ⟨.cardWrite 1 2 write.image, true, false⟩) := by decide +kernel

theorem witness_ATapIsLatchedOrShowsItsCode :
    (let s := turnWith 0 quay;
      s.atRest ∧ s.releaseActive = false ∧ s.turn = some (turnOf 0) ∧ (turnOf 0).absented = false ∧
      (s.lane 0).mode = .entry 0 ∧
      (s.lane 0).status = .online ∧ (s.lane 0).txn = .none ∧ (s.lane 0).leaf ≠ .fault ∧
      answerReport 0 (answerBytes 0 1 (.tap card)) = some (1, .tap card) ∧ (s.lane 0).link.acked ≠ some 1) ∧
    (let s := turnWith 3 quay;
      s.atRest ∧ s.turn = some (turnOf 3) ∧ (turnOf 3).absented = false ∧ (s.lane 3).status = .online ∧
      (s.lane 3).untakenCode s.releaseActive = some .laneClosed ∧
      answerReport 3 (answerBytes 3 1 (.tap card)) = some (1, .tap card) ∧ (s.lane 3).link.acked ≠ some 1) := by
  decide +kernel

theorem witness_AConfirmedWriteGrantsItsCredits : let s := turnWith 1 (busy [77])
    s.atRest ∧ s.placesSound ∧ s.gatesInOrder ∧ s.turn = some (turnOf 1) ∧ (turnOf 1).absented = false ∧
    (s.lane 1).txn = .writing card write ∧
    write.orphaned = false ∧
    answerReport 1 (answerBytes 1 1 (.writeResult 0 1234 .done)) =
      some (1, .writeResult (s.lane 1).link.tag card.card .done) ∧ (s.lane 1).link.acked ≠ some 1 := by decide +kernel

theorem witness_WritesThatEndWithoutCredits :
    (let s := turnWith 1 (busy [77]);
      s.atRest ∧ s.placesSound ∧ s.turn = some (turnOf 1) ∧ (turnOf 1).absented = false ∧
      (s.lane 1).txn = .writing card write ∧ write.orphaned = false ∧
      answerReport 1 (answerBytes 1 1 (.writeResult 0 1234 .failed)) =
        some (1, .writeResult (s.lane 1).link.tag card.card .failed) ∧ (s.lane 1).link.acked ≠ some 1) ∧
    (let s := turnWith 2 (busy [77]);
      s.atRest ∧ s.turn = some (turnOf 2) ∧ (turnOf 2).absented = false ∧
      (s.lane 2).mode ≠ .absent ∧ (s.lane 2).status = .online ∧
      (s.lane 2).txn = .writing card { write with orphaned := true } ∧
      answerReport 2 (answerBytes 2 1 (.writeResult 0 1234 .uncertain)) =
        some (1, .writeResult (s.lane 2).link.tag card.card .uncertain) ∧ (s.lane 2).link.acked ≠ some 1) ∧
    (let s := turnWith 0 (busy [77]);
      s.atRest ∧ s.turn = some (turnOf 0) ∧ (turnOf 0).absented = false ∧
      (s.lane 0).mode ≠ .absent ∧ (s.lane 0).status = .online ∧
      answerReport 0 (answerBytes 0 1 (.writeResult 3 1234 .done)) = some (1, .writeResult 3 1234 .done) ∧
      (s.lane 0).link.acked ≠ some 1 ∧ (s.lane 0).txn = .none) := by refine ⟨?_, ?_, ?_⟩ <;> decide +kernel

/-- The last clause of the same statement at a lane that is WRITING: the tag differs. -/
theorem witness_WritesThatEndWithoutCredits_unmatched : ∀ image w,
    ((turnWith 1 (busy [77])).lane 1).txn = .writing image w →
      (3 : Byte) ≠ ((turnWith 1 (busy [77])).lane 1).link.tag ∨ (1234 : CardNo) ≠ image.card :=
  fun _ _ _ => .inl (by decide +kernel)

theorem witness_AnUncertainWriteBecomesAnEntry :
    (let s := turnWith 1 (busy [77]);
      s.atRest ∧ s.turn = some (turnOf 1) ∧ (turnOf 1).absented = false ∧
      (s.lane 1).mode ≠ .absent ∧ (s.lane 1).status = .online ∧
      (s.lane 1).txn = .writing card write ∧ write.orphaned = false ∧ (∀ e ∈ s.recovery, e.card ≠ card.card) ∧
      s.recovery.length < 8 ∧ answerReport 1 (answerBytes 1 1 (.writeResult 0 1234 .uncertain)) =
        some (1, .writeResult (s.lane 1).link.tag card.card .uncertain) ∧ (s.lane 1).link.acked ≠ some 1) ∧
    ((busy [77]).lane 2).txn = .writing card { write with orphaned := true } ∧ ((busy [77]).lane 0).txn = .none := by
  decide +kernel

theorem witness_EntriesAreClosedAtExpiryReplacementAndEviction :
    ((busy [77]).placesSound ∧ torn 77 ∈ (busy [77]).recovery ∧ ∀ e ∈ (busy [77]).recovery, e.card ≠ 78) ∧
    (let s := busy [1234];
      s.placesSound ∧ (s.lane 1).txn = .writing card write ∧ torn 1234 ∈ s.recovery ∧ (torn 1234).card = card.card) ∧
    (let s := busy [11, 12, 13, 14, 15, 16, 17, 18];
      s.placesSound ∧ (s.lane 1).txn = .writing card write ∧ torn 11 ∈ s.recovery ∧ s.recovery.length = 8 ∧
      s.recovery.head? = some (torn 11) ∧ ∀ o ∈ s.recovery, o.card ≠ card.card) ∧
    (let s := turnWith 1 (busy [1234]);
      s.atRest ∧ s.placesSound ∧ s.turn = some (turnOf 1) ∧ (turnOf 1).absented = false ∧
      (s.lane 1).txn = .writing card write ∧ torn 1234 ∈ s.recovery ∧ (s.lane 1).link.acked ≠ some 1 ∧
      answerReport 1 (answerBytes 1 1 (.writeResult 0 1234 .uncertain)) = some (1, .writeResult 0 1234 .uncertain)) ∧
    (let s := turnWith 1 (busy [11, 12, 13, 14, 15, 16, 17, 18]);
      s.atRest ∧ s.placesSound ∧ s.recovery.head? = some (torn 11)) := by
  refine ⟨?_, ?_, ?_, ?_, ?_⟩ <;> decide +kernel

theorem witness_PassagesAreCountedByTheLanesMode :
    (let s := turnWith 3 quay;
      s.atRest ∧ s.gatesInOrder ∧ s.turn = some (turnOf 3) ∧ (turnOf 3).absented = false ∧
      (s.lane 3).mode = .exit ∧ (s.lane 3).status = .online ∧
      answerReport 3 (answerBytes 3 1 (.passage 0 7)) = some (1, .passage 0 7) ∧ (s.lane 3).link.acked ≠ some 1 ∧
      s.releaseActive = false) ∧
    ((turnWith 4 quay).lane 4).mode = .closed ∧
    (let s := turnWith 0 freed;
      s.atRest ∧ s.gatesInOrder ∧ s.turn = some (turnOf 0) ∧ (turnOf 0).absented = false ∧
      (s.lane 0).status = .online ∧ s.releaseActive = true ∧
      answerReport 0 (answerBytes 0 1 (.passage 7 0)) = some (1, .passage 7 0)) ∧
    (let s := turnWith 0 (busy [77]);
      s.atRest ∧ s.placesSound ∧ s.gatesInOrder ∧ s.releaseActive = false ∧ s.turn = some (turnOf 0) ∧ (turnOf 0).absented = false ∧
      (s.lane 0).mode = .entry 0 ∧ (s.lane 0).status = .online ∧ (s.lane 0).link.acked ≠ some 1 ∧
      answerReport 0 (answerBytes 0 1 (.passage 2 0)) = some (1, .passage 2 0)) := by refine ⟨?_, ?_, ?_, ?_⟩ <;> decide +kernel

theorem witness_LeafFaultsForfeitAndLeafClearsReopen :
    (let s := turnWith 0 (busy [77]);
      s.atRest ∧ s.placesSound ∧ s.gatesInOrder ∧ s.turn = some (turnOf 0) ∧ (turnOf 0).absented = false ∧
      (s.lane 0).mode = .entry 0 ∧
      (s.lane 0).status = .online ∧ (s.lane 0).leaf = .opened 2 ∧ (s.lane 0).link.acked ≠ some 1 ∧
      answerReport 0 (answerBytes 0 1 (.status .leafFault)) = some (1, .status .leafFault) ∧
      answerReport 0 (answerBytes 0 1 (.status .leafClear)) = some (1, .status .leafClear)) ∧
    (let s := turnWith 3 (quay.withLane 3 { quay.lane 3 with leaf := .fault });
      s.atRest ∧ s.placesSound ∧ s.gatesInOrder ∧ (s.lane 3).leaf = .fault) ∧
    ((turnWith 3 quay).placesSound ∧ ((turnWith 3 quay).lane 3).leaf = .shut) := by refine ⟨?_, ?_, ?_⟩ <;> decide +kernel

theorem witness_ALaneResetEndsTheLanesWork :
    (quay.request = none ∧ (0#8).toNat = 0 ∧ 16 < (17#8).toNat) ∧
    (quay.atRest ∧ (quay.lane 15).txn = .none ∧ (quay.lane 15).credits = 0) ∧
    ((busy [77]).request = none ∧ (busy [77]).placesSound ∧ ((busy [77]).lane 1).txn = .writing card write ∧
      ((busy [77]).lane 2).txn = .writing card { write with orphaned := true } ∧ ((busy [77]).lane 2).credits = 0) ∧
    (let s := turnWith 1 (busy [77]);
      s.placesSound ∧ s.turn = some (turnOf 1) ∧ (turnOf 1).absented = false ∧ (s.lane 1).mode ≠ .absent ∧
      (s.lane 1).status = .online ∧ (s.lane 1).link.acked ≠ some 1 ∧
      answerReport 1 (answerBytes 1 1 (.status .headRestart)) = some (1, .status .headRestart)) ∧
    (let s := turnWith 3 quay;
      s.atRest ∧ s.turn = some (turnOf 3) ∧ (turnOf 3).absented = false ∧
      (s.lane 3).mode ≠ .absent ∧ (s.lane 3).status = .online ∧
      (s.lane 3).txn = .none ∧ (s.lane 3).credits = 0 ∧ (s.lane 3).link.acked ≠ some 1 ∧
      answerReport 3 (answerBytes 3 1 (.status .headRestart)) = some (1, .status .headRestart)) := by
  refine ⟨?_, ?_, ?_, ?_, ?_⟩ <;> decide +kernel

theorem witness_LaneSetupTakesAModeAtAnIdleLane : quay.request = none ∧ (0#8).toNat = 0 ∧ 16 < (17#8).toNat ∧
    3 < (4#8).toNat ∧ 4 < (5#8).toNat := by decide +kernel

theorem witness_AHoldExpiryForfeitsTheCredits :
    ((busy [77]).placesSound ∧ (busy [77]).gatesInOrder ∧ ((busy [77]).lane 0).leaf = .opened 2 ∧
      ((busy [77]).lane 0).mode = .entry 0) ∧ (quay.lane 0).holdTimer = none := by decide +kernel

theorem witness_AQuietExpiryCallsLast :
    (let s := quay.withBerth 0 { boat with quietTimer := some 5 };
      (s.berth 0).quietTimer ≠ none ∧ (s.berth 0).state = .boarding) ∧
    ((quay.berth 0).quietTimer = none ∧ (quay.berth 3).state ≠ .boarding ∧ (quay.berth 3).state ≠ .full) := by
  decide +kernel

/-- An activation pending for second 36001, or for the end of the day. -/
def timed (secs : Nat) : State := { quay with pendingActivation := some ⟨100, secs⟩ }

/-- A table request at work. -/
def working : State := { quay with request := some ⟨1, .clear, .working (.plain .done)⟩ }

theorem witness_TheClockAdvancesAndCarriesOutActivations_tables : working.tablesSound :=
  ⟨by decide +kernel, by decide +kernel, fun i => by cases i <;> decide +kernel, fun i => by cases i <;> decide +kernel,
    by decide +kernel, by decide +kernel, by decide +kernel⟩

/-- The tables of `working` are sound by the theorem above. -/
theorem witness_TheClockAdvancesAndCarriesOutActivations :
    ((timed 36002).clock.running = true ∧ (timed 36002).clock.secs < 86399 ∧
      (timed 36002).pendingActivation = some ⟨100, 36002⟩ ∧ ¬ (Instant.mk 100 36002).dueAt 100 36001) ∧
    (let s := { quay with clock := ⟨true, 65535, 86399, true⟩ };
      s.clock.running = true ∧ s.clock.secs = 86399 ∧ s.pendingActivation = none) ∧
    (State.reset.clock.running = false ∧ working.request.any TableJob.works = true) ∧ ((timed 36001).request = none ∧ (Instant.mk 100 36001).dueAt 100 36001) ∧
    (let s := { timed 36001 with clock := ⟨true, 100, 86399, true⟩ };
      s.clock.secs = 86399 ∧ s.pendingActivation = some ⟨100, 36001⟩ ∧
      (Instant.mk 100 36001).dueAt ((s.clock.day + 1) % 65536) 0) := by decide +kernel

theorem witness_StagesOneThreeAndFourCheckInOrder :
    (let s := trying (tap .service) quay;
      s.engine = some (tap .service) ∧ (tap .service).stage = .service) ∧
    (let s := trying (tap .cardStatus) quay;
      s.engine = some (tap .cardStatus) ∧ (tap .cardStatus).bank = some .a ∧ (s.bank .a).cardsAscend ∧
      (∀ e ∈ (s.bank .a).cards, e.card ≠ (tap .cardStatus).image.card) ∧ ⟨7, .cls 3⟩ ∈ (s.bank .a).cards) ∧
    (trying (tap .product) quay).engine = some (tap .product) := by decide +kernel

/-- A validation whose product has been found. -/
def found (stage : Stage) : Validation := { tap stage with product := some single, band := some 2 }

theorem witness_StagesPassbackBerthStateAndLaneRoom :
    ((trying (found .passback) quay).engine = some (found .passback) ∧ (found .passback).product = some single) ∧
    (trying (found .berthState) quay).engine = some (found .berthState) ∧
    (trying (found .laneRoom) quay).engine = some (found .laneRoom) := by decide +kernel

theorem witness_StageFareComputesTheCharge :
    (let s := trying (found .fare) quay;
      s.engine = some (found .fare) ∧ (found .fare).band = some 2 ∧
      timeBandAt (s.bank .a).bands ((found .fare).secs / 60) = some 0 ∧ (found .fare).cls.getD card.cls = 0) ∧
    (let v := { found .fare with band := none };
      (trying v quay).engine = some v ∧ v.product = some single ∧ v.band = none ∧
      timeBandAt ((trying v quay).bank .a).bands (v.secs / 60) = some 0) := by decide +kernel

/-- A validation that comes to its decision. -/
def decided : Validation := { found .decision with fare := some (200, write.image) }

theorem witness_TheDecisionAdmitsOrRefuses : let s := trying decided quay
    s.engine = some decided ∧ decided.stage = .decision ∧ decided.bank = some .a ∧ decided.product = some single ∧
    decided.fare = some (200, write.image) ∧ (s.lane 0).mode ≠ .absent ∧ (s.lane 0).status = .online := by decide +kernel

/-- A tap at lane 4 of `busy` for the recovery entry of card 77. -/
def back : Validation := { tap .recoveryMatch with lane := 3, image := { card with card := 77 } }

/-- Lane 4 turned to ENTRY, with that tap. -/
def returned : State := { (busy [77]).withLane 3 { head (.entry 0) with txn := .validating back.image } with
  engine := some back }

theorem witness_StageRecoveryMatchResolvesTheEntry :
    (let s := trying (tap .recoveryMatch) quay;
      s.engine = some (tap .recoveryMatch) ∧ ∀ e ∈ s.recovery, e.card ≠ (tap .recoveryMatch).image.card) ∧
    (returned.placesSound ∧ returned.gatesInOrder ∧ returned.engine = some back ∧ back.stage = .recoveryMatch ∧
      torn 77 ∈ returned.recovery ∧ (torn 77).card = back.image.card) := by decide +kernel

theorem witness_TheNetFareRoundsTheDiscount :
    let x : FareInput := ⟨9999, { single with riders := 6 }, 100, 0, 0, 7, 100, 600⟩
    x.base ≤ 9999 ∧ x.product.riders ≤ 6 ∧ x.concession ≤ 100 ∧ x.concession = 100 ∧ x.net = 0 ∧
    ({ x with concession := 0 }).concession = 0 := by decide +kernel

theorem witness_TheDailyCapBoundsTheCharge :
    let x : FareInput := ⟨9999, { single with riders := 6 }, 0, 700, 0, 7, 100, 600⟩
    x.cap ≠ 0 ∧ x.base ≤ 9999 ∧ x.product.riders ≤ 6 ∧
    x.cap ≤ x.spendSoFar { card with dayStamp := 100, daySpend := 700 } := by decide +kernel

theorem witness_TheFareComputationGivesChargeAndImage :
    (computeFare ⟨200, single, 0, 0, 0, 7, 100, 600⟩ card).any (0 < ·.1) = true := by decide +kernel

theorem witness_TheWindowTestAndTheTimeBandLookup :
    (card.dayStamp ≠ 100 ∧ 599 < ({ card with lastMinute := 600 }).lastMinute) ∧
    tables.bandsAscend ∧ (⟨420, 1⟩ ∈ tables.bands ∧ 420 ≤ 420 ∧ ∀ y ∈ tables.bands, y.start ≤ 420 → y.start ≤ 420) ∧
    (⟨600, 0⟩ ∈ tables.bands ∧ ∀ y ∈ tables.bands, 419 < y.start ∧ y.start ≤ 600) := by decide +kernel

theorem witness_BerthRequestsChangeTheCall : quay.request = none ∧
    ((quay.berth 1).state = .idle) ∧
    ((quay.berth 0).vessel = some ⟨31, 100, 0, 0, 2⟩ ∧ (quay.berth 0).state ≠ .idle) ∧
    ((0#8).toNat = 0 ∧ 4 < (5#8).toNat) := by decide +kernel

theorem witness_DepartPerformsTheTurnover : ((busy [77]).request = none ∧ ((busy [77]).berth 1).state = .idle) ∧
    ((busy [77]).placesSound ∧ ((busy [77]).berth 0).state ≠ .idle ∧ (busy [77]).gatesInOrder) := by decide +kernel

theorem witness_ATableRequestIsTakenOrWaits :
    (quay.request = none ∧ tableRequestOf (.tableClear 1) = some (1, .clear) ∧ quay.readLocked = false ∧
      TableRequest.clear.kind ≠ .tableActivate ∧
      tableRequestOf (.tableActivate 1 10 3 0 0 0) = some (1, .activate 10 3 0 0 0)) ∧
    (locking.request = none ∧ locking.readLocked = true) ∧
    (({ quay with request := some ⟨1, .clear, .working (.plain .done)⟩ }).request =
      some ⟨1, .clear, .working (.plain .done)⟩) ∧ quay.request.all TableJob.waits = true := by decide +kernel

theorem witness_TableRequestsEditTheShadowAndCancel : State.reset.active = none ∧ quay.active = some .a := by decide

theorem witness_TableWritesStopAtTheFirstFailureAndKeepOrder :
    ((TableBody.outOfRange 0).count = 0 ∧ 32 < (TableBody.outOfRange 33).count) ∧
    ((2 : Nat) ≠ 0 ∧ (2 : Nat) ≠ tables.cards.length ∧ tables.cards ≠ [] ∧ (1 : Nat) ≠ tables.bands.length ∧
      tables.bands ≠ []) ∧
    (let es : List RawCard := [⟨8, 1⟩, ⟨9, 2⟩];
      1 ≤ es.length ∧ es.length ≤ 32 ∧ (tables.writeChecked 3 (.cards es)).2 = ⟨.done, 2⟩ ∧
      (tables.writeChecked 3 (.cards (⟨7, 1⟩ :: es))).2 = ⟨.duplicate, 0⟩) ∧
    (let es : List RawBoundary := [⟨700, 1⟩, ⟨700, 2⟩]; (tables.writeChecked 2 (.timeBands es)).2 = ⟨.order, 1⟩) ∧
    ((tables.writeChecked 31 (.fares [9999, 1])).2 = ⟨.range, 1⟩ ∧
      (tables.writeChecked 63 (.products [⟨0, 4, 1, 0, 0, 0⟩])).2 = ⟨.range, 0⟩ ∧
      (tables.writeChecked 7 (.classes [⟨100, 0, 1⟩])).2 = ⟨.done, 1⟩) ∧
    (tables.cardsAscend ∧ (tables.insert ⟨8, 1⟩).2 = .done) := by decide +kernel

theorem witness_TheJournalStoresOrCountsARecord :
    quay.journal.records.length + quay.journal.reservations < 2048 ∧
    (let s := { quay with journal := { quay.journal with reservations := 2048 } };
      2048 ≤ s.journal.records.length + s.journal.reservations) := by decide +kernel

/-- Lines 1 to 4: a low RELEASE, a TALLY and a HALT line of berth 1 about to fall, and an unused one. -/
def wired : State := { freed with
  lines := (((freed.lines.set 0 ⟨.inputRelease, .low, .low⟩).set 1 ⟨.inputTally 0, .high, .low⟩).set 2
    ⟨.inputHalt 0, .high, .low⟩).set 3 ⟨.unused, .high, .low⟩
  lineSource := true }

theorem witness_DebouncedLinesDriveTheirFunctions :
    ((wired.line 0).level = (wired.line 0).debounced) ∧
    (wired.atRest ∧ wired.linesFollowed ∧
      (∀ i ∈ [1, 2, 3], (wired.line i).entry.isOutput = false ∧ (wired.line i).level ≠ (wired.line i).debounced) ∧
      (wired.line 1).entry = .inputTally 0 ∧ (wired.line 2).entry = .inputHalt 0 ∧ (wired.line 3).entry = .unused) ∧
    (let s := { wired with lines := wired.lines.set 0 ⟨.inputRelease, .low, .high⟩ };
      s.atRest ∧ s.linesFollowed ∧ (s.line 0).entry = .inputRelease ∧ (s.line 0).level ≠ (s.line 0).debounced) := by
  decide +kernel

theorem witness_LineSetupTakesEffectAtOnce :
    (quay.request = none ∧ (0#8).toNat = 0 ∧ 8 < (9#8).toNat ∧ 4 < (5#8).toNat ∧ 17 < (18#8).toNat) ∧
    ((busy [77]).request = none ∧ (busy [77]).placesSound ∧ (busy [77]).linesFollowed ∧
      lineEntryOf 1 17 1 = some (.output 17 true)) := by decide +kernel

theorem witness_ReleaseOpensEveryGate : (freed.request = none ∧ freed.atRest ∧ freed.releaseActive = true) ∧
    ((busy [77]).request = none ∧ (busy [77]).placesSound ∧ (busy [77]).gatesInOrder ∧ (busy [77]).releaseActive = false ∧
      ((busy [77]).lane 0).status = .online ∧ ((busy [77]).lane 0).mode ≠ .exit ∧ ((busy [77]).lane 0).mode ≠ .absent) ∧
    (let s := { busy [77] with lines := quay.lines.set 0 ⟨.inputRelease, .high, .low⟩ };
      s.placesSound ∧ s.gatesInOrder ∧ s.linesFollowed ∧ s.releaseActive = false ∧ (s.line 0).entry = .inputRelease ∧
      (s.line 0).level = .low) ∧
    (let s := { busy [77] with lines := quay.lines.set 0 ⟨.unused, .low, .low⟩ };
      s.request = none ∧ s.placesSound ∧ s.gatesInOrder ∧ s.linesFollowed ∧ s.releaseActive = false ∧
      (s.line 0).entry.isOutput = false ∧ (s.line 0).debounced = .low) := by
  refine ⟨?_, ?_, ?_, ?_⟩ <;> decide +kernel

theorem witness_ReleaseEndsToTheSavedModes :
    (wired.request = none ∧ wired.atRest ∧ wired.releaseActive = wired.lineSource) ∧
    (freed.request = none ∧ freed.atRest ∧ freed.releaseActive = true ∧ freed.lineSource = false) ∧
    (let s := { wired with frameSource := false, lines := wired.lines.set 0 ⟨.inputRelease, .low, .high⟩ };
      s.request = none ∧ s.atRest ∧ s.linesFollowed ∧ s.releaseActive = true ∧ s.frameSource = false ∧
      (s.line 0).entry = .inputRelease ∧ (s.line 0).level = .high ∧
      (∀ j : LineId, j ≠ 0 → (s.line j).entry = .inputRelease → (s.line j).debounced = .high) ∧
      lineEntryOf 4 1 0 = some (.inputHalt 0) ∧ LineEntry.inputHalt 0 ≠ .inputRelease) := by
  refine ⟨?_, ?_, ?_⟩ <;> decide +kernel

/-- `busy` with a command waiting. -/
def next : State := { busy [77] with pending := [.holdTimerExpiry 0] }

theorem witness_EveryStepKeepsGateOrdersAndSlots : next.gatesInOrder ∧ next.slotsLawful := by decide +kernel
theorem witness_EveryStepKeepsNumbersAndRanges :
    next.journal.numbered ∧ next.valuesInRange ∧ recorded.journal.numbered := by decide +kernel
theorem witness_EveryStepKeepsTheTablesSound : next.tablesSound :=
  ⟨by decide +kernel, by decide +kernel, fun i => by cases i <;> decide +kernel, fun i => by cases i <;> decide +kernel,
    by decide +kernel, by decide +kernel, by decide +kernel⟩
theorem witness_EveryStepKeepsReleaseAndHaltsOnTheirLines : next.linesFollowed := by decide +kernel
/-- The tables' laws are those of `witness_EveryStepKeepsTheTablesSound`. -/
theorem witness_EveryStepKeepsThePlacesSound : next.placesSound := by decide +kernel
/-- The one hypothesis the invariants share. -/
theorem witness_step : ∃ t, step next = .next t := exists_next (by decide +kernel)

theorem witness_AnswersAreReadAsTheyAreWritten :
    (Report.tap { card with balance := -32768, lastMinute := 1439 }).inFrame = true ∧ (1 : LaneId) ≠ 0 := by decide

theorem witness_RequestsAreReadAsTheyAreWritten : (Instr.identify 255).wellFormed = true ∧
    requestEnvelope (.identify 255) = some ⟨0x9F, 255, []⟩ ∧
    (requestKindOf 0x88 = some .berthOpen ∧ 0 < RequestKind.bodySize [] .berthOpen ∧ requestKindOf 0xEF = none) := by
  decide

end Sys2Proof.Tests
end

section
/-! The end of a stage in the words of the statements, and stages 5, 6 and 8 of a validation (R50, R51, R53). -/

namespace Sys2Proof.Machine

/-! ### A refusal and a pass as the statements write them -/

/-- A REFUSE decision changes its lane alone, and all of it at once (R22). -/
theorem State.takeRefusal_eq (s : State) (l : LaneId) (code : RefusalCode) :
    s.takeRefusal l code = { s with lanes := s.lanes.set l ((s.lane l).refused code) } := by
  have counted : (s.endTransaction l).onCounters l (fun c => { c with refusals := saturate top16 c.refusals 1 }) =
      s.onLane l fun x => { x with
        txn := .none, counters := { x.counters with refusals := min 65535 (x.counters.refusals + 1) } } := by
    simp only [State.endTransaction, State.onCounters, State.onLane_onLane]; rfl
  simp only [State.takeRefusal, counted, State.askShow, State.lane_onLane_self, State.onLink, State.onLane_onLane]
  by_cases takes : (s.lane l).status = .online ∧ (s.lane l).mode ≠ .absent
  · simp [Lane.takesFrames, Lane.refused, takes, State.onLane, Lane.showing, Link.placeShow]
  · simp [Lane.takesFrames, Lane.refused, takes, State.onLane]

/-- The engine's hand-over changes the engine and the flag word alone, WATCH CARD being flag 1 (R57, R168). -/
theorem State.freeEngine_eq (s : State) (watch : Bool) :
    s.freeEngine watch = { s with engine := none, flags := if watch then s.flags ||| 2#16 else s.flags } := by
  cases watch <;> rfl

/-- The Journal takes a record without the lanes. -/
@[simp] theorem State.record_lanes (s : State) (r : Bool) (d : Draft) : (s.record r d).lanes = s.lanes := by
  rw [State.record_shape]

/-- The event of a refusal, with the class, riders and WATCH mark that R57 gives its record. -/
theorem State.endEvent_refuse (s : State) (v : Validation) (e : Option RecoveryEntry) (code : RefusalCode) :
    (s.refuse v e code).endEvent s.flags =
      s.refusedAt v (v.recordClass e) (v.recordRiders e) (v.recordWatch e) code := by
  simp only [State.refuse, State.freeEngine_eq, State.takeRefusal_eq, State.record_lanes,
    State.lane_congr (s.record_lanes _ _)]
  rfl

/-- The event of a refusal outside stage 2. -/
theorem State.endEvent_refuse_none (s : State) (v : Validation) (code : RefusalCode) :
    (s.refuse v none code).endEvent s.flags = s.refusedBy v code :=
  s.endEvent_refuse v none code

/-- The event of a stage that passes. -/
theorem State.endEvent_goOn (s : State) (v : Validation) (next : Stage) :
    (s.goOn v next).endEvent s.flags = s.passedTo { v with stage := next } := rfl

/-! ### What the stages check -/

/-- The window test of R70 as a difference of whole numbers. -/
theorem inWindow_iff (image : CardImage) (today now window : Nat) :
    inWindow image today now window = true ↔
      image.dayStamp = today ∧ (0 : Int) ≤ now - image.lastMinute ∧ (now : Int) - image.lastMinute ≤ window := by
  simp only [inWindow, Bool.and_eq_true, beq_iff_eq, decide_eq_true_eq]
  omega

/-- The passback test: the card's last pier is this one, and the window test holds (R50, R70). -/
theorem State.isPassback_iff (s : State) (v : Validation) :
    s.isPassback v = true ↔ v.image.lastPier = s.settings.pierNumber ∧ v.image.dayStamp = v.day ∧
      (0 : Int) ≤ (v.secs / 60 : Nat) - v.image.lastMinute ∧
      ((v.secs / 60 : Nat) : Int) - v.image.lastMinute ≤ s.settings.passback := by
  simp only [State.isPassback, Bool.and_eq_true, beq_iff_eq, inWindow_iff, Validation.now, minuteOf]

theorem BerthState.takesPassengers_eq_false_iff (b : BerthState) :
    b.takesPassengers = false ↔ b ≠ .boarding ∧ b ≠ .full := by
  cases b <;> simp [BerthState.takesPassengers]

/-- The checks of stage 6 in their order (R51). -/
theorem Berth.entryRefusal_eq (b : Berth) : b.entryRefusal =
    if b.state ≠ .boarding ∧ b.state ≠ .full then some .boardingClosed
    else if b.source = .tally then some .staffBoarding
    else if b.halted = true then some .halted
    else none := by
  have tally : (b.source != .gates) = true ↔ b.source = .tally := by cases b.source <;> decide
  simp only [Berth.entryRefusal, Bool.not_eq_true', BerthState.takesPassengers_eq_false_iff, tally]

theorem State.lacksLaneRoom_iff (s : State) (l : LaneId) (riders : Nat) :
    s.lacksLaneRoom l riders = true ↔ 15 < (s.lane l).credits + riders :=
  decide_eq_true_iff

/-! ### The stages -/

/-- Stage 5 (R50). -/
theorem exec_stagePassback {s : State} {v : Validation} {p : Product} (he : s.engine = some v)
    (hs : v.stage = .passback) (hp : v.product = some p) : exec .stagePassback s = .next (
      if p.riders = 1 ∧ s.settings.passback ≠ 0 ∧ s.isPassback v = true then s.refusedBy v .passback
      else s.passedTo { v with stage := .berthState }) := by
  have run : exec .stagePassback s = .next ((s.runPassback v).endEvent s.flags) :=
    congrArg Host.Outcome.next (State.atStage_of_next State.runPassback he hs)
  simp only [run, State.runPassback, hp, apply_ite (State.endEvent · s.flags), State.endEvent_refuse_none,
    State.endEvent_goOn]

/-- Stage 6 (R51). -/
theorem exec_stageBerthState {s : State} {v : Validation} (he : s.engine = some v) (hs : v.stage = .berthState) :
    exec .stageBerthState s = .next (
      if (s.berth v.berth).state ≠ .boarding ∧ (s.berth v.berth).state ≠ .full then s.refusedBy v .boardingClosed
      else if (s.berth v.berth).source = .tally then s.refusedBy v .staffBoarding
      else if (s.berth v.berth).halted = true then s.refusedBy v .halted
      else s.passedTo { v with stage := .fare }) := by
  have run : exec .stageBerthState s = .next ((s.runBerthState v).endEvent s.flags) :=
    congrArg Host.Outcome.next (State.atStage_of_next State.runBerthState he hs)
  rw [run, State.runBerthState, Berth.entryRefusal_eq]
  split_ifs <;> simp only [State.endEvent_refuse_none, State.endEvent_goOn]

/-- Stage 8 (R53). -/
theorem exec_stageLaneRoom {s : State} {v : Validation} {p : Product} (he : s.engine = some v)
    (hs : v.stage = .laneRoom) (hp : v.product = some p) : exec .stageLaneRoom s = .next (
      if 15 < (s.lane v.lane).credits + p.riders then s.refusedBy v .laneBusy
      else s.passedTo { v with stage := .decision }) := by
  have run : exec .stageLaneRoom s = .next ((s.runLaneRoom v).endEvent s.flags) :=
    congrArg Host.Outcome.next (State.atStage_of_next State.runLaneRoom he hs)
  simp only [run, State.runLaneRoom, hp, State.lacksLaneRoom_iff, apply_ite (State.endEvent · s.flags),
    State.endEvent_refuse_none, State.endEvent_goOn]

end Sys2Proof.Machine

open Sys2Proof Sys2Proof.Machine

/-- Settles O33: each stage's equation, its test in the words of R50 and R70 at stage 5. -/
theorem stagesPassbackBerthStateAndLaneRoom : Obligations.StagesPassbackBerthStateAndLaneRoom := by
  refine ⟨fun s v he hs p hp => ?_, fun s v he hs => exec_stageBerthState he hs,
    fun s v he hs p hp => exec_stageLaneRoom he hs hp⟩
  simp only [exec_stagePassback he hs hp, State.isPassback_iff]

end

section
/-! The fare computation's amounts and their bounds (R75, R77), and CLOCK READ (R66). -/

namespace Sys2Proof.Machine

/-! ### The net fare (R75) -/

/-- The gross fare of six riders at the highest base fare of R131 is the highest of all. -/
theorem FareInput.gross_le {x : FareInput} (hb : x.base ≤ 9999) (hr : x.product.riders ≤ 6) : x.gross ≤ 59994 :=
  Nat.mul_le_mul hb hr

/-- The discount is the greatest whole number of cents not above the exact discount and a half cent: the rounding to
the nearest cent, the half cent up. -/
theorem FareInput.le_discount_iff (x : FareInput) (d : Nat) :
    d ≤ x.discount ↔ d * 100 ≤ x.gross * x.concession + 50 :=
  Nat.le_div_iff_mul_le (by decide)

theorem FareInput.discount_le_gross {x : FareInput} (hc : x.concession ≤ 100) : x.discount ≤ x.gross := by
  have scaled : x.gross * x.concession ≤ x.gross * 100 := Nat.mul_le_mul_left _ hc
  unfold FareInput.discount
  omega

theorem FareInput.discount_of_no_concession {x : FareInput} (hc : x.concession = 0) : x.discount = 0 := by
  simp [FareInput.discount, hc]

/-- A full concession discounts the whole gross fare, and the added half cent rounds away. -/
theorem FareInput.gross_le_discount_of_full_concession {x : FareInput} (hc : x.concession = 100) :
    x.gross ≤ x.discount := by
  rw [x.le_discount_iff, hc]
  exact Nat.le_add_right _ _

theorem FareInput.net_of_full_concession {x : FareInput} (hc : x.concession = 100) : x.net = 0 :=
  Nat.sub_eq_zero_of_le (FareInput.gross_le_discount_of_full_concession hc)

theorem FareInput.net_le_gross (x : FareInput) : x.net ≤ x.gross := Nat.sub_le _ _

/-! ### The charge (R76, R77) and its overdraft check (R78) -/

theorem FareInput.afterTransfer_le_net (x : FareInput) (image : CardImage) : x.afterTransfer image ≤ x.net :=
  Nat.sub_le _ _

theorem FareInput.charge_of_no_cap {x : FareInput} (image : CardImage) (hc : x.cap = 0) :
    x.charge image = x.afterTransfer image :=
  if_pos hc

theorem FareInput.charge_of_cap {x : FareInput} (image : CardImage) (hc : x.cap ≠ 0) :
    x.charge image = min (x.afterTransfer image) (x.cap - x.spendSoFar image) :=
  if_neg hc

theorem FareInput.charge_le_afterTransfer (x : FareInput) (image : CardImage) :
    x.charge image ≤ x.afterTransfer image := by
  by_cases hc : x.cap = 0
  · exact (FareInput.charge_of_no_cap image hc).le
  · rw [FareInput.charge_of_cap image hc]
    exact Nat.min_le_left _ _

theorem FareInput.charge_le_room {x : FareInput} (image : CardImage) (hc : x.cap ≠ 0) :
    x.charge image ≤ x.cap - x.spendSoFar image := by
  rw [FareInput.charge_of_cap image hc]
  exact Nat.min_le_right _ _

/-- A spent cap leaves no room, so nothing is charged. -/
theorem FareInput.charge_of_spent_cap {x : FareInput} {image : CardImage} (hc : x.cap ≠ 0)
    (spent : x.cap ≤ x.spendSoFar image) : x.charge image = 0 :=
  Nat.eq_zero_of_le_zero (Nat.sub_eq_zero_of_le spent ▸ FareInput.charge_le_room image hc)

theorem FareInput.charge_le_net (x : FareInput) (image : CardImage) : x.charge image ≤ x.net :=
  (x.charge_le_afterTransfer image).trans (x.afterTransfer_le_net image)

/-- Only a charge above 0 can overdraw a purse (R78). -/
theorem FareInput.not_overdrawn_of_no_charge {x : FareInput} {image : CardImage} (h : x.charge image = 0) :
    x.overdrawn image = false := by
  simp [FareInput.overdrawn, h]

/-! ### CLOCK READ (R66) -/

/-- CLOCK READ is a read of the clock: a good frame leaves the clock as it stands. -/
theorem exec_clockRead {s : State} (tag : Byte) (h : s.request = none) : exec (.clockRead tag) s =
    .next (s.answered s [.reply .clockRead tag (.clock s.clock.isSet s.clock.day s.clock.secs)]) :=
  congrArg Host.Outcome.next (State.answer_readOnly .clockRead tag _ h)

end Sys2Proof.Machine

open Sys2Proof Sys2Proof.Machine

/-- Settles O37: the rounding is the division's own bound, and the fares follow from the bounds of the gross fare. -/
theorem theNetFareRoundsTheDiscount : Obligations.TheNetFareRoundsTheDiscount := by
  intro x hb hr hc
  have gross_bound : x.gross ≤ 59994 := FareInput.gross_le hb hr
  have free_of_net_zero (hn : x.net = 0) (image : CardImage) : x.charge image = 0 ∧ x.overdrawn image = false :=
    have free : x.charge image = 0 := Nat.eq_zero_of_le_zero (hn ▸ x.charge_le_net image)
    ⟨free, FareInput.not_overdrawn_of_no_charge free⟩
  exact ⟨rfl, gross_bound, rfl, FareInput.discount_le_gross hc, rfl, x.net_le_gross.trans gross_bound,
    fun d => (x.le_discount_iff d).2, FareInput.discount_of_no_concession, FareInput.net_of_full_concession,
    free_of_net_zero⟩

/-- Settles O38: a charge under a cap is bounded by the fare after transfer and by the cap room. -/
theorem theDailyCapBoundsTheCharge : Obligations.TheDailyCapBoundsTheCharge := by
  intro x image
  have room : (if x.cap ≤ x.spendSoFar image then 0 else x.cap - x.spendSoFar image) =
      x.cap - x.spendSoFar image := by
    split_ifs with spent
    · exact (Nat.sub_eq_zero_of_le spent).symm
    · rfl
  refine ⟨rfl, by rw [room, FareInput.charge], FareInput.charge_of_spent_cap, x.charge_le_afterTransfer image,
    FareInput.charge_le_room image, fun hb hr => ?_⟩
  calc x.charge image ≤ x.net := x.charge_le_net image
    _ ≤ x.gross := x.net_le_gross
    _ ≤ 59994 := FareInput.gross_le hb hr

/-- Settles O11: the read of the clock, whose day and second an UNSET clock keeps at 0. -/
theorem clockReadAnswersTheClockAsItStands : Obligations.ClockReadAnswersTheClockAsItStands := by
  refine ⟨fun s free tag => exec_clockRead tag free, fun s free ranges unset tag => ?_⟩
  obtain ⟨-, -, -, -, -, zeroed⟩ := ranges
  obtain ⟨day, secs⟩ := zeroed unset
  rw [exec_clockRead tag free, unset, day, secs]

end

section
/-! The read requests (R40, R124, R142, R150, R152, R169, R171, R175): each owner named by its request leaves the state
as it stands, so each is one use of `State.answer_readOnly`. -/

namespace Sys2Proof.Machine

/-! ### Unit numbers (spec/11) -/

/-- A unit's number on the links is read back as that unit. -/
theorem oneBased_number {n : Nat} (hn : n ≤ 255) (i : Fin n) : oneBased n (number i) = some i := by
  have value : (number i).toNat = i.val + 1 := by
    rw [number, BitVec.toNat_ofNat]
    omega
  simp [oneBased, value]

theorem oneBased_of_outside {n : Nat} {b : Byte} (h : b.toNat = 0 ∨ n < b.toNat) : oneBased n b = none :=
  dif_neg (by omega)

theorem laneOf_number (l : LaneId) : laneOf (number l) = some l := oneBased_number (by decide) l

theorem berthOf_number (b : BerthId) : berthOf (number b) = some b := oneBased_number (by decide) b

/-! ### Owners that change nothing -/

theorem inRange_some {α : Type} (x : α) (owner : α → State → State × ReplyBody) :
    inRange (some x) owner = owner x := rfl

/-- A unit number out of range is answered RANGE, which changes nothing (R167). -/
theorem inRange_none {α : Type} (owner : α → State → State × ReplyBody) :
    inRange none owner = readOnly fun _ => .plain .range := rfl

theorem clearAsked_of_keep {option : Byte} (keep : option.getLsbD 0 = false) : clearAsked option = false := keep

/-- LANE READ without its clear option is a read (R40). -/
theorem takeLaneRead_of_keep {option : Byte} (l : LaneId) (keep : option.getLsbD 0 = false) :
    takeLaneRead option l = readOnly fun t => .lane (t.lane l) t.pier := by
  funext t
  simp [takeLaneRead, clearAsked_of_keep keep, readOnly]

/-- JOURNAL STATUS without its clear option is a read (R152). -/
theorem takeJournalStatus_of_keep {option : Byte} (keep : option.getLsbD 0 = false) :
    takeJournalStatus option = readOnly fun t => .journalStatus t.journal.records.length t.journal.reservations
      (t.journal.records[0]?.map (·.sequence)) t.journal.next t.journal.tally t.journal.batch := by
  funext t
  simp [takeJournalStatus, clearAsked_of_keep keep, readOnly, List.head?_eq_getElem?]

/-- A JOURNAL READ asks for up to 16 records, and its 0 for 16 (R150). -/
theorem readCount_eq (k : Byte) :
    readCount k = if 16 < k.toNat then none else some (if k = 0 then 16 else k.toNat) := by
  have zero : k = 0 ↔ k.toNat = 0 := BitVec.toNat_inj.symm
  simp only [readCount, Config.maxRead, zero]
  grind

/-- JOURNAL READ is a read for every count, in range or not (R150). -/
theorem inRange_readCount (k : Byte) :
    (inRange (readCount k) fun n => readOnly fun t => .records (t.journal.records.take n)) = readOnly fun t =>
      if 16 < k.toNat then .plain .range
      else .records (t.journal.records.take (if k = 0 then 16 else k.toNat)) := by
  rw [readCount_eq]
  by_cases outside : 16 < k.toNat
  · simp only [if_pos outside, inRange_none]
  · simp only [if_neg outside, inRange_some]

/-! ### What TABLE STATUS answers -/

/-- The shadow is the bank that is not active, and Bank A while none is (spec/07). -/
theorem State.shadow_eq (s : State) : s.shadow = match s.active with | some .a => .b | _ => .a := by
  unfold State.shadow
  rcases s.active with _ | _ | _ <;> rfl

/-- The read lock is locked while the validation in flight references the shadow (R140). -/
theorem State.readLocked_eq_decide (s : State) : s.readLocked = decide (s.referencedBank = some s.shadow) := by
  rw [State.readLocked, Bool.eq_iff_iff, beq_iff_eq, decide_eq_true_iff]

/-! ### The requests -/

/-- TABLE STATUS is answered with a request in progress or without (R142, R166). -/
theorem exec_tableStatus (s : State) (tag : Byte) : exec (.tableStatus tag) s =
    .next (s.answered s [.reply .tableStatus tag (.tableStatus s.bankA.summary s.bankB.summary s.active
      (match s.active with | some .a => .b | _ => .a) (s.referencedBank = some s.shadow) s.pendingActivation)]) := by
  rw [← State.shadow_eq, ← State.readLocked_eq_decide]
  rfl

variable {s : State}

theorem exec_berthRead (tag : Byte) (b : BerthId) (h : s.request = none) : exec (.berthRead tag (number b)) s =
    .next (s.answered s [.reply .berthRead tag (.berth (s.berth b))]) := by
  rw [exec, execBerthRead, berthOf_number, inRange_some, State.answer_readOnly _ _ _ h]
  rfl

theorem exec_berthRead_outside (tag : Byte) {n : Byte} (h : s.request = none) (outside : n.toNat = 0 ∨ 4 < n.toNat) :
    exec (.berthRead tag n) s = .next (s.answered s [.reply .berthRead tag (.plain .range)]) := by
  rw [exec, execBerthRead, berthOf, oneBased_of_outside outside, inRange_none, State.answer_readOnly _ _ _ h]

theorem exec_laneRead_keep (tag : Byte) (l : LaneId) {option : Byte} (h : s.request = none)
    (keep : option.getLsbD 0 = false) : exec (.laneRead tag (number l) option) s =
      .next (s.answered s [.reply .laneRead tag (.lane (s.lane l) s.pier)]) := by
  rw [exec, execLaneRead, laneOf_number, inRange_some, takeLaneRead_of_keep l keep, State.answer_readOnly _ _ _ h]
  rfl

theorem exec_laneRead_outside (tag option : Byte) {n : Byte} (h : s.request = none)
    (outside : n.toNat = 0 ∨ 16 < n.toNat) :
    exec (.laneRead tag n option) s = .next (s.answered s [.reply .laneRead tag (.plain .range)]) := by
  rw [exec, execLaneRead, laneOf, oneBased_of_outside outside, inRange_none, State.answer_readOnly _ _ _ h]

theorem exec_journalStatus_keep (tag : Byte) {option : Byte} (h : s.request = none)
    (keep : option.getLsbD 0 = false) : exec (.journalStatus tag option) s =
      .next (s.answered s [.reply .journalStatus tag (.journalStatus s.journal.records.length s.journal.reservations
        (s.journal.records[0]?.map (·.sequence)) s.journal.next s.journal.tally s.journal.batch)]) := by
  rw [exec, execJournalStatus, takeJournalStatus_of_keep keep, State.answer_readOnly _ _ _ h, State.goodFrame_journal]

theorem exec_journalRead (tag k : Byte) (h : s.request = none) : exec (.journalRead tag k) s =
    .next (s.answered s [.reply .journalRead tag
      (if 16 < k.toNat then .plain .range
        else .records (s.journal.records.take (if k = 0 then 16 else k.toNat)))]) := by
  rw [exec, execJournalRead, inRange_readCount, State.answer_readOnly _ _ _ h, State.goodFrame_journal]

theorem exec_settingRead (tag : Byte) (h : s.request = none) : exec (.settingRead tag) s =
    .next (s.answered s [.reply .settingRead tag (.settings s.settings)]) :=
  congrArg Host.Outcome.next (State.answer_readOnly .settingRead tag _ h)

theorem exec_noticeRead (tag : Byte) (h : s.request = none) : exec (.noticeRead tag) s =
    .next (s.answered s [.reply .noticeRead tag (.notices s.flags s.settings.mask)]) :=
  congrArg Host.Outcome.next (State.answer_readOnly .noticeRead tag _ h)

theorem exec_identify (tag : Byte) (h : s.request = none) : exec (.identify tag) s =
    .next (s.answered s [.reply .identify tag (.identity 416 1 s.bankA.version s.bankB.version s.active)]) :=
  congrArg Host.Outcome.next (State.answer_readOnly .identify tag _ h)

end Sys2Proof.Machine

open Sys2Proof Sys2Proof.Machine

/-- Settles O9: each request's equation, TABLE STATUS at any time and the others with no request in progress. -/
theorem readsAnswerAndChangeNothing : Obligations.ReadsAnswerAndChangeNothing :=
  ⟨exec_tableStatus,
    fun _ free b tag => exec_berthRead tag b free,
    fun _ free tag _ outside => exec_berthRead_outside tag free outside,
    fun _ free l tag _ keep => exec_laneRead_keep tag l free keep,
    fun _ free tag _ option outside => exec_laneRead_outside tag option free outside,
    fun _ free tag _ keep => exec_journalStatus_keep tag free keep,
    fun _ free tag k => exec_journalRead tag k free,
    fun _ free tag => ⟨exec_settingRead tag free, exec_noticeRead tag free, exec_identify tag free⟩⟩

end

section
/-! TABLE ACTIVATE (R137 to R139): the swap, whose record may be taken before or after its flag and its pointer are set,
and the checks and the timing that decide between a refusal, the swap and a pending instant. -/

namespace Sys2Proof.Machine

variable (s : State)

/-! ### The Journal and the flags -/

/-- Flags set one after another are set in either order (R168). -/
theorem State.raise_raise (x y : NoticeFlag) : (s.raise x).raise y = (s.raise y).raise x := by
  simp only [State.raise, BitVec.or_assoc, BitVec.or_comm x.mark]

theorem State.raiseIf_raise (x : NoticeFlag) (c : Bool) (y : NoticeFlag) :
    (s.raise x).raiseIf c y = (s.raiseIf c y).raise x := by
  cases c
  · rfl
  · exact s.raise_raise x y

theorem State.record_of_room {s : State} (d : Draft) (room : s.journal.occupancy < Config.journalCapacity) :
    s.record false d = (s.store d).compareMarks s.journal.occupancy := if_pos room

theorem State.record_of_full {s : State} (d : Draft) (full : ¬ s.journal.occupancy < Config.journalCapacity) :
    s.record false d = s.countOverflow d.kind := if_neg full

theorem State.store_raise (x : NoticeFlag) (d : Draft) : (s.raise x).store d = (s.store d).raise x :=
  State.raiseIf_raise { s with journal := { s.journal with
    records := s.journal.records ++ [s.stamp d], next := s.journal.next + 1, batch := s.nextBatch } } x _ _

theorem State.compareMarks_raise (x : NoticeFlag) (n : Nat) :
    (s.raise x).compareMarks n = (s.compareMarks n).raise x := by
  simp only [State.compareMarks, State.raiseIf_raise]
  rfl

/-- An unreserved record is taken alike before and after a flag is set (R144). -/
theorem State.record_raise (x : NoticeFlag) (d : Draft) :
    (s.raise x).record false d = (s.record false d).raise x := by
  by_cases room : s.journal.occupancy < Config.journalCapacity
  · rw [State.record_of_room d room, State.record_of_room (s := s.raise x) d room, State.store_raise,
      State.compareMarks_raise, State.raise_journal]
  · rw [State.record_of_full d room, State.record_of_full (s := s.raise x) d room]
    rfl

/-- The active pointer and the pending activation set, as the swap sets them (R139). -/
def State.pointed (active : Option BankId) (pending : Option Instant) : State :=
  { s with active := active, pendingActivation := pending }

theorem State.raiseIf_pointed (a : Option BankId) (p : Option Instant) (c : Bool) (x : NoticeFlag) :
    (s.pointed a p).raiseIf c x = (s.raiseIf c x).pointed a p := by cases c <;> rfl

theorem State.store_pointed (a : Option BankId) (p : Option Instant) (d : Draft) :
    (s.pointed a p).store d = (s.store d).pointed a p :=
  State.raiseIf_pointed { s with journal := { s.journal with
    records := s.journal.records ++ [s.stamp d], next := s.journal.next + 1, batch := s.nextBatch } } a p _ _

theorem State.compareMarks_pointed (a : Option BankId) (p : Option Instant) (n : Nat) :
    (s.pointed a p).compareMarks n = (s.compareMarks n).pointed a p := by
  simp only [State.compareMarks, State.raiseIf_pointed]
  rfl

/-- The Journal does not look at the Table Store's pointer (R144). -/
theorem State.record_pointed (a : Option BankId) (p : Option Instant) (d : Draft) :
    (s.pointed a p).record false d = (s.record false d).pointed a p := by
  by_cases room : s.journal.occupancy < Config.journalCapacity
  · rw [State.record_of_room d room, State.record_of_room (s := s.pointed a p) d room, State.store_pointed,
      State.compareMarks_pointed]
    rfl
  · rw [State.record_of_full d room, State.record_of_full (s := s.pointed a p) d room]
    rfl

/-! ### The swap (R139) -/

/-- The model sets pointer and flag before it takes the record, the statements after it. -/
theorem State.swap_eq_swapped : s.swap = s.swapped := by
  have order : s.swap =
      ((s.pointed (some s.shadow) none).raise .activationDone).record false (activationDraft s.shadowBank.version) := rfl
  rw [order, State.record_raise, State.record_pointed]
  rfl

/-! ### The checks and the timing (R67, R137) -/

theorem Instant.reachedAt_iff (i : Instant) (day secs : Nat) : i.reachedAt day secs = true ↔ i.dueAt day secs := by
  simp [Instant.reachedAt, Instant.dueAt]

/-- A bank has no valid product when none of its 64 entries is valid. -/
theorem Bank.validProducts_eq_zero_iff (k : Bank) :
    k.validProducts = 0 ↔ ∀ i : Fin 64, k.products[i].valid = false := by
  simp [Bank.validProducts, List.filter_eq_nil_iff, Vector.forall_mem_iff_forall_getElem, Fin.forall_iff]

/-- What makes a shadow INCOMPLETE (R137). -/
theorem Bank.ready_iff (k : Bank) (expected : Nat) : k.ready expected = true ↔
    ¬ (k.cards.length ≠ expected ∨ (∀ i : Fin 64, k.products[i].valid = false) ∨ k.bands = []) := by
  rw [← Bank.validProducts_eq_zero_iff]
  simp [Bank.ready, and_assoc]

/-- Timing 1 is an instant, and its seconds of the day have their range (R137). -/
theorem timingOf_one (day : Half) (secs : Quad) : timingOf 1 day secs =
    if 86399 < secs.toNat then none else some (.at ⟨day.toNat, secs.toNat⟩) := by
  rw [← ite_not]
  simp only [not_lt]
  rfl

/-- A timing code above 1 is out of range (spec/11). -/
theorem timingOf_of_above_one {timing : Byte} (day : Half) (secs : Quad) (code : 1 < timing.toNat) :
    timingOf timing day secs = none := by
  unfold timingOf
  split
  · next now => omega
  · next one => omega
  · rfl

theorem timingOf_zero (day : Half) (secs : Quad) : timingOf 0 day secs = some .now := rfl

theorem timingOf_of_outside {timing : Byte} (day : Half) {secs : Quad}
    (outside : 1 < timing.toNat ∨ (timing = 1 ∧ 86399 < secs.toNat)) : timingOf timing day secs = none := by
  obtain code | ⟨rfl, late⟩ := outside
  · exact timingOf_of_above_one day secs code
  · rw [timingOf_one, if_pos late]

/-- The two timings whose fields are in range (R137). -/
theorem timing_of_inRange {timing : Byte} {secs : Quad}
    (h : ¬ (1 < timing.toNat ∨ (timing = 1 ∧ 86399 < secs.toNat))) :
    timing = 0 ∨ (timing = 1 ∧ ¬ 86399 < secs.toNat) := by
  obtain ⟨code, inDay⟩ := not_or.mp h
  have code_cases : timing = 0 ∨ timing = 1 := by bv_omega
  exact code_cases.imp_right fun one => ⟨one, fun late => inDay ⟨one, late⟩⟩

theorem timingOf_of_inRange {timing : Byte} (day : Half) {secs : Quad}
    (h : ¬ (1 < timing.toNat ∨ (timing = 1 ∧ 86399 < secs.toNat))) : ∃ t, timingOf timing day secs = some t := by
  obtain rfl | ⟨rfl, inDay⟩ := timing_of_inRange h
  · exact ⟨_, timingOf_zero day secs⟩
  · exact ⟨_, (timingOf_one day secs).trans (if_neg inDay)⟩

/-! ### The taking (R137, R138) -/

variable {s : State} (version : Quad) {expected : Half} {timing : Byte} {day : Half} {secs : Quad}

theorem State.takeActivate_of_range (h : timingOf timing day secs = none) :
    s.takeActivate version expected timing day secs = (s, .plain .range) := by
  simp only [State.takeActivate, h]

theorem State.takeActivate_of_incomplete {t : Timing} (h : timingOf timing day secs = some t)
    (unready : ¬ s.shadowBank.ready expected.toNat = true) :
    s.takeActivate version expected timing day secs = (s, .plain .incomplete) := by
  simp only [State.takeActivate, h, if_neg unready]

variable (ready : s.shadowBank.ready expected.toNat = true)
include ready

theorem State.takeActivate_now (h : timingOf timing day secs = some .now) :
    s.takeActivate version expected timing day secs =
      ((s.withShadow { s.shadowBank with version := version }).swapped, .activated true) := by
  simp only [State.takeActivate, h, if_pos ready, State.swap_eq_swapped]

/-- An instant that the set clock has reached is carried out at once, and another becomes pending (R138). -/
theorem State.takeActivate_at {i : Instant} (h : timingOf timing day secs = some (.at i)) :
    s.takeActivate version expected timing day secs =
      let versioned := s.withShadow { s.shadowBank with version := version }
      if s.clock.isSet = true ∧ i.dueAt s.clock.day s.clock.secs then (versioned.swapped, .activated true)
      else ({ versioned with pendingActivation := some i }, .activated false) := by
  simp only [State.takeActivate, h, if_pos ready, State.swap_eq_swapped, Bool.and_eq_true, Instant.reachedAt_iff]

end Sys2Proof.Machine

open Sys2Proof Sys2Proof.Machine

/-- Settles O47: the fields out of range, an incomplete shadow, and the two timings over a ready one. -/
theorem activateSwapsNowOrAtItsInstant : Obligations.ActivateSwapsNowOrAtItsInstant := by
  intro s version expected timing day secs
  change s.takeActivate version expected timing day secs = _
  extract_lets shadow versioned
  by_cases outside : 1 < timing.toNat ∨ (timing = 1 ∧ 86399 < secs.toNat)
  · rw [if_pos outside]
    exact State.takeActivate_of_range version (timingOf_of_outside day outside)
  rw [if_neg outside]
  by_cases incomplete : shadow.cards.length ≠ expected.toNat ∨ (∀ i : Fin 64, shadow.products[i].valid = false) ∨
      shadow.bands = []
  · rw [if_pos incomplete]
    obtain ⟨t, inRange⟩ := timingOf_of_inRange day outside
    exact State.takeActivate_of_incomplete version inRange fun ready => (Bank.ready_iff _ _).mp ready incomplete
  rw [if_neg incomplete]
  have ready : s.shadowBank.ready expected.toNat = true := (Bank.ready_iff _ _).mpr incomplete
  obtain rfl | ⟨rfl, inDay⟩ := timing_of_inRange outside
  · rw [if_pos (.inl rfl)]
    exact State.takeActivate_now version ready (timingOf_zero day secs)
  · have not_now : ¬ (1 : Byte) = 0 := by decide
    simp only [not_now, false_or]
    exact State.takeActivate_at version ready ((timingOf_one day secs).trans (if_neg inDay))

end

section
/-! What the depot clears (R40, R151, R152, R169). Each owner raises no flag, so its request ends without a NOTICE and
each is one use of `State.answer_of_no_new_flag`. -/

namespace Sys2Proof.Machine

/-! ### Owners that raise no flag -/

theorem noticeFor_of_no_new_flag {u : State} {before : Half} (quiet : u.flags &&& ~~~before = 0) :
    noticeFor before u = [] := by
  simp [noticeFor, quiet]

/-- A request whose owner raises no flag is answered by its reply alone (R167, R168). -/
theorem State.answer_of_no_new_flag {s u : State} {kind : RequestKind} (tag : Byte) {owner : State → State × ReplyBody}
    {body : ReplyBody} (h : s.request = none) (taken : owner s.goodFrame = (s.answered u [], body))
    (quiet : u.flags &&& ~~~s.flags = 0) : s.answer kind tag owner = s.answered u [.reply kind tag body] := by
  have silent : noticeFor s.flags (s.answered u []) = [] := noticeFor_of_no_new_flag quiet
  rw [State.answer_of_free kind tag owner h]
  simp only [taken, silent]
  simp [State.answered]

theorem State.answered_nil (s u : State) :
    s.answered u [] = { u with depotLost := false, silenceTimer := s.silenceLoaded, depotOut := s.depotOut } := by
  rw [State.answered, List.append_nil]

theorem State.answered_self_nil (s : State) : s.answered s [] = s.goodFrame := State.answered_nil s s

variable {s : State}

/-! ### NOTICE CLEAR (R169) -/

theorem exec_noticeClear (tag : Byte) (named : Half) (h : s.request = none) : exec (.noticeClear tag named) s =
    .next (s.answered { s with flags := s.flags &&& ~~~named }
      [.reply .noticeClear tag (.cleared (s.flags &&& ~~~named))]) := by
  have taken : takeNoticeClear named s.goodFrame =
      (s.answered { s with flags := s.flags &&& ~~~named } [], .cleared (s.flags &&& ~~~named)) := by
    rw [State.answered_nil]
    rfl
  have sets_none : s.flags &&& ~~~named &&& ~~~s.flags = 0 :=
    calc s.flags &&& ~~~named &&& ~~~s.flags
      _ = s.flags &&& ~~~s.flags &&& ~~~named := by ac_rfl
      _ = 0#16 &&& ~~~named := congrArg (· &&& ~~~named) (BitVec.and_not_self s.flags)
      _ = 0 := BitVec.zero_and
  exact congrArg Host.Outcome.next (State.answer_of_no_new_flag tag h taken sets_none)

/-! ### The clear options of LANE READ and JOURNAL STATUS (R40, R152) -/

/-- The clear option of LANE READ leaves the reply as the lane stood before it (R40). -/
theorem takeLaneRead_of_clear {option : Byte} (l : LaneId) (clear : option.getLsbD 0 = true) (s : State) :
    takeLaneRead option l s = (s.onLane l Lane.clearCounters, .lane (s.lane l) s.pier) := by
  rw [takeLaneRead, clearAsked, if_pos clear]

/-- The clear option of JOURNAL STATUS leaves the reply as the tally stood before it (R152). -/
theorem takeJournalStatus_of_clear {option : Byte} (clear : option.getLsbD 0 = true) (s : State) :
    takeJournalStatus option s = ({ s with journal := { s.journal with tally := .replicate 10 0 } },
      .journalStatus s.journal.records.length s.journal.reservations (s.journal.records[0]?.map (·.sequence))
        s.journal.next s.journal.tally s.journal.batch) := by
  rw [takeJournalStatus, clearAsked, if_pos clear, List.head?_eq_getElem?]

theorem exec_laneRead_clear (tag : Byte) (l : LaneId) {option : Byte} (h : s.request = none)
    (clear : option.getLsbD 0 = true) : exec (.laneRead tag (number l) option) s = .next (s.answered
      (s.withLane l { s.lane l with counters := ⟨0, 0, 0, 0, 0, 0, 0, 0⟩, lastReset := .none })
      [.reply .laneRead tag (.lane (s.lane l) s.pier)]) := by
  rw [exec, execLaneRead, laneOf_number, inRange_some]
  refine congrArg Host.Outcome.next (State.answer_of_no_new_flag tag h ?_ (BitVec.and_not_self s.flags))
  rw [takeLaneRead_of_clear l clear, State.answered_nil]
  rfl

theorem exec_journalStatus_clear (tag : Byte) {option : Byte} (h : s.request = none)
    (clear : option.getLsbD 0 = true) : exec (.journalStatus tag option) s = .next (s.answered
      { s with journal := { s.journal with tally := .replicate 10 0 } }
      [.reply .journalStatus tag (.journalStatus s.journal.records.length s.journal.reservations
        (s.journal.records[0]?.map (·.sequence)) s.journal.next s.journal.tally s.journal.batch)]) := by
  refine congrArg Host.Outcome.next (State.answer_of_no_new_flag tag h ?_ (BitVec.and_not_self s.flags))
  rw [takeJournalStatus_of_clear clear, State.answered_nil]
  rfl

/-! ### JOURNAL RELEASE (R151) -/

theorem Journal.releaseCount_of_empty {j : Journal} (n : Quad) (empty : j.records = []) : j.releaseCount n = none := by
  rw [Journal.releaseCount, empty, List.head?_nil]

/-- The window of R151: the number's distance from the oldest record's, modulo 4294967296, is below the count. -/
theorem Journal.releaseCount_of_oldest {j : Journal} {oldest : Record} (n : Quad) (first : j.records[0]? = some oldest) :
    j.releaseCount n = if (n - oldest.sequence).toNat < j.records.length
      then some ((n - oldest.sequence).toNat + 1) else none := by
  rw [Journal.releaseCount, List.head?_eq_getElem?, first]

theorem takeJournalRelease_of_none {s : State} {n : Quad} (outside : s.journal.releaseCount n = none) :
    takeJournalRelease n s = (s, .plain .range) := by
  simp only [takeJournalRelease, outside]

theorem takeJournalRelease_of_some {s : State} {n : Quad} {k : Nat} (inside : s.journal.releaseCount n = some k) :
    takeJournalRelease n s =
      ({ s with journal := { s.journal with records := s.journal.records.drop k } }, .released k) := by
  simp only [takeJournalRelease, inside]

/-- A number outside the window is answered RANGE. -/
theorem exec_journalRelease_of_none (tag : Byte) {n : Quad} (h : s.request = none)
    (outside : s.journal.releaseCount n = none) : exec (.journalRelease tag n) s =
      .next (s.answered s [.reply .journalRelease tag (.plain .range)]) := by
  refine congrArg Host.Outcome.next (State.answer_of_no_new_flag tag h ?_ (BitVec.and_not_self s.flags))
  rw [takeJournalRelease_of_none (s := s.goodFrame) outside, State.answered_self_nil]

/-- A number inside the window removes the records it counts from the oldest end. -/
theorem exec_journalRelease_of_some (tag : Byte) {n : Quad} {k : Nat} (h : s.request = none)
    (inside : s.journal.releaseCount n = some k) : exec (.journalRelease tag n) s = .next (s.answered
      { s with journal := { s.journal with records := s.journal.records.drop k } }
      [.reply .journalRelease tag (.released k)]) := by
  refine congrArg Host.Outcome.next (State.answer_of_no_new_flag tag h ?_ (BitVec.and_not_self s.flags))
  rw [takeJournalRelease_of_some (s := s.goodFrame) inside, State.answered_nil]
  rfl

end Sys2Proof.Machine

open Sys2Proof Sys2Proof.Machine

/-- Settles O14: each request's equation, JOURNAL RELEASE by whether its number lies in the window. -/
theorem theDepotClearsOnlyWhatItNames : Obligations.TheDepotClearsOnlyWhatItNames := by
  refine ⟨⟨fun s free tag named => exec_noticeClear tag named free,
    fun s free l tag _ clear => exec_laneRead_clear tag l free clear,
    fun s free tag _ clear => exec_journalStatus_clear tag free clear⟩,
    fun s free tag n empty => exec_journalRelease_of_none tag free (Journal.releaseCount_of_empty n empty),
    fun s free oldest first tag n => ?_⟩
  have window := Journal.releaseCount_of_oldest n first
  extract_lets k
  by_cases inside : k < s.journal.records.length
  · rw [if_pos inside]
    exact exec_journalRelease_of_some tag free (window.trans (if_pos inside))
  · rw [if_neg inside]
    exact exec_journalRelease_of_none tag free (window.trans (if_neg inside))

end

section
/-! The output events (R158) and LINE READ (R159), which answers from them after its own frame has ended the silence
(R170). -/

namespace Sys2Proof.Machine

/-! ### The output events of a berth (R158) -/

/-- The berths' events stand in rows of four below event 12. -/
theorem val_berthEvent (b : BerthId) {row : Nat} (h : row ≤ 8) : (Fin.ofNat 18 (b.val + row)).val = b.val + row :=
  Nat.mod_eq_of_lt (by omega)

theorem BerthState.takesPassengers_eq_decide (x : BerthState) :
    x.takesPassengers = decide (x = .boarding ∨ x = .full) := by
  cases x <;> rfl

variable (s : State)

theorem State.outputActive_full (b : BerthId) :
    s.outputActive (Fin.ofNat 18 b.val) = decide ((s.berth b).state = .full) := by
  have event : (Fin.ofNat 18 b.val).val = b.val := val_berthEvent b (Nat.zero_le 8)
  have first_row : b.val < 4 := b.isLt
  simp only [State.outputActive, event, dif_pos first_row, beq_eq_decide]

theorem State.outputActive_takesPassengers (b : BerthId) : s.outputActive (Fin.ofNat 18 (b.val + 4)) =
    decide ((s.berth b).state = .boarding ∨ (s.berth b).state = .full) := by
  have event := val_berthEvent b (row := 4) (by decide)
  have not_first : ¬ b.val + 4 < 4 := by omega
  have second_row : b.val + 4 < 8 := by omega
  simp only [State.outputActive, event, dif_neg not_first, dif_pos second_row, Nat.add_sub_cancel]
  exact BerthState.takesPassengers_eq_decide _

theorem State.outputActive_lastCall (b : BerthId) :
    s.outputActive (Fin.ofNat 18 (b.val + 8)) = (s.berth b).lastCall := by
  have event := val_berthEvent b (row := 8) (by decide)
  have not_first : ¬ b.val + 8 < 4 := by omega
  have not_second : ¬ b.val + 8 < 8 := by omega
  have third_row : b.val + 8 < 12 := by omega
  simp only [State.outputActive, event, dif_neg not_first, dif_neg not_second, dif_pos third_row, Nat.add_sub_cancel]

/-! ### The output events of the device (R158) -/

/-- Out of service is the one event of the device that is no field of the state. -/
theorem State.outOfService_eq_decide :
    s.outOfService = decide (s.active = none ∨ s.clock.isSet = false ∨ s.settings.pierNumber = 0) := by
  rw [State.outOfService, Bool.eq_iff_iff]
  simp [or_assoc]

/-! ### LINE READ (R159) -/

/-- Of what a good frame changes, a line's report follows the silence state alone, by output event 14 (R158, R170). -/
theorem State.lineReport_goodFrame : s.goodFrame.lineReport = ({ s with depotLost := false }).lineReport := rfl

/-- LINE READ is a read of every line's report once its own frame has ended the silence. -/
theorem exec_lineRead {s : State} (tag : Byte) (h : s.request = none) : exec (.lineRead tag) s =
    .next (s.answered s [.reply .lineRead tag (.lines (allLines.map ({ s with depotLost := false }).lineReport))]) := by
  rw [exec, execLineRead, State.answer_readOnly _ _ _ h, State.lineReport_goodFrame]

end Sys2Proof.Machine

open Sys2Proof Sys2Proof.Machine

/-- Settles O10: the read of the lines' reports, which the statement writes out, and the table of events, a row of
berths' events or an event of the device at a time. -/
theorem lineReadAnswersEveryLine : Obligations.LineReadAnswersEveryLine :=
  ⟨fun _ free tag => exec_lineRead tag free, fun s =>
    ⟨fun b => ⟨s.outputActive_full b, s.outputActive_takesPassengers b, s.outputActive_lastCall b⟩,
      rfl, rfl, rfl, rfl, s.outOfService_eq_decide, rfl⟩⟩

end

section
/-! What an event's work at the units can change at all: the primitive acts of the lane, berth, recovery, engine and
journal operations, and each operation of the model as a chain of them. An invariant that every primitive act keeps is
then kept by every operation. -/

namespace Sys2Proof.Machine

/-! ### The slots keep their law (R4, R5, R8) -/

theorem Link.lawful_placeCardWrite {k : Link} (h : k.lawful = true) (tag : Byte) (card : CardNo) (image : NewImage) :
    (k.placeCardWrite tag card image).lawful = true := by
  obtain ⟨_ | ⟨_ | _, sent, stale⟩, _ | _ | _, display, misses, own, acked⟩ := k <;>
    simp_all [Link.lawful, Link.placeCardWrite, CommandFrame.isCardWrite, CommandSlot.unsent]

theorem Link.lawful_placeGate {k : Link} (h : k.lawful = true) (carried : Bool) :
    (k.placeGate carried).lawful = true := by
  obtain ⟨_ | ⟨_ | _, _ | _, stale⟩, _ | _ | _, display, misses, own, acked⟩ := k <;> cases carried <;>
    simp_all [Link.lawful, Link.placeGate, CommandFrame.isCardWrite, CommandSlot.unsent]

theorem Link.lawful_emptySlots {k : Link} (h : k.lawful = true) : k.emptySlots.lawful = true := by
  simp_all [Link.lawful, Link.emptySlots]

theorem Link.lawful_markSent {k : Link} (h : k.lawful = true) (c : Carried) : (k.markSent c).lawful = true := by
  obtain ⟨_ | ⟨frame, sent, stale⟩, _ | _, display, misses, own, acked⟩ := k <;> cases c <;>
    simp_all [Link.lawful, Link.markSent]

theorem Link.lawful_acknowledge {k : Link} (h : k.lawful = true) (c : Carried) : (k.acknowledge c).lawful = true := by
  obtain ⟨_ | ⟨frame, sent, stale⟩, _ | _, _ | ⟨code, shown⟩, misses, own, acked⟩ := k <;> cases c <;>
    simp_all [Link.lawful, Link.acknowledge, CommandSlot.unsent] <;> grind

/-- A miss takes the stale mark away, and the miss count stops at 8 (R8, R11). -/
theorem Link.lawful_missed {k : Link} (h : k.lawful = true) (n : Nat) :
    ({ k.missed with misses := saturate 8 n 1 } : Link).lawful = true := by
  obtain ⟨_ | ⟨frame, sent, stale⟩, _ | _, display, misses, own, acked⟩ := k <;>
    simp_all [Link.lawful, Link.missed, saturate]

theorem Link.lawful_noMisses {k : Link} (h : k.lawful = true) : ({ k with misses := 0 } : Link).lawful = true := by
  simp_all [Link.lawful]

/-! ### The primitive acts -/

/-- Two states of a lane agree in all that its gate order follows, and in the order (R19). -/
def Lane.SameGate (x y : Lane) : Prop := y.mode = x.mode ∧ y.leaf = x.leaf ∧ y.gateOrder = x.gateOrder

theorem Lane.SameGate.refl (x : Lane) : x.SameGate x := ⟨rfl, rfl, rfl⟩

theorem Lane.SameGate.trans {x y z : Lane} (h : x.SameGate y) (k : y.SameGate z) : x.SameGate z :=
  ⟨k.1.trans h.1, k.2.1.trans h.2.1, k.2.2.trans h.2.2⟩

/-- One primitive act at the units: a lane changed with its slots kept lawful and, but at the `gated` lanes, with its gate
as it was; a berth with its halt flag kept; a record or a reservation taken; a flag set; or the engine, the recovery list,
the pier counts or the counter of free values. -/
inductive State.Act (gated : LaneId → Prop) : State → State → Prop
  | lane (s : State) (l : LaneId) (f : Lane → Lane)
      (slots : (s.lane l).link.lawful = true → (f (s.lane l)).link.lawful = true)
      (gate : ¬ gated l → (s.lane l).SameGate (f (s.lane l))) : Act gated s (s.onLane l f)
  | berth (s : State) (b : BerthId) (f : Berth → Berth) (halt : (f (s.berth b)).halted = (s.berth b).halted) :
      Act gated s (s.onBerth b f)
  | record (s : State) (reserved : Bool) (d : Draft) : Act gated s (s.record reserved d)
  | reserve (s : State) : Act gated s s.reserve
  | raise (s : State) (x : NoticeFlag) : Act gated s (s.raise x)
  | pier (s : State) (p : PierCounts) : Act gated s { s with pier := p }
  | recovery (s : State) (es : List RecoveryEntry) : Act gated s { s with recovery := es }
  | free (s : State) : Act gated s { s with engine := none }
  | goOn (s : State) (v : Validation) (next : Stage) (bank : s.referencedBank = v.bank) : Act gated s (s.goOn v next)
  | countFree (s : State) (used : Bool) : Act gated s (s.countFree used)

/-- A chain of primitive acts. -/
abbrev State.Works (gated : LaneId → Prop) : State → State → Prop := Relation.ReflTransGen (State.Act gated)

namespace State

variable (s : State) {gated : LaneId → Prop}

/-- The same work at one lane after another. -/
theorem works_foldl {α : Type} {act : State → α → State} (work : ∀ (t : State) x, t.Works gated (act t x)) (xs : List α) :
    s.Works gated (xs.foldl act s) := by
  induction xs generalizing s with
  | nil => exact .refl
  | cons x xs ih => exact (work s x).trans (ih _)

theorem works_eachLane {act : State → LaneId → State} (work : ∀ (t : State) l, t.Works gated (act t l)) : s.Works gated (s.eachLane act) :=
  s.works_foldl work allLanes

theorem works_iterate {act : State → State} (work : ∀ t : State, t.Works gated (act t)) (n : Nat) : s.Works gated (act^[n] s) := by
  induction n generalizing s with
  | zero => exact .refl
  | succ n ih => exact (work s).trans (ih _)

/-! ### The Journal, the flags and the berths -/

/-- A change of a lane that leaves its gate as it is. -/
theorem works_onLane (l : LaneId) (f : Lane → Lane)
    (slots : (s.lane l).link.lawful = true → (f (s.lane l)).link.lawful = true)
    (gate : (s.lane l).SameGate (f (s.lane l)) := by exact ⟨rfl, rfl, rfl⟩) : s.Works gated (s.onLane l f) :=
  .single (.lane s l f slots fun _ => gate)

/-- A change of a lane that leaves its link and its gate as they are. -/
theorem works_onLane_of_link (l : LaneId) (f : Lane → Lane) (link : (f (s.lane l)).link = (s.lane l).link)
    (gate : (s.lane l).SameGate (f (s.lane l)) := by exact ⟨rfl, rfl, rfl⟩) : s.Works gated (s.onLane l f) :=
  s.works_onLane l f (fun h => link ▸ h) gate

/-- A change of a lane's gate. -/
theorem works_onLane_gate {l : LaneId} (own : gated l) (f : Lane → Lane)
    (slots : (s.lane l).link.lawful = true → (f (s.lane l)).link.lawful = true) : s.Works gated (s.onLane l f) :=
  .single (.lane s l f slots fun other => absurd own other)

theorem works_onCounters (l : LaneId) (f : LaneCounters → LaneCounters) : s.Works gated (s.onCounters l f) :=
  s.works_onLane_of_link l _ rfl

theorem works_endTransaction (l : LaneId) : s.Works gated (s.endTransaction l) := s.works_onLane_of_link l _ rfl

theorem works_record (reserved : Bool) (d : Draft) : s.Works gated (s.record reserved d) := .single (.record s reserved d)

theorem works_raise (x : NoticeFlag) : s.Works gated (s.raise x) := .single (.raise s x)

theorem works_raiseIf (c : Bool) (x : NoticeFlag) : s.Works gated (s.raiseIf c x) := by
  cases c
  · exact .refl
  · exact s.works_raise x

end State

theorem Berth.follow_halted (b : Berth) : b.follow.halted = b.halted := by
  unfold Berth.follow
  split_ifs <;> rfl

namespace State

variable (s : State) {gated : LaneId → Prop}

theorem works_atBerth (b : BerthId) (f : Berth → Berth) (halt : (f (s.berth b)).halted = (s.berth b).halted) :
    s.Works gated (s.atBerth b f) :=
  (Relation.ReflTransGen.single (.berth s b _ ((Berth.follow_halted _).trans halt))).trans (works_raiseIf _ _ _)

theorem works_hold (b : BerthId) (n : Nat) : s.Works gated (s.hold b n) := s.works_atBerth b _ rfl

theorem works_countHoldRefusal (b : BerthId) : s.Works gated (s.countHoldRefusal b) :=
  .single (.berth s b _ (by split_ifs <;> rfl))

theorem works_convert (b : BerthId) (n charge : Nat) : s.Works gated (s.convert b n charge) :=
  s.works_atBerth b _ (by split_ifs <;> rfl)

theorem works_release (b : BerthId) (n : Nat) : s.Works gated (s.release b n) :=
  s.works_atBerth b _ (by split_ifs <;> rfl)

theorem works_pass (b : BerthId) : s.Works gated (s.pass b) := s.works_atBerth b _ (by split_ifs <;> rfl)

theorem works_reverse (b : BerthId) : s.Works gated (s.reverse b) := s.works_atBerth b _ (by split_ifs <;> rfl)

theorem works_unpaid (b : BerthId) : s.Works gated (s.unpaid b) := s.works_atBerth b _ (by split_ifs <;> rfl)

theorem works_forfeitPlaces (b : BerthId) (n : Nat) : s.Works gated (s.forfeitPlaces b n) :=
  s.works_atBerth b _ (by split_ifs <;> rfl)

theorem works_tally (b : BerthId) : s.Works gated (s.tally b) := s.works_atBerth b _ (by split_ifs <;> rfl)

/-- Steps 4 and 5 of the turnover leave the halt flag to the lines (R110, R121). -/
theorem works_finishTurnover (b : BerthId) : s.Works gated (s.finishTurnover b) :=
  ((Relation.ReflTransGen.single (.berth s b _ rfl)).trans (works_record _ _ _)).trans (.single (.berth _ b _ rfl))

/-! ### The slots and the gate orders -/

theorem works_askGate (l : LaneId) : s.Works gated (s.askGate l) := by
  unfold askGate
  split
  · exact s.works_onLane l _ fun h => Link.lawful_placeGate h _
  · exact .refl

theorem works_askShow (l : LaneId) (code : DisplayCode) : s.Works gated (s.askShow l code) := by
  unfold askShow
  split
  · exact s.works_onLane l _ id
  · exact .refl

theorem works_askCardWrite (l : LaneId) (card : CardNo) (image : NewImage) : s.Works gated (s.askCardWrite l card image) := by
  unfold askCardWrite
  split
  · exact s.works_onLane l _ fun h => Link.lawful_placeCardWrite h _ _ _
  · exact .refl

theorem works_renewGate {l : LaneId} (own : gated l) : s.Works gated (s.renewGate l) :=
  (s.works_onLane_gate own _ id).trans (works_askGate _ l)

theorem works_reworkGate {l : LaneId} (own : gated l) : s.Works gated (s.reworkGate l) := by
  unfold reworkGate
  split
  · exact .refl
  · exact s.works_renewGate own

theorem works_showFreeExit (l : LaneId) : s.Works gated (s.showFreeExit l) := by
  unfold showFreeExit
  split
  · exact s.works_askShow l _
  · exact .refl

/-! ### The recovery list -/

theorem works_removeEntry (card : CardNo) : s.Works gated (s.removeEntry card) := .single (.recovery s _)

theorem works_closeEntry (release : Bool) (e : RecoveryEntry) : s.Works gated (s.closeEntry release e) :=
  (((s.works_release _ _).trans (works_record _ _ _)).trans (works_raise _ _)).trans (works_removeEntry _ _)

theorem works_closeEntries (release : Bool) (which : RecoveryEntry → Bool) : s.Works gated (s.closeEntries release which) :=
  s.works_foldl (fun t e => t.works_closeEntry release e) _

theorem works_makeWay (card : CardNo) : s.Works gated (s.makeWay card) := by
  unfold makeWay
  split
  · exact s.works_closeEntry _ _
  · split
    · split
      · exact s.works_closeEntry _ _
      · exact .refl
    · exact .refl

theorem works_handOver (l : LaneId) (card : CardNo) (w : CardWrite) : s.Works gated (s.handOver l card w) :=
  (s.works_makeWay card).tail (.recovery _ _)

/-! ### The lane units -/

theorem works_forfeit (l : LaneId) (n : Nat) (release : Bool) : s.Works gated (s.forfeit l n release) := by
  unfold forfeit
  refine Relation.ReflTransGen.trans ?_ ((works_onCounters _ l _).trans (works_record _ _ _))
  split
  · exact s.works_forfeitPlaces _ n
  · exact .refl

theorem works_forfeitAll {l : LaneId} (own : gated l) (release : Bool) : s.Works gated (s.forfeitAll l release) := by
  unfold forfeitAll
  split
  · exact .refl
  · exact (s.works_onLane_gate own _ id).trans (works_forfeit _ l _ release)

theorem works_grantCredits {l : LaneId} (own : gated l) (n : Nat) : s.Works gated (s.grantCredits l n) := by
  unfold grantCredits
  split
  · exact (s.works_onCounters l _).trans (works_forfeit _ l n false)
  · exact (((s.works_onCounters l _).trans (works_onLane_gate _ own _ id)).trans (works_askShow _ l _)).trans
      (works_reworkGate _ own)

theorem works_takeTap (l : LaneId) (image : CardImage) : s.Works gated (s.takeTap l image) := by
  unfold takeTap
  split
  · exact (s.works_onCounters l _).trans (works_onLane _ l _ id)
  · exact (s.works_onCounters l _).trans (works_askShow _ l _)

theorem works_countUnpaid (l : LaneId) : s.Works gated (s.countUnpaid l) := (s.works_onCounters l _).trans (works_raise _ _)

theorem works_passInward {l : LaneId} (own : gated l) : s.Works gated (s.passInward l) := by
  unfold passInward
  split
  · split
    · exact ((s.works_unpaid _).trans (works_countUnpaid _ l)).trans (works_record _ _ _)
    · refine (s.works_onLane_gate own _ fun h => ?_).trans (works_pass _ _)
      unfold Lane.useCredit
      split_ifs <;> exact h
  · exact (Relation.ReflTransGen.single (.pier s _)).trans (works_countUnpaid _ l)
  · exact (Relation.ReflTransGen.single (.pier s _)).trans (works_countUnpaid _ l)
  · exact .refl

theorem works_passOutward (l : LaneId) : s.Works gated (s.passOutward l) := by
  unfold passOutward
  split
  · exact s.works_reverse _
  · exact .single (.pier s _)
  · exact .single (.pier s _)
  · exact .refl

theorem works_takePassage {l : LaneId} (own : gated l) (inward outward : Nat) : s.Works gated (s.takePassage l inward outward) := by
  unfold takePassage
  split
  · exact s.works_onCounters l _
  · exact (((s.works_onCounters l _).trans (works_iterate _ (fun t => t.works_passInward own) _)).trans
      (works_iterate _ (fun t => t.works_passOutward l) _)).trans (works_reworkGate _ own)

theorem works_orphan (l : LaneId) : s.Works gated (s.orphan l) := by
  unfold orphan
  split
  · split
    · exact .refl
    · exact (s.works_release _ _).trans (works_onLane_of_link _ l _ rfl)
  · exact .refl

theorem works_writeDone {l : LaneId} (own : gated l) (image : CardImage) (w : CardWrite) : s.Works gated (s.writeDone l image w) := by
  unfold writeDone
  split
  · exact (s.works_record _ _).trans (works_endTransaction _ l)
  · exact (((s.works_convert _ _ _).trans (works_record _ _ _)).trans (works_endTransaction _ l)).trans
      (works_grantCredits _ own _)

theorem works_writeFailed (l : LaneId) (image : CardImage) (w : CardWrite) : s.Works gated (s.writeFailed l image w) := by
  unfold writeFailed
  split
  · exact (s.works_record _ _).trans (works_endTransaction _ l)
  · exact (((s.works_release _ _).trans (works_record _ _ _)).trans (works_endTransaction _ l)).trans
      (works_askShow _ l _)

theorem works_writeUncertain (l : LaneId) (image : CardImage) (w : CardWrite) :
    s.Works gated (s.writeUncertain l image w) := by
  unfold writeUncertain
  split
  · exact (s.works_record _ _).trans (works_endTransaction _ l)
  · exact ((s.works_handOver l _ w).trans (works_endTransaction _ l)).trans (works_askShow _ l _)

theorem works_takeWriteResult {l : LaneId} (own : gated l) (tag : Byte) (card : CardNo) (outcome : WriteOutcome) :
    s.Works gated (s.takeWriteResult l tag card outcome) := by
  unfold takeWriteResult
  split
  · split
    · split
      · exact s.works_writeDone own _ _
      · exact s.works_writeFailed l _ _
      · exact s.works_writeUncertain l _ _
    · exact .refl
  · exact .refl

theorem works_abandon (l : LaneId) : s.Works gated (s.abandon l) := by
  unfold abandon
  split
  · split
    · exact .single (.free s)
    · exact .refl
  · exact .refl

theorem works_resetTransaction (l : LaneId) (reason : ResetReason) : s.Works gated (s.resetTransaction l reason) := by
  unfold resetTransaction
  split
  · exact .refl
  · exact .refl
  · exact s.works_abandon l
  · split
    · exact s.works_record _ _
    · split
      · exact (s.works_release _ _).trans (works_record _ _ _)
      · exact s.works_handOver l _ _

theorem works_laneReset {l : LaneId} (own : gated l) (reason : ResetReason) : s.Works gated (s.laneReset l reason) :=
  (((((s.works_resetTransaction l reason).trans (works_endTransaction _ l)).trans (works_forfeitAll _ own false)).trans
    (works_onLane_gate _ own _ fun h => Link.lawful_emptySlots h)).trans (works_renewGate _ own)).trans (works_showFreeExit _ l)

theorem works_takeLeafFault {l : LaneId} (own : gated l) : s.Works gated (s.takeLeafFault l) := by
  unfold takeLeafFault
  split
  · exact .refl
  · exact (((s.works_forfeitAll own false).trans (works_onLane_gate _ own _ id)).trans (works_raise _ _)).trans
      (works_reworkGate _ own)

theorem works_takeLeafClear {l : LaneId} (own : gated l) : s.Works gated (s.takeLeafClear l) := by
  unfold takeLeafClear
  split
  · exact (s.works_onLane_gate own _ id).trans (works_renewGate _ own)
  · exact .refl

theorem works_takeStatus {l : LaneId} (own : gated l) (c : LaneCondition) : s.Works gated (s.takeStatus l c) := by
  cases c
  · exact s.works_takeLeafFault own
  · exact s.works_takeLeafClear own
  · exact s.works_laneReset own _

theorem works_takeReport {l : LaneId} (own : gated l) (r : Report) : s.Works gated (s.takeReport l r) := by
  cases r
  · exact .refl
  · exact s.works_takeTap l _
  · exact s.works_takeWriteResult own _ _ _
  · exact s.works_takePassage own _ _
  · exact s.works_takeStatus own _

/-! ### The ends of a turn -/

theorem works_bringOnline {l : LaneId} (own : gated l) : s.Works gated (s.bringOnline l) :=
  ((s.works_onLane_gate own _ id).trans (works_renewGate _ own)).trans (works_showFreeExit _ l)

theorem works_acknowledge (l : LaneId) (c : Carried) : s.Works gated (s.acknowledge l c) :=
  s.works_onLane l (fun x => { x with link := { x.link.acknowledge c with misses := 0 } }) fun h =>
    Link.lawful_noMisses (Link.lawful_acknowledge h c)

theorem works_noteReport (l : LaneId) (n : Byte) : s.Works gated (s.noteReport l n) :=
  s.works_onLane l (fun x => { x with link := { x.link with acked := some n } }) id

theorem works_goodAnswer {t : Turn} (own : gated t.lane) (n : Byte) (r : Report) : s.Works gated (s.goodAnswer t n r) := by
  have online : s.Works gated (if (s.lane t.lane).status = .offline then (s.acknowledge t.lane t.carried).bringOnline t.lane
      else s.acknowledge t.lane t.carried) := by
    split
    · exact (s.works_acknowledge _ _).trans (works_bringOnline _ own)
    · exact s.works_acknowledge _ _
  unfold goodAnswer
  dsimp only
  split
  · split
    · exact s.works_noteReport _ _
    · exact .refl
  · split
    · exact (online.trans (works_noteReport _ _ _)).trans (works_takeReport _ own _)
    · exact online

theorem works_goOffline {l : LaneId} (own : gated l) : s.Works gated (s.goOffline l) :=
  ((s.works_onLane_of_link l _ rfl).trans (works_raise _ _)).trans (works_laneReset _ own _)

theorem works_missedTurn {t : Turn} (own : gated t.lane) : s.Works gated (s.missedTurn t) := by
  have counted : s.Works gated (s.onLane t.lane Lane.countMiss) := s.works_onLane _ _ fun h => Link.lawful_missed h _
  unfold missedTurn
  dsimp only
  split
  · exact .refl
  · split
    · exact counted.trans (works_goOffline _ own)
    · exact counted

theorem works_endTurn {t : Turn} (own : gated t.lane) (bytes : List Byte) : s.Works gated (s.endTurn t bytes) := by
  unfold endTurn
  split
  · exact s.works_goodAnswer own _ _
  · exact s.works_missedTurn own

/-! ### The engine -/

theorem works_freeEngine (watch : Bool) : s.Works gated (s.freeEngine watch) :=
  (Relation.ReflTransGen.single (.free s)).trans (works_raiseIf _ _ _)

theorem works_takeRefusal (l : LaneId) (code : RefusalCode) : s.Works gated (s.takeRefusal l code) :=
  ((s.works_endTransaction l).trans (works_onCounters _ l _)).trans (works_askShow _ l _)

theorem works_refuse (v : Validation) (e : Option RecoveryEntry) (code : RefusalCode) : s.Works gated (s.refuse v e code) :=
  ((s.works_record _ _).trans (works_takeRefusal _ _ _)).trans (works_freeEngine _ _)

theorem works_takeAdmission (l : LaneId) (image : CardImage) (w : CardWrite) : s.Works gated (s.takeAdmission l image w) :=
  (s.works_onLane_of_link l _ rfl).trans (works_askCardWrite _ l _ _)

theorem works_took {v : Validation} (own : gated v.lane) (e : RecoveryEntry) : s.Works gated (s.took v e) :=
  (((((s.works_convert _ _ _).trans (works_record _ _ _)).trans (works_removeEntry _ _)).trans
    (works_endTransaction _ _)).trans (works_grantCredits _ own _)).trans (works_freeEngine _ _)

theorem works_retry (v : Validation) (e : RecoveryEntry) : s.Works gated (s.retry v e) :=
  ((s.works_removeEntry _).trans (works_takeAdmission _ _ _ _)).trans (works_freeEngine _ _)

theorem works_admission (v : Validation) (p : Product) (charge : Nat) (image : NewImage) :
    s.Works gated (s.admission v p charge image) := by
  refine Relation.ReflTransGen.trans ?_ ((works_takeAdmission _ _ _ _).trans (works_freeEngine _ _))
  refine (s.works_hold v.berth p.riders).trans ?_
  split
  · exact .single (.reserve _)
  · exact .refl

end State
end Sys2Proof.Machine
end

section
/-! What the work at the units leaves as it is, and what it keeps: a chain of primitive acts touches no table, clock, line
or setting and sends nothing, sets flags and clears none, and keeps the slots' law and the numbers of the journal. -/

namespace Sys2Proof.Machine

/-! ### The Journal's operations leave every other unit alone -/

section Journal

variable (s : State)

@[simp] theorem State.record_lastPolled (r : Bool) (d : Draft) : (s.record r d).lastPolled = s.lastPolled := by rw [State.record_shape]
@[simp] theorem State.record_turn (r : Bool) (d : Draft) : (s.record r d).turn = s.turn := by rw [State.record_shape]
@[simp] theorem State.record_pier (r : Bool) (d : Draft) : (s.record r d).pier = s.pier := by rw [State.record_shape]
@[simp] theorem State.record_engine (r : Bool) (d : Draft) : (s.record r d).engine = s.engine := by rw [State.record_shape]
@[simp] theorem State.record_lastGranted (r : Bool) (d : Draft) : (s.record r d).lastGranted = s.lastGranted := by rw [State.record_shape]
@[simp] theorem State.record_berths (r : Bool) (d : Draft) : (s.record r d).berths = s.berths := by rw [State.record_shape]
@[simp] theorem State.record_recovery (r : Bool) (d : Draft) : (s.record r d).recovery = s.recovery := by rw [State.record_shape]
@[simp] theorem State.record_bankA (r : Bool) (d : Draft) : (s.record r d).bankA = s.bankA := by rw [State.record_shape]
@[simp] theorem State.record_bankB (r : Bool) (d : Draft) : (s.record r d).bankB = s.bankB := by rw [State.record_shape]
@[simp] theorem State.record_active (r : Bool) (d : Draft) : (s.record r d).active = s.active := by rw [State.record_shape]
@[simp] theorem State.record_pendingActivation (r : Bool) (d : Draft) : (s.record r d).pendingActivation = s.pendingActivation := by rw [State.record_shape]
@[simp] theorem State.record_request (r : Bool) (d : Draft) : (s.record r d).request = s.request := by rw [State.record_shape]
@[simp] theorem State.record_clock (r : Bool) (d : Draft) : (s.record r d).clock = s.clock := by rw [State.record_shape]
@[simp] theorem State.record_lines (r : Bool) (d : Draft) : (s.record r d).lines = s.lines := by rw [State.record_shape]
@[simp] theorem State.record_frameSource (r : Bool) (d : Draft) : (s.record r d).frameSource = s.frameSource := by rw [State.record_shape]
@[simp] theorem State.record_lineSource (r : Bool) (d : Draft) : (s.record r d).lineSource = s.lineSource := by rw [State.record_shape]
@[simp] theorem State.record_releaseActive (r : Bool) (d : Draft) : (s.record r d).releaseActive = s.releaseActive := by rw [State.record_shape]
@[simp] theorem State.record_silenceTimer (r : Bool) (d : Draft) : (s.record r d).silenceTimer = s.silenceTimer := by rw [State.record_shape]
@[simp] theorem State.record_depotLost (r : Bool) (d : Draft) : (s.record r d).depotLost = s.depotLost := by rw [State.record_shape]
@[simp] theorem State.record_settings (r : Bool) (d : Draft) : (s.record r d).settings = s.settings := by rw [State.record_shape]
@[simp] theorem State.record_depotOut (r : Bool) (d : Draft) : (s.record r d).depotOut = s.depotOut := by rw [State.record_shape]
@[simp] theorem State.record_freeCount (r : Bool) (d : Draft) : (s.record r d).freeCount = s.freeCount := by rw [State.record_shape]
@[simp] theorem State.record_pending (r : Bool) (d : Draft) : (s.record r d).pending = s.pending := by rw [State.record_shape]

@[simp] theorem State.reserve_lanes : s.reserve.lanes = s.lanes := by rw [State.reserve_shape]
@[simp] theorem State.reserve_lastPolled : s.reserve.lastPolled = s.lastPolled := by rw [State.reserve_shape]
@[simp] theorem State.reserve_turn : s.reserve.turn = s.turn := by rw [State.reserve_shape]
@[simp] theorem State.reserve_pier : s.reserve.pier = s.pier := by rw [State.reserve_shape]
@[simp] theorem State.reserve_engine : s.reserve.engine = s.engine := by rw [State.reserve_shape]
@[simp] theorem State.reserve_lastGranted : s.reserve.lastGranted = s.lastGranted := by rw [State.reserve_shape]
@[simp] theorem State.reserve_berths : s.reserve.berths = s.berths := by rw [State.reserve_shape]
@[simp] theorem State.reserve_recovery : s.reserve.recovery = s.recovery := by rw [State.reserve_shape]
@[simp] theorem State.reserve_bankA : s.reserve.bankA = s.bankA := by rw [State.reserve_shape]
@[simp] theorem State.reserve_bankB : s.reserve.bankB = s.bankB := by rw [State.reserve_shape]
@[simp] theorem State.reserve_active : s.reserve.active = s.active := by rw [State.reserve_shape]
@[simp] theorem State.reserve_pendingActivation : s.reserve.pendingActivation = s.pendingActivation := by rw [State.reserve_shape]
@[simp] theorem State.reserve_request : s.reserve.request = s.request := by rw [State.reserve_shape]
@[simp] theorem State.reserve_clock : s.reserve.clock = s.clock := by rw [State.reserve_shape]
@[simp] theorem State.reserve_lines : s.reserve.lines = s.lines := by rw [State.reserve_shape]
@[simp] theorem State.reserve_frameSource : s.reserve.frameSource = s.frameSource := by rw [State.reserve_shape]
@[simp] theorem State.reserve_lineSource : s.reserve.lineSource = s.lineSource := by rw [State.reserve_shape]
@[simp] theorem State.reserve_releaseActive : s.reserve.releaseActive = s.releaseActive := by rw [State.reserve_shape]
@[simp] theorem State.reserve_silenceTimer : s.reserve.silenceTimer = s.silenceTimer := by rw [State.reserve_shape]
@[simp] theorem State.reserve_depotLost : s.reserve.depotLost = s.depotLost := by rw [State.reserve_shape]
@[simp] theorem State.reserve_settings : s.reserve.settings = s.settings := by rw [State.reserve_shape]
@[simp] theorem State.reserve_depotOut : s.reserve.depotOut = s.depotOut := by rw [State.reserve_shape]
@[simp] theorem State.reserve_freeCount : s.reserve.freeCount = s.freeCount := by rw [State.reserve_shape]
@[simp] theorem State.reserve_pending : s.reserve.pending = s.pending := by rw [State.reserve_shape]

@[simp] theorem State.lane_record (r : Bool) (d : Draft) (l : LaneId) : (s.record r d).lane l = s.lane l :=
  State.lane_congr (by simp) l
@[simp] theorem State.berth_record (r : Bool) (d : Draft) (b : BerthId) : (s.record r d).berth b = s.berth b :=
  State.berth_congr (by simp) b
@[simp] theorem State.lane_reserve (l : LaneId) : s.reserve.lane l = s.lane l := State.lane_congr (by simp) l
@[simp] theorem State.berth_reserve (b : BerthId) : s.reserve.berth b = s.berth b := State.berth_congr (by simp) b

end Journal

/-! ### What the work leaves as it is -/

theorem State.Act.shape {gated : LaneId → Prop} {s t : State} (h : s.Act gated t) : t = { s with
    lanes := t.lanes, pier := t.pier, engine := t.engine, berths := t.berths, recovery := t.recovery
    journal := t.journal, flags := t.flags, freeCount := t.freeCount } := by
  cases h with
  | record reserved d => rw [State.record_shape]
  | reserve => rw [State.reserve_shape]
  | countFree used => cases used <;> rfl
  | _ => rfl

/-- Everything that the work at the units cannot change stays as it was. -/
theorem State.Works.shape {gated : LaneId → Prop} {s t : State} (h : s.Works gated t) : t = { s with
    lanes := t.lanes, pier := t.pier, engine := t.engine, berths := t.berths, recovery := t.recovery
    journal := t.journal, flags := t.flags, freeCount := t.freeCount } := by
  induction h with
  | refl => rfl
  | tail _ act ih => rw [act.shape, ih]

section Kept

variable {gated : LaneId → Prop} {s t : State} (h : s.Works gated t)
include h

theorem State.Works.lastPolled : t.lastPolled = s.lastPolled := by rw [h.shape]
theorem State.Works.turn : t.turn = s.turn := by rw [h.shape]
theorem State.Works.lastGranted : t.lastGranted = s.lastGranted := by rw [h.shape]
theorem State.Works.bankA : t.bankA = s.bankA := by rw [h.shape]
theorem State.Works.bankB : t.bankB = s.bankB := by rw [h.shape]
theorem State.Works.active : t.active = s.active := by rw [h.shape]
theorem State.Works.pendingActivation : t.pendingActivation = s.pendingActivation := by rw [h.shape]
theorem State.Works.request : t.request = s.request := by rw [h.shape]
theorem State.Works.clock : t.clock = s.clock := by rw [h.shape]
theorem State.Works.lines : t.lines = s.lines := by rw [h.shape]
theorem State.Works.frameSource : t.frameSource = s.frameSource := by rw [h.shape]
theorem State.Works.lineSource : t.lineSource = s.lineSource := by rw [h.shape]
theorem State.Works.releaseActive : t.releaseActive = s.releaseActive := by rw [h.shape]
theorem State.Works.silenceTimer : t.silenceTimer = s.silenceTimer := by rw [h.shape]
theorem State.Works.depotLost : t.depotLost = s.depotLost := by rw [h.shape]
theorem State.Works.settings : t.settings = s.settings := by rw [h.shape]
theorem State.Works.depotOut : t.depotOut = s.depotOut := by rw [h.shape]
theorem State.Works.pending : t.pending = s.pending := by rw [h.shape]

end Kept

/-- The halt flags are told by the lines alone (R121). -/
theorem State.Works.halted {gated : LaneId → Prop} {s t : State} (h : s.Works gated t) (b : BerthId) : (t.berth b).halted = (s.berth b).halted := by
  induction h with
  | refl => rfl
  | tail _ act ih =>
    refine Eq.trans ?_ ih
    cases act with
    | berth c f halt =>
      rw [State.berth_onBerth]
      split_ifs with same
      · rw [halt, same]
      · rfl
    | record reserved d => rw [State.berth_record]
    | reserve => rw [State.berth_reserve]
    | countFree used => cases used <;> rfl
    | _ => rfl

/-! ### Flags -/

/-- No flag is cleared from `s` to `t`. -/
def State.FlagsKept (s t : State) : Prop := s.flags &&& ~~~t.flags = 0

theorem State.FlagsKept.of_eq {s t : State} (h : t.flags = s.flags) : s.FlagsKept t := by
  rw [State.FlagsKept, h]
  exact BitVec.and_not_self s.flags

theorem State.FlagsKept.trans {s t u : State} (h : s.FlagsKept t) (k : t.FlagsKept u) : s.FlagsKept u := by
  unfold State.FlagsKept at *
  ext i hi
  have hb := congrArg (·.getLsbD i) h
  have kb := congrArg (·.getLsbD i) k
  simp at hb kb ⊢
  grind

/-- What is kept from a state is kept from any other with its flags. -/
theorem State.FlagsKept.of_same {s t u : State} (k : t.FlagsKept u) (h : s.flags = t.flags) : s.FlagsKept u := by
  rw [State.FlagsKept, h]
  exact k

theorem State.FlagsKept.of_or {s t : State} (m : Half) (h : t.flags = s.flags ||| m) : s.FlagsKept t := by
  unfold State.FlagsKept
  rw [h]
  ext i hi
  simp
  grind

theorem State.flagsKept_raise (s : State) (x : NoticeFlag) : s.FlagsKept (s.raise x) := .of_or x.mark rfl

theorem State.flagsKept_raiseIf (s : State) (c : Bool) (x : NoticeFlag) : s.FlagsKept (s.raiseIf c x) := by
  cases c
  · exact .of_eq rfl
  · exact s.flagsKept_raise x

theorem State.flagsKept_compareMarks (s : State) (n : Nat) : s.FlagsKept (s.compareMarks n) :=
  (s.flagsKept_raiseIf _ _).trans (State.flagsKept_raiseIf _ _ _)

theorem State.flagsKept_store (s : State) (d : Draft) : s.FlagsKept (s.store d) :=
  (State.flagsKept_raiseIf _ s.batchFull .journalBatch).of_same rfl

theorem State.flagsKept_record (s : State) (reserved : Bool) (d : Draft) : s.FlagsKept (s.record reserved d) := by
  unfold State.record
  split_ifs
  · exact (State.flagsKept_store _ d).of_same rfl
  · exact (s.flagsKept_store d).trans (State.flagsKept_compareMarks _ _)
  · exact .of_eq rfl

/-- The work at the units clears no flag (R168). -/
theorem State.Works.flagsKept {gated : LaneId → Prop} {s t : State} (h : s.Works gated t) : s.FlagsKept t := by
  induction h with
  | refl => exact .of_eq rfl
  | tail _ act ih =>
    refine ih.trans ?_
    cases act with
    | record reserved d => exact State.flagsKept_record _ reserved d
    | reserve => exact (State.flagsKept_compareMarks _ _).of_same rfl
    | raise x => exact State.flagsKept_raise _ x
    | countFree used => exact .of_eq (by cases used <;> rfl)
    | _ => exact .of_eq rfl

/-! ### The Journal's numbers (R144) -/

theorem State.journal_store (s : State) (d : Draft) : (s.store d).journal = { s.journal with
    records := s.journal.records ++ [s.stamp d], next := s.journal.next + 1, batch := s.nextBatch } := by
  simp [State.store]

/-- The journal after a record: stored, in its reserved slot or a free one, or counted in the overflow tally. -/
theorem State.journal_record (s : State) (reserved : Bool) (d : Draft) : (s.record reserved d).journal =
    if reserved = true then { (s.store d).journal with reservations := s.journal.reservations - 1 }
    else if s.journal.occupancy < Config.journalCapacity then (s.store d).journal
    else (s.countOverflow d.kind).journal := by
  unfold State.record
  split_ifs
  · simp only [State.journal_store]
    rfl
  · rw [State.compareMarks_shape]
  · rfl

theorem State.sequence_stamp (s : State) (d : Draft) : (s.stamp d).sequence = s.journal.next := by
  unfold State.stamp
  split_ifs <;> rfl

theorem Journal.numbered_store {s : State} (h : s.journal.numbered) (d : Draft) : (s.store d).journal.numbered := by
  unfold Journal.numbered at *
  rw [State.journal_store]
  simp only [List.map_append, h, List.map_cons, List.map_nil, List.length_append, List.length_cons, List.length_nil,
    List.range_succ, State.sequence_stamp]
  have one : BitVec.ofNat 32 (s.journal.records.length + 1) = BitVec.ofNat 32 s.journal.records.length + 1 :=
    BitVec.ofNat_add _ _
  congr 1
  · refine List.map_congr_left fun i _ => ?_
    simp only [Nat.zero_add, one]
    ring
  · simp only [Nat.zero_add, one, List.cons.injEq, and_true]
    ring

theorem Journal.numbered_record {s : State} (h : s.journal.numbered) (reserved : Bool) (d : Draft) :
    (s.record reserved d).journal.numbered := by
  rw [State.journal_record]
  split_ifs
  · exact Journal.numbered_store h d
  · exact Journal.numbered_store h d
  · exact h

/-- The records left after a release of the oldest ones are numbered as they were (R151). -/
theorem Journal.numbered_drop {j : Journal} (h : j.numbered) (k : Nat) :
    ({ j with records := j.records.drop k } : Journal).numbered := by
  unfold Journal.numbered at *
  simp only [List.map_drop, h, List.length_drop]
  refine List.ext_getElem (by simp) fun i hi _ => ?_
  have within : k ≤ j.records.length := by simp at hi; omega
  have parts : BitVec.ofNat 32 j.records.length = BitVec.ofNat 32 (j.records.length - k) + BitVec.ofNat 32 k := by
    rw [← BitVec.ofNat_add, Nat.sub_add_cancel within]
  simp only [List.getElem_drop, List.getElem_map, List.getElem_range, parts, BitVec.ofNat_add]
  ring

theorem State.Works.numbered {gated : LaneId → Prop} {s t : State} (h : s.Works gated t) (numbered : s.journal.numbered) : t.journal.numbered := by
  induction h with
  | refl => exact numbered
  | tail _ act ih =>
    cases act with
    | record reserved d => exact Journal.numbered_record ih reserved d
    | reserve => rw [State.reserve_shape]; exact ih
    | countFree used => cases used <;> exact ih
    | _ => exact ih

/-! ### The batch counter (R153) -/

theorem State.nextBatch_le {s : State} (ranges : s.settings.journalBatch ≤ 255) (h : s.journal.batch ≤ 254) :
    s.nextBatch ≤ 254 := by
  unfold State.nextBatch State.batchFull
  split_ifs with off full
  · exact h
  · exact Nat.zero_le _
  · simp [off] at full
    omega

theorem State.Works.batch {gated : LaneId → Prop} {s t : State} (h : s.Works gated t) (ranges : s.settings.journalBatch ≤ 255)
    (batch : s.journal.batch ≤ 254) : t.journal.batch ≤ 254 := by
  induction h with
  | refl => exact batch
  | @tail u v chain act ih =>
    have next : u.nextBatch ≤ 254 := State.nextBatch_le (by rwa [State.Works.settings chain]) ih
    cases act with
    | record reserved d =>
      rw [State.journal_record]
      split_ifs
      · simpa [State.journal_store] using next
      · simpa [State.journal_store] using next
      · exact ih
    | reserve => rw [State.reserve_shape]; exact ih
    | countFree used => cases used <;> exact ih
    | _ => exact ih

/-! ### The slots (R4, R5, R11) -/

theorem State.slotsLawful_congr {s t : State} (h : t.lanes = s.lanes) (lawful : s.slotsLawful) : t.slotsLawful :=
  fun l => State.lane_congr h l ▸ lawful l

theorem State.slotsLawful_onLane {s : State} (lawful : s.slotsLawful) (l : LaneId) {f : Lane → Lane}
    (slots : (s.lane l).link.lawful = true → (f (s.lane l)).link.lawful = true) : (s.onLane l f).slotsLawful := by
  intro m
  rw [State.lane_onLane]
  split_ifs
  · exact slots (lawful l)
  · exact lawful m

theorem State.Works.slotsLawful {gated : LaneId → Prop} {s t : State} (h : s.Works gated t) (lawful : s.slotsLawful) : t.slotsLawful := by
  induction h with
  | refl => exact lawful
  | tail _ act ih =>
    cases act with
    | lane l f slots => exact State.slotsLawful_onLane ih l slots
    | record reserved d => exact State.slotsLawful_congr (State.record_lanes _ _ _) ih
    | reserve => exact State.slotsLawful_congr (State.reserve_lanes _) ih
    | countFree used => cases used <;> exact ih
    | _ => exact ih

/-! ### The gates (R19) -/

/-- The work leaves every gate but those at the gated lanes. -/
theorem State.Works.sameGate {gated : LaneId → Prop} {s t : State} (h : s.Works gated t) {m : LaneId}
    (other : ¬ gated m) : (s.lane m).SameGate (t.lane m) := by
  induction h with
  | refl => exact .refl _
  | tail _ act ih =>
    refine ih.trans ?_
    cases act with
    | lane l f slots gate =>
      rw [State.lane_onLane]
      split_ifs with same
      · subst same
        exact gate other
      · exact .refl _
    | record reserved d => rw [State.lane_record]; exact .refl _
    | reserve => rw [State.lane_reserve]; exact .refl _
    | countFree used => cases used <;> exact .refl _
    | _ => exact .refl _

/-! ### The bank reference (R44) -/

/-- The work at the units drops the bank reference of the validation in flight or keeps it. -/
theorem State.Works.referencedBank {gated : LaneId → Prop} {s t : State} (h : s.Works gated t) :
    t.referencedBank = none ∨ t.referencedBank = s.referencedBank := by
  induction h with
  | refl => exact .inr rfl
  | tail _ act ih =>
    cases act with
    | free => exact .inl rfl
    | goOn v next bank => exact (bank ▸ ih : v.bank = none ∨ v.bank = s.referencedBank)
    | record reserved d =>
      rw [State.referencedBank, State.record_engine]
      exact ih
    | reserve =>
      rw [State.referencedBank, State.reserve_engine]
      exact ih
    | countFree used => cases used <;> exact ih
    | _ => exact ih

end Sys2Proof.Machine
end

section
/-! The gate orders (R19): work that leaves the gates alone leaves them in order, and a lane whose gate an event touches
has its order worked out again before the event ends. -/

namespace Sys2Proof.Machine

/-! ### Order at one lane and at all lanes -/

/-- The lane `m` is the lane `l`: the gates that work at one lane may touch. -/
def OnlyLane (l m : LaneId) : Prop := m = l

theorem OnlyLane.self (l : LaneId) : OnlyLane l l := rfl

/-- A lane holds the gate order of R19. -/
def Lane.inOrder (release : Bool) (x : Lane) : Prop := x.gateOrder = wantedGateOrder release x.mode x.leaf

/-- Every lane but one holds the gate order of R19. -/
def State.gatesBut (l : LaneId) (s : State) : Prop := ∀ m : LaneId, m ≠ l → (s.lane m).inOrder s.releaseActive

theorem Lane.inOrder_congr {release : Bool} {x y : Lane} (h : x.SameGate y) :
    y.inOrder release ↔ x.inOrder release := by
  obtain ⟨mode, leaf, order⟩ := h
  rw [Lane.inOrder, Lane.inOrder, mode, leaf, order]

theorem State.gatesInOrder.but {s : State} (h : s.gatesInOrder) (l : LaneId) : s.gatesBut l := fun m _ => h m

theorem State.gatesBut.inOrder {s : State} {l : LaneId} (h : s.gatesBut l)
    (own : (s.lane l).inOrder s.releaseActive) : s.gatesInOrder := fun m =>
  if same : m = l then same ▸ own else h m same

theorem State.Works.inOrder {gated : LaneId → Prop} {s t : State} (h : s.Works gated t) {m : LaneId}
    (other : ¬ gated m) (order : (s.lane m).inOrder s.releaseActive) : (t.lane m).inOrder t.releaseActive := by
  rw [State.Works.releaseActive h, Lane.inOrder_congr (State.Works.sameGate h other)]
  exact order

/-- Work that touches no gate keeps every order. -/
theorem State.Works.gatesInOrder {s t : State} (h : s.Works (fun _ => False) t) (orders : s.gatesInOrder) :
    t.gatesInOrder := fun m => State.Works.inOrder h id (orders m)

theorem State.Works.gatesBut {s t : State} {l : LaneId} (h : s.Works (OnlyLane l) t) (orders : s.gatesBut l) :
    t.gatesBut l := fun m other => State.Works.inOrder h other (orders m other)

theorem State.gatesInOrder_congr {s t : State} (lanes : t.lanes = s.lanes) (release : t.releaseActive = s.releaseActive)
    (orders : s.gatesInOrder) : t.gatesInOrder := by
  intro l
  have order := orders l
  rw [State.wantedOrder] at order ⊢
  rwa [release, State.lane_congr lanes]

namespace State

variable (s : State)

/-! ### The order worked out again -/

theorem sameGate_askGate (l : LaneId) : (s.lane l).SameGate ((s.askGate l).lane l) :=
  Works.sameGate (s.works_askGate (gated := fun _ => False) l) id

theorem inOrder_renewGate (l : LaneId) : ((s.renewGate l).lane l).inOrder (s.renewGate l).releaseActive := by
  have release : (s.renewGate l).releaseActive = s.releaseActive := by rw [renewGate_shape]
  rw [release]
  refine (Lane.inOrder_congr (sameGate_askGate (s.setOrder l) l)).mpr ?_
  rw [setOrder, lane_onLane_self]
  rfl

theorem inOrder_reworkGate (l : LaneId) : ((s.reworkGate l).lane l).inOrder (s.reworkGate l).releaseActive := by
  unfold reworkGate
  split
  · next same => exact same.symm
  · exact s.inOrder_renewGate l

variable {s} {l : LaneId}

theorem gatesInOrder_renewGate (h : s.gatesBut l) : (s.renewGate l).gatesInOrder :=
  (Works.gatesBut (s.works_renewGate (OnlyLane.self l)) h).inOrder (s.inOrder_renewGate l)

theorem gatesInOrder_reworkGate (h : s.gatesBut l) : (s.reworkGate l).gatesInOrder :=
  (Works.gatesBut (s.works_reworkGate (OnlyLane.self l)) h).inOrder (s.inOrder_reworkGate l)

/-! ### The lane units -/

section Units

variable (h : s.gatesInOrder)
include h

theorem gatesInOrder_grantCredits (l : LaneId) (n : Nat) : (s.grantCredits l n).gatesInOrder := by
  unfold grantCredits
  split
  · exact Works.gatesInOrder ((s.works_onCounters l _).trans (works_forfeit _ l n false)) h
  · refine gatesInOrder_reworkGate (Works.gatesBut ?_ (gatesInOrder.but h l))
    exact ((s.works_onCounters l _).trans (works_onLane_gate _ (OnlyLane.self l) _ id)).trans (works_askShow _ l _)

theorem gatesInOrder_takePassage (l : LaneId) (inward outward : Nat) :
    (s.takePassage l inward outward).gatesInOrder := by
  unfold takePassage
  split
  · exact Works.gatesInOrder (s.works_onCounters l _) h
  · refine gatesInOrder_reworkGate (Works.gatesBut ?_ (gatesInOrder.but h l))
    exact ((s.works_onCounters l _).trans (works_iterate _ (fun t => t.works_passInward (OnlyLane.self l)) _)).trans
      (works_iterate _ (fun t => t.works_passOutward l) _)

theorem gatesInOrder_writeDone (l : LaneId) (image : CardImage) (w : CardWrite) :
    (s.writeDone l image w).gatesInOrder := by
  unfold writeDone
  split
  · exact Works.gatesInOrder ((s.works_record _ _).trans (works_endTransaction _ l)) h
  · exact gatesInOrder_grantCredits (Works.gatesInOrder (((s.works_convert _ _ _).trans (works_record _ _ _)).trans
      (works_endTransaction _ l)) h) l _

theorem gatesInOrder_takeWriteResult (l : LaneId) (tag : Byte) (card : CardNo) (outcome : WriteOutcome) :
    (s.takeWriteResult l tag card outcome).gatesInOrder := by
  unfold takeWriteResult
  split
  · split
    · split
      · exact gatesInOrder_writeDone h l _ _
      · exact Works.gatesInOrder (s.works_writeFailed l _ _) h
      · exact Works.gatesInOrder (s.works_writeUncertain l _ _) h
    · exact h
  · exact h

theorem gatesInOrder_laneReset (l : LaneId) (reason : ResetReason) : (s.laneReset l reason).gatesInOrder := by
  have before := (((s.works_resetTransaction l reason).trans (works_endTransaction _ l)).trans
    (works_forfeitAll _ (OnlyLane.self l) false)).trans (works_onLane_gate _ (OnlyLane.self l) (.afterReset reason) fun h => Link.lawful_emptySlots h)
  have renewed := gatesInOrder_renewGate (Works.gatesBut before (gatesInOrder.but h l))
  exact Works.gatesInOrder (works_showFreeExit _ l) renewed

theorem gatesInOrder_takeStatus (l : LaneId) (c : LaneCondition) : (s.takeStatus l c).gatesInOrder := by
  cases c with
  | leafFault =>
    simp only [takeStatus, takeLeafFault]
    split
    · exact h
    · refine gatesInOrder_reworkGate (Works.gatesBut ?_ (gatesInOrder.but h l))
      exact ((s.works_forfeitAll (OnlyLane.self l) false).trans (works_onLane_gate _ (OnlyLane.self l) _ id)).trans (works_raise _ _)
  | leafClear =>
    simp only [takeStatus, takeLeafClear]
    split
    · exact gatesInOrder_renewGate (Works.gatesBut (s.works_onLane_gate (OnlyLane.self l) _ id) (gatesInOrder.but h l))
    · exact h
  | headRestart => exact gatesInOrder_laneReset h l _

theorem gatesInOrder_takeReport (l : LaneId) (r : Report) : (s.takeReport l r).gatesInOrder := by
  cases r with
  | nothing => exact h
  | tap image => exact Works.gatesInOrder (s.works_takeTap l image) h
  | writeResult tag card outcome => exact gatesInOrder_takeWriteResult h l tag card outcome
  | passage inward outward => exact gatesInOrder_takePassage h l _ _
  | status c => exact gatesInOrder_takeStatus h l c

theorem gatesInOrder_bringOnline (l : LaneId) : (s.bringOnline l).gatesInOrder := by
  have online := gatesInOrder_renewGate (Works.gatesBut
    (s.works_onLane_gate (OnlyLane.self l) (fun x => { x with status := .online, leaf := .shut, txn := .none }) id)
    (gatesInOrder.but h l))
  exact Works.gatesInOrder (works_showFreeExit _ l) online

theorem gatesInOrder_goodAnswer (t : Turn) (n : Byte) (r : Report) : (s.goodAnswer t n r).gatesInOrder := by
  have acked : (s.acknowledge t.lane t.carried).gatesInOrder := Works.gatesInOrder (s.works_acknowledge _ _) h
  have online : State.gatesInOrder (if (s.lane t.lane).status = .offline then
      (s.acknowledge t.lane t.carried).bringOnline t.lane else s.acknowledge t.lane t.carried) := by
    split
    · exact gatesInOrder_bringOnline acked _
    · exact acked
  unfold goodAnswer
  dsimp only
  split
  · split
    · exact Works.gatesInOrder (s.works_noteReport _ _) h
    · exact h
  · split
    · exact gatesInOrder_takeReport (Works.gatesInOrder (works_noteReport _ _ _) online) _ _
    · exact online

theorem gatesInOrder_missedTurn (t : Turn) : (s.missedTurn t).gatesInOrder := by
  have counted : (s.onLane t.lane Lane.countMiss).gatesInOrder :=
    Works.gatesInOrder (s.works_onLane _ _ fun h => Link.lawful_missed h _) h
  unfold missedTurn
  dsimp only
  split
  · exact h
  · split
    · exact gatesInOrder_laneReset (Works.gatesInOrder
        ((works_onLane_of_link _ t.lane (fun x => { x with status := .offline }) rfl).trans (works_raise _ _)) counted) _ _
    · exact counted

theorem gatesInOrder_endTurn (t : Turn) (bytes : List Byte) : (s.endTurn t bytes).gatesInOrder := by
  unfold endTurn
  split
  · exact gatesInOrder_goodAnswer h t _ _
  · exact gatesInOrder_missedTurn h t

theorem gatesInOrder_took (v : Validation) (e : RecoveryEntry) : (s.took v e).gatesInOrder := by
  have ended := Works.gatesInOrder ((((s.works_convert e.berth e.riders e.charge).trans
    (works_record _ e.reservation (entryDraft .recoveredTook v.lane false e))).trans (works_removeEntry _ e.card)).trans
    (works_endTransaction _ v.lane)) h
  exact Works.gatesInOrder (works_freeEngine _ e.watch) (gatesInOrder_grantCredits ended v.lane e.riders)

/-- A hold timer's expiry, and a departure at one lane, end with the order worked out (R26, R110). -/
theorem gatesInOrder_forfeitAll_reworkGate (l : LaneId) (release : Bool) :
    ((s.forfeitAll l release).reworkGate l).gatesInOrder :=
  gatesInOrder_reworkGate (Works.gatesBut (s.works_forfeitAll (OnlyLane.self l) release) (gatesInOrder.but h l))

end Units

/-! ### All lanes one after another -/

/-- What keeps every order at each lane keeps it over all lanes. -/
theorem gatesInOrder_foldl {α : Type} {act : State → α → State}
    (keeps : ∀ (t : State) x, t.gatesInOrder → (act t x).gatesInOrder) (xs : List α) {s : State}
    (h : s.gatesInOrder) : (xs.foldl act s).gatesInOrder := by
  induction xs generalizing s with
  | nil => exact h
  | cons x xs ih => exact ih (keeps s x h)

/-- What puts its own lane in order and touches no other gate puts all lanes in order, however they stood. -/
theorem gatesInOrder_eachLane {act : State → LaneId → State} (work : ∀ (t : State) l, t.Works (OnlyLane l) (act t l))
    (order : ∀ (t : State) l, ((act t l).lane l).inOrder (act t l).releaseActive) (s : State) :
    (s.eachLane act).gatesInOrder := by
  suffices ∀ (xs : List LaneId) (t : State) (m : LaneId), m ∈ xs ∨ (t.lane m).inOrder t.releaseActive →
      ((xs.foldl act t).lane m).inOrder (xs.foldl act t).releaseActive from
    fun m => this allLanes s m (.inl (mem_allLanes m))
  intro xs
  induction xs with
  | nil => exact fun t m h => h.resolve_left List.not_mem_nil
  | cons x xs ih =>
    intro t m h
    refine ih (act t x) m ?_
    by_cases own : m = x
    · exact .inr (own ▸ order t x)
    · obtain listed | ordered := h
      · exact .inl ((List.mem_cons.mp listed).resolve_left own)
      · exact .inr (Works.inOrder (work t x) own ordered)

/-- The start of release works every order out again, whatever came before (R161). -/
theorem gatesInOrder_releaseBegins (s : State) : s.releaseBegins.gatesInOrder := by
  refine Works.gatesInOrder (works_raise _ _) (gatesInOrder_eachLane (fun t l => ?_) (fun t l => ?_) _)
  · exact (t.works_reworkGate (OnlyLane.self l)).trans (works_showFreeExit _ l)
  · have shown : (t.reworkGate l).Works (fun _ => False) (t.openGate l) := works_showFreeExit _ l
    exact Works.inOrder shown id (t.inOrder_reworkGate l)

theorem works_showAfterRelease (s : State) {gated : LaneId → Prop} (l : LaneId) :
    s.Works gated (s.showAfterRelease l) := by
  unfold showAfterRelease
  split
  · exact s.works_askShow l _
  · exact s.works_askShow l _
  · exact .refl

/-- So does the end of release (R163). -/
theorem gatesInOrder_releaseEnds (s : State) : s.releaseEnds.gatesInOrder := by
  have renewed := gatesInOrder_eachLane (act := renewGate) (fun t l => t.works_renewGate (OnlyLane.self l))
    (fun t l => t.inOrder_renewGate l)
    { s.eachLane fun t l => t.onLane l Lane.leaveRelease with releaseActive := false }
  exact Works.gatesInOrder ((works_eachLane _ fun t l => t.works_showAfterRelease l).trans (works_raise _ _)) renewed

end State
end Sys2Proof.Machine
end

section
/-! The Table Store's checks and edits (R129 to R136): what each entry's check answers, how a TABLE WRITE stops at the
first failing entry, and that every edit leaves a bank sound. -/

namespace Sys2Proof.Machine

/-! ### Fields in their ranges (R130, R131) -/

theorem below_of_lt {n v : Nat} (h : v < n) : below n v = some ⟨v, h⟩ := dif_pos h

theorem below_of_le {n v : Nat} (h : n ≤ v) : below n v = none := dif_neg (Nat.not_lt.mpr h)

theorem cardInRange_eq (c : CardNo) : cardInRange c = (c != 0 && c.toNat != 281474976710655) := by
  have ones : (c != BitVec.allOnes 48) = (c.toNat != 281474976710655) := by
    rw [Bool.eq_iff_iff, bne_iff_ne, bne_iff_ne, ne_eq, ne_eq, ← BitVec.toNat_inj]
    rfl
  rw [cardInRange, ones]

/-- The action a byte spells, where it is one of spec/11's. -/
theorem actionOf_eq (b : Byte) : actionOf b =
    if b = 1 ∨ b = 2 ∨ (8 ≤ b.toNat ∧ b.toNat ≤ 15) then
      some (if b = 1 then .block else if b = 2 then .watch else .cls (Fin.ofNat 8 b.toNat))
    else none := by
  revert b
  decide

theorem cardEntryOf_eq (r : RawCard) :
    cardEntryOf r = if cardLawful r = true then some (cardSpelled r) else none := by
  have action : (r.action == 1 || r.action == 2 || (decide (8 ≤ r.action.toNat) && decide (r.action.toNat ≤ 15))) = true ↔
      r.action = 1 ∨ r.action = 2 ∨ (8 ≤ r.action.toNat ∧ r.action.toNat ≤ 15) := by simp [or_assoc]
  simp only [cardEntryOf, actionOf_eq, cardLawful, ← cardInRange_eq, Bool.and_eq_true, action]
  by_cases card : cardInRange r.card = true
  · by_cases code : r.action = 1 ∨ r.action = 2 ∨ (8 ≤ r.action.toNat ∧ r.action.toNat ≤ 15)
    · simp only [card, code, and_self, if_true]
      rfl
    · simp only [card, code, and_false, if_true, if_false, Option.map_none]
  · simp only [card, Bool.false_eq_true, false_and, if_false]

theorem boundaryOf_eq (r : RawBoundary) :
    boundaryOf r = if boundaryLawful r = true then some (boundarySpelled r) else none := by
  unfold boundaryOf boundaryLawful
  by_cases start : r.start.toNat ≤ 1439
  · by_cases band : r.band.toNat < 4
    · have spelled : (⟨r.band.toNat, band⟩ : TimeBand) = Fin.ofNat 4 r.band.toNat :=
        Fin.ext (Nat.mod_eq_of_lt band).symm
      simp [start, below_of_lt band, Nat.lt_succ_iff.mp band, boundarySpelled, spelled]
    · simp [start, below_of_le (Nat.not_lt.mp band), show ¬ r.band.toNat ≤ 3 by omega]
  · simp [start]

theorem productKindOf_eq (b : Byte) : productKindOf b =
    if b = 1 ∨ b = 2 ∨ b = 3 then
      some (if b = 1 then .storedValue else if b = 2 then .pass else .bundle)
    else none := by
  revert b
  decide

theorem productOf_eq (r : RawProduct) :
    productOf r = if productLawful r = true then some (productSpelled r) else none := by
  have kind : (r.kind == 1 || r.kind == 2 || r.kind == 3) = true ↔ r.kind = 1 ∨ r.kind = 2 ∨ r.kind = 3 := by
    simp [or_assoc]
  unfold productOf productLawful
  rw [productKindOf_eq]
  simp only [Bool.and_eq_true, kind, decide_eq_true_eq]
  split_ifs <;> simp_all [productSpelled]

theorem classOf_eq (r : RawClass) : classOf r = if classLawful r = true then some (classSpelled r) else none := by
  have flag : ∀ b : Byte, flagOf b = if b.toNat ≤ 1 then some (b == 1) else none := by decide
  unfold classOf classLawful
  rw [flag]
  simp only [Bool.and_eq_true, decide_eq_true_eq]
  split_ifs <;> simp_all [classSpelled]

/-! ### One entry of an ordered list (R130) -/

theorem putCard_eq (cards : List CardEntry) (n : Nat) (r : RawCard) : putCard cards n r =
    let c := cardCheck cards.getLast? cards.length r
    if c = .done then .ok (cards ++ [cardSpelled r]) else .error c := by
  unfold putCard cardCheck
  rw [cardEntryOf_eq]
  by_cases lawful : cardLawful r = true
  · have spelled : (cardSpelled r).card = r.card := rfl
    cases last : cards.getLast? with
    | none =>
      have empty : cards = [] := List.getLast?_eq_none_iff.mp last
      simp [lawful, empty]
    | some e =>
      simp only [lawful, if_true, spelled, Option.any_some, decide_eq_true_eq, beq_iff_eq, Config.maxCards]
      grind
  · simp [lawful]

theorem putBoundary_eq (bands : List Boundary) (n : Nat) (r : RawBoundary) : putBoundary bands n r =
    let c := boundaryCheck bands.getLast? bands.length r
    if c = .done then .ok (bands ++ [boundarySpelled r]) else .error c := by
  unfold putBoundary boundaryCheck
  rw [boundaryOf_eq]
  by_cases lawful : boundaryLawful r = true
  · have spelled : (boundarySpelled r).start = r.start.toNat := rfl
    cases last : bands.getLast? with
    | none =>
      have empty : bands = [] := List.getLast?_eq_none_iff.mp last
      simp [lawful, empty]
    | some e =>
      simp only [lawful, if_true, spelled, Option.any_some, decide_eq_true_eq, Config.maxBoundaries]
      grind
  · simp [lawful]

/-! ### Entries written one after another (R129) -/

section WriteEach

variable {τ ρ : Type} {put : τ → Nat → ρ → Except Result τ}

theorem writeEach_cons_ok {t t' : τ} {n : Nat} {r : ρ} (rs : List ρ) (h : put t n r = .ok t') :
    writeEach put t n (r :: rs) = writeEach put t' (n + 1) rs := by
  simp only [writeEach, h]

theorem writeEach_cons_error {t : τ} {n : Nat} {r : ρ} {e : Result} (rs : List ρ) (h : put t n r = .error e) :
    writeEach put t n (r :: rs) = (t, ⟨e, n⟩) := by
  simp only [writeEach, h]

/-- What one entry written keeps, every write keeps. -/
theorem writeEach_keeps {P : τ → Prop} (keeps : ∀ t n r t', P t → put t n r = .ok t' → P t') (rs : List ρ) (n : Nat)
    {t : τ} (h : P t) : P (writeEach put t n rs).1 := by
  induction rs generalizing t n with
  | nil => exact h
  | cons r rs ih =>
    cases wrote : put t n r with
    | ok t' =>
      rw [writeEach_cons_ok rs wrote]
      exact ih (n + 1) (keeps t n r t' h wrote)
    | error e =>
      rw [writeEach_cons_error rs wrote]
      exact h

/-- The entries written are the first ones, and all of them where the write ends with DONE. -/
theorem writeEach_written (fails : ∀ t n r, put t n r ≠ .error .done) (rs : List ρ) (n : Nat) (t : τ) :
    n ≤ (writeEach put t n rs).2.written ∧ (writeEach put t n rs).2.written ≤ n + rs.length ∧
      ((writeEach put t n rs).2.result = .done → (writeEach put t n rs).2.written = n + rs.length) := by
  induction rs generalizing t n with
  | nil => simp [writeEach]
  | cons r rs ih =>
    cases wrote : put t n r with
    | ok t' =>
      rw [writeEach_cons_ok rs wrote, List.length_cons]
      obtain ⟨first, last, all⟩ := ih (n + 1) t'
      exact ⟨Nat.le_of_succ_le first, by omega, fun h => by have := all h; omega⟩
    | error e =>
      rw [writeEach_cons_error rs wrote]
      exact ⟨Nat.le_refl n, Nat.le_add_right _ _, fun h => absurd (h ▸ wrote) (fails t n r)⟩

end WriteEach

/-! ### Ordered lists (R129, R130) -/

/-- The last entry of a list that more has been appended to is the last of those, or the list's own. -/
theorem getLast?_append_map {ρ α : Type} (base : List α) (entry : ρ → α) (es : List ρ) :
    (base ++ es.map entry).getLast? = if es = [] then base.getLast? else (es.getLast?).map entry := by
  by_cases empty : es = []
  · simp [empty]
  · simp [empty, List.getLast?_append, List.getLast?_map, List.getLast?_eq_some_getLast empty]

/-- A write of entries `es` after `base`, where each entry is put by its check, ends as `orderedWrite` says. -/
theorem orderedWrite_writeEach {ρ α : Type} {put : List α → Nat → ρ → Except Result (List α)}
    {check : Option α → Nat → ρ → Result} {entry : ρ → α}
    (puts : ∀ xs n r, put xs n r =
      let c := check xs.getLast? xs.length r
      if c = .done then .ok (xs ++ [entry r]) else .error c) (base : List α) (es : List ρ) :
    orderedWrite check entry base (writeEach put base 0 es).1 es (writeEach put base 0 es).2 := by
  suffices ∀ (rest done : List ρ), done ++ rest = es →
      (∀ j : Fin es.length, j.val < done.length →
        check (if j.val = 0 then base.getLast? else es[j.val - 1]?.map entry) (base.length + j.val) es[j] = .done) →
      orderedWrite check entry base (writeEach put (base ++ done.map entry) done.length rest).1 es
        (writeEach put (base ++ done.map entry) done.length rest).2 by
    simpa using this es [] rfl fun j h => absurd h (Nat.not_lt_zero _)
  intro rest
  induction rest with
  | nil =>
    intro done whole passed
    rw [List.append_nil] at whole
    subst whole
    refine ⟨by simp [writeEach], le_rfl, fun _ => rfl, fun j => ⟨fun h => passed j h, fun h => ?_⟩⟩
    exact absurd (h ▸ j.isLt) (lt_irrefl _)
  | cons r rest ih =>
    intro done whole passed
    have here : done.length < es.length := by simp [← whole]
    have at_here : es[done.length] = r := by simp [← whole]
    have last : (base ++ done.map entry).getLast? =
        if done.length = 0 then base.getLast? else es[done.length - 1]?.map entry := by
      rw [getLast?_append_map]
      cases done using List.reverseRecOn with
      | nil => rfl
      | append_singleton done d => simp [← whole]
    have checked := puts (base ++ done.map entry) done.length r
    rw [last, List.length_append, List.length_map] at checked
    by_cases pass : check (if done.length = 0 then base.getLast? else es[done.length - 1]?.map entry)
        (base.length + done.length) r = .done
    · simp only [pass, if_true, List.append_assoc] at checked
      rw [writeEach_cons_ok rest checked]
      have next := ih (done ++ [r]) (by simp [← whole]) fun j h => ?_
      · simpa using next
      · rw [List.length_append, List.length_singleton, Nat.lt_succ_iff_lt_or_eq] at h
        obtain before | same := h
        · exact passed j before
        · obtain rfl : j = ⟨done.length, here⟩ := Fin.ext same
          simpa [at_here] using pass
    · simp only [pass, if_false] at checked
      rw [writeEach_cons_error rest checked]
      refine ⟨by simp [← whole], here.le, fun h => absurd h here.ne, fun j => ⟨fun h => passed j h, fun same => ?_⟩⟩
      obtain rfl : j = ⟨done.length, here⟩ := Fin.ext same
      simpa [at_here] using pass

/-! ### Indexed tables (R131) -/

theorem putIndexed_eq {ρ α : Type} {k : Nat} {read : ρ → Option α} {lawful : ρ → Bool} {entry : ρ → α}
    (reads : ∀ r, read r = if lawful r = true then some (entry r) else none) (start : Nat) (table : Vector α k) (n : Nat)
    (r : ρ) : putIndexed read start table n r =
      if h : start + n < k ∧ lawful r = true then .ok (table.set (start + n) (entry r) h.1) else .error .range := by
  unfold putIndexed
  rw [reads]
  by_cases inside : start + n < k
  · by_cases law : lawful r = true
    · simp [inside, law]
    · simp [inside, law]
  · simp [inside]

/-- A write of entries `es` from index `start` on, where each entry is put at its index if that and its fields are in
range, ends as `indexedWrite` says. -/
theorem indexedWrite_writeEach {ρ α : Type} {k : Nat} {read : ρ → Option α} {lawful : ρ → Bool} {entry : ρ → α}
    (reads : ∀ r, read r = if lawful r = true then some (entry r) else none) (start : Nat) (before : Vector α k)
    (es : List ρ) :
    indexedWrite lawful entry start before (writeEach (putIndexed read start) before 0 es).1 es
      (writeEach (putIndexed read start) before 0 es).2 := by
  suffices ∀ (rest done : List ρ) (table : Vector α k), done ++ rest = es →
      (∀ i : Fin k, table[i] = ((if start ≤ i.val ∧ i.val < start + done.length then es[i.val - start]? else none).map
        entry).getD before[i]) →
      (∀ j : Fin es.length, j.val < done.length → start + j.val < k ∧ lawful es[j] = true) →
      indexedWrite lawful entry start before (writeEach (putIndexed read start) table done.length rest).1 es
        (writeEach (putIndexed read start) table done.length rest).2 by
    refine this es [] before rfl (fun i => ?_) fun j h => absurd h (Nat.not_lt_zero _)
    have none_written : ¬ (start ≤ i.val ∧ i.val < start + ([] : List ρ).length) := by
      rw [List.length_nil]
      omega
    rw [if_neg none_written]
    rfl
  intro rest
  induction rest with
  | nil =>
    intro done table whole stands passed
    rw [List.append_nil] at whole
    subst whole
    exact ⟨stands, le_rfl, fun _ => rfl, fun j => ⟨passed j, fun h => absurd (h ▸ j.isLt) (lt_irrefl _)⟩⟩
  | cons r rest ih =>
    intro done table whole stands passed
    have here : done.length < es.length := by simp [← whole]
    have at_here : es[done.length] = r := by simp [← whole]
    have checked := putIndexed_eq reads start table done.length r
    by_cases pass : start + done.length < k ∧ lawful r = true
    · rw [dif_pos pass] at checked
      rw [writeEach_cons_ok rest checked]
      have next := ih (done ++ [r]) (table.set (start + done.length) (entry r) pass.1) (by simp [← whole])
        (fun i => ?_) fun j h => ?_
      · simpa using next
      · rw [List.length_append, List.length_singleton]
        by_cases same : i.val = start + done.length
        · simp [same, List.getElem?_eq_getElem here, at_here]
        · have other : start + done.length ≠ i.val := fun e => same e.symm
          have bounds : (start ≤ i.val ∧ i.val < start + (done.length + 1)) ↔
              (start ≤ i.val ∧ i.val < start + done.length) := by omega
          simp only [bounds, ← stands i]
          exact Vector.getElem_set_ne _ _ other
      · rw [List.length_append, List.length_singleton, Nat.lt_succ_iff_lt_or_eq] at h
        obtain earlier | same := h
        · exact passed j earlier
        · obtain rfl : j = ⟨done.length, here⟩ := Fin.ext same
          simpa [at_here] using pass
    · rw [dif_neg pass] at checked
      rw [writeEach_cons_error rest checked]
      refine ⟨stands, here.le, fun h => absurd h here.ne, fun j => ⟨passed j, fun same => ⟨rfl, ?_⟩⟩⟩
      obtain rfl : j = ⟨done.length, here⟩ := Fin.ext same
      have failed : ¬ (start + done.length < k ∧ lawful es[done.length] = true) := by rwa [at_here]
      rw [not_and_or, Nat.not_lt, Bool.not_eq_true] at failed
      exact failed

/-! ### The card status list (R132, R133) -/

theorem mem_insertCard {e x : CardEntry} {xs : List CardEntry} : x ∈ insertCard e xs ↔ x = e ∨ x ∈ xs := by
  induction xs with
  | nil => simp [insertCard]
  | cons y ys ih =>
    unfold insertCard
    split_ifs
    · simp
    · simp only [List.mem_cons, ih]
      tauto

theorem length_insertCard (e : CardEntry) (xs : List CardEntry) : (insertCard e xs).length = xs.length + 1 := by
  induction xs with
  | nil => rfl
  | cons y ys ih =>
    unfold insertCard
    split_ifs
    · rfl
    · simp [ih]

/-- An entry whose card the list does not hold is put in its place (R132). -/
theorem ascending_insertCard {e : CardEntry} {xs : List CardEntry} (ascending : xs.Pairwise fun x y => x.card < y.card)
    (absent : ∀ x ∈ xs, x.card ≠ e.card) : (insertCard e xs).Pairwise fun x y => x.card < y.card := by
  induction xs with
  | nil => simp [insertCard]
  | cons y ys ih =>
    rw [List.pairwise_cons] at ascending
    obtain ⟨first, rest⟩ := ascending
    unfold insertCard
    split_ifs with below
    · refine List.pairwise_cons.mpr ⟨fun x member => ?_, List.pairwise_cons.mpr ⟨first, rest⟩⟩
      obtain rfl | later := List.mem_cons.mp member
      · exact below
      · exact BitVec.lt_trans below (first x later)
    · refine List.pairwise_cons.mpr ⟨fun x member => ?_, ih rest fun x later => absent x (List.mem_cons_of_mem y later)⟩
      obtain rfl | later := mem_insertCard.mp member
      · have differ := absent y List.mem_cons_self
        rw [← BitVec.toNat_inj.ne] at differ
        rw [BitVec.lt_def] at below ⊢
        omega
      · exact first x later

theorem Bank.any_card_iff (k : Bank) (card : CardNo) :
    k.cards.any (·.card == card) = true ↔ ∃ e ∈ k.cards, e.card = card := by
  simp [List.any_eq_true]

/-- The outcome of a CARD INSERT, by its checks in order (R132). -/
def Bank.insertOutcome (k : Bank) (r : RawCard) : Result :=
  if cardLawful r = false then .range
  else if k.cards.any (·.card == r.card) then .duplicate
  else if 4096 ≤ k.cards.length then .capacity
  else .done

/-- CARD INSERT answers its outcome, and its entry goes into its place where that is DONE (R132). -/
theorem Bank.insert_eq (k : Bank) (r : RawCard) : k.insert r =
    (if k.insertOutcome r = .done then { k with cards := insertCard (cardSpelled r) k.cards } else k,
      k.insertOutcome r) := by
  unfold Bank.insert Bank.insertOutcome
  rw [cardEntryOf_eq]
  by_cases lawful : cardLawful r = true
  · have spelled : (cardSpelled r).card = r.card := rfl
    simp only [lawful, if_true, spelled, Config.maxCards]
    by_cases present : k.cards.any (·.card == r.card) = true
    · simp [present]
    · by_cases full : 4096 ≤ k.cards.length
      · simp [present, full]
      · simp [present, full]
  · simp [lawful]

theorem Bank.insertOutcome_done {k : Bank} {r : RawCard} (done : k.insertOutcome r = .done) :
    cardLawful r = true ∧ (∀ x ∈ k.cards, x.card ≠ r.card) ∧ k.cards.length < 4096 := by
  unfold Bank.insertOutcome at done
  split_ifs at done with unlawful present full
  exact ⟨by simpa using unlawful, fun x member same => present (List.any_eq_true.mpr ⟨x, member, by simp [same]⟩),
    Nat.lt_of_not_le full⟩

theorem Bank.remove_of_present {k : Bank} {card : CardNo} (present : k.cards.any (·.card == card) = true) :
    k.remove card = ({ k with cards := k.cards.eraseP (·.card == card) }, .done) := if_pos present

theorem Bank.remove_of_absent {k : Bank} {card : CardNo} (absent : ¬ k.cards.any (·.card == card) = true) :
    k.remove card = (k, .notFound) := if_neg absent

/-- Of a strictly ascending list, taking a card's entry out leaves every other entry (R133). -/
theorem mem_eraseP_card {xs : List CardEntry} (ascending : xs.Pairwise fun x y => x.card < y.card) (card : CardNo)
    (e : CardEntry) : e ∈ xs.eraseP (·.card == card) ↔ e ∈ xs ∧ e.card ≠ card := by
  induction xs with
  | nil => simp
  | cons y ys ih =>
    rw [List.pairwise_cons] at ascending
    obtain ⟨first, rest⟩ := ascending
    by_cases here : y.card = card
    · have later (x : CardEntry) (member : x ∈ ys) : x.card ≠ card := by
        have above := first x member
        rw [here, BitVec.lt_def] at above
        exact fun same => absurd (same ▸ above) (lt_irrefl _)
      simp only [List.eraseP_cons, here, beq_self_eq_true, cond_true, List.mem_cons]
      constructor
      · exact fun member => ⟨.inr member, later e member⟩
      · rintro ⟨rfl | member, differs⟩
        · exact absurd here differs
        · exact member
    · have keep : (y.card == card) = false := by simpa using here
      simp only [List.eraseP_cons, keep, cond_false, List.mem_cons, ih rest]
      constructor
      · rintro (rfl | ⟨member, differs⟩)
        · exact ⟨.inl rfl, here⟩
        · exact ⟨.inr member, differs⟩
      · rintro ⟨rfl | member, differs⟩
        · exact .inl rfl
        · exact .inr ⟨member, differs⟩

theorem Bank.cardsAscend_insert {k : Bank} (ascend : k.cardsAscend) (r : RawCard) : (k.insert r).1.cardsAscend := by
  rw [Bank.insert_eq]
  split_ifs with done
  · obtain ⟨lawful, absent, -⟩ := Bank.insertOutcome_done done
    obtain ⟨ascending, ranges⟩ := ascend
    refine ⟨ascending_insertCard ascending absent, fun x member => ?_⟩
    obtain rfl | old := mem_insertCard.mp member
    · rw [cardLawful, ← cardInRange_eq, Bool.and_eq_true] at lawful
      exact lawful.1
    · exact ranges x old
  · exact ascend

theorem Bank.mem_insert {k : Bank} {r : RawCard} (done : (k.insert r).2 = .done) (e : CardEntry) :
    e ∈ (k.insert r).1.cards ↔ e ∈ k.cards ∨ cardEntryOf r = some e := by
  rw [Bank.insert_eq] at done ⊢
  obtain ⟨lawful, -⟩ := Bank.insertOutcome_done done
  dsimp only at done ⊢
  rw [if_pos done, mem_insertCard, cardEntryOf_eq, if_pos lawful, Option.some_inj]
  exact or_comm.trans (or_congr_right eq_comm)

theorem Bank.cardsAscend_remove {k : Bank} (ascend : k.cardsAscend) (card : CardNo) :
    (k.remove card).1.cardsAscend := by
  by_cases present : k.cards.any (·.card == card) = true
  · rw [Bank.remove_of_present present]
    exact ⟨ascend.1.sublist List.eraseP_sublist, fun x member => ascend.2 x (List.mem_of_mem_eraseP member)⟩
  · rw [Bank.remove_of_absent present]
    exact ascend

theorem Bank.mem_remove {k : Bank} (ascend : k.cardsAscend) (card : CardNo) (e : CardEntry) :
    e ∈ (k.remove card).1.cards ↔ e ∈ k.cards ∧ e.card ≠ card := by
  by_cases present : k.cards.any (·.card == card) = true
  · rw [Bank.remove_of_present present]
    exact mem_eraseP_card ascend.1 card e
  · rw [Bank.remove_of_absent present]
    rw [k.any_card_iff] at present
    exact ⟨fun member => ⟨member, fun same => present ⟨e, member, same⟩⟩, And.left⟩

theorem Bank.remove_done_iff (k : Bank) (card : CardNo) :
    (k.remove card).2 = .done ↔ ∃ e ∈ k.cards, e.card = card := by
  rw [← k.any_card_iff]
  by_cases present : k.cards.any (·.card == card) = true
  · simp [Bank.remove_of_present present, present]
  · rw [Bank.remove_of_absent present]
    exact iff_of_false nofun present

/-! ### TABLE WRITE (R129) -/

theorem Bank.writeChecked_of_count {k : Bank} {start : Nat} {body : TableBody} (h : body.count = 0 ∨ 32 < body.count) :
    k.writeChecked start body = (k, ⟨.range, 0⟩) := if_pos h

theorem Bank.writeChecked_of_counted {k : Bank} {start : Nat} {body : TableBody} (least : 1 ≤ body.count)
    (most : body.count ≤ 32) : k.writeChecked start body = k.write start body := if_neg (by omega)

theorem putCard_ne_done (cards : List CardEntry) (n : Nat) (r : RawCard) : putCard cards n r ≠ .error .done := by
  rw [putCard_eq]
  dsimp only
  split_ifs with pass
  · exact nofun
  · exact fun h => pass (Except.error.inj h)

theorem putBoundary_ne_done (bands : List Boundary) (n : Nat) (r : RawBoundary) :
    putBoundary bands n r ≠ .error .done := by
  rw [putBoundary_eq]
  dsimp only
  split_ifs with pass
  · exact nofun
  · exact fun h => pass (Except.error.inj h)

theorem putIndexed_ne_done {ρ α : Type} {k : Nat} (read : ρ → Option α) (start : Nat) (table : Vector α k) (n : Nat)
    (r : ρ) : putIndexed read start table n r ≠ .error .done := by
  unfold putIndexed
  split
  · split
    · exact nofun
    · exact fun h => absurd (Except.error.inj h) (by decide)
  · exact fun h => absurd (Except.error.inj h) (by decide)

theorem writeOrdered_written {ρ α : Type} {put : List α → Nat → ρ → Except Result (List α)}
    (fails : ∀ xs n r, put xs n r ≠ .error .done) (start : Nat) (present : List α) (es : List ρ) :
    (writeOrdered put start present es).2.written ≤ es.length ∧
      ((writeOrdered put start present es).2.result = .done →
        (writeOrdered put start present es).2.written = es.length) := by
  have each (xs : List α) := writeEach_written fails es 0 xs
  simp only [Nat.zero_add] at each
  unfold writeOrdered
  split_ifs
  · exact (each _).2
  · exact (each _).2
  · exact ⟨Nat.zero_le _, fun h => absurd h (by decide)⟩

theorem Bank.written_write (k : Bank) (start : Nat) (body : TableBody) :
    (k.write start body).2.written ≤ body.count ∧
      ((k.write start body).2.result = .done → (k.write start body).2.written = body.count) ∧
      (k.write start body).1.version = k.version := by
  have indexed {ρ α : Type} {n : Nat} (read : ρ → Option α) (table : Vector α n) (es : List ρ) :=
    writeEach_written (putIndexed_ne_done read start) es 0 table
  simp only [Nat.zero_add] at indexed
  cases body with
  | cards es =>
    obtain ⟨most, all⟩ := writeOrdered_written putCard_ne_done start k.cards es
    exact ⟨most, all, rfl⟩
  | timeBands es =>
    obtain ⟨most, all⟩ := writeOrdered_written putBoundary_ne_done start k.bands es
    exact ⟨most, all, rfl⟩
  | products es =>
    obtain ⟨-, most, all⟩ := indexed productOf k.products es
    exact ⟨most, all, rfl⟩
  | fares es =>
    obtain ⟨-, most, all⟩ := indexed fareOf k.fares es
    exact ⟨most, all, rfl⟩
  | classes es =>
    obtain ⟨-, most, all⟩ := indexed classOf k.classes es
    exact ⟨most, all, rfl⟩
  | outOfRange count => exact ⟨Nat.zero_le _, nofun, rfl⟩

theorem Bank.written_writeChecked (k : Bank) (start : Nat) (body : TableBody) :
    (k.writeChecked start body).2.written ≤ body.count ∧
      ((k.writeChecked start body).2.result = .done → (k.writeChecked start body).2.written = body.count) ∧
      (k.writeChecked start body).1.version = k.version := by
  unfold Bank.writeChecked
  split
  · exact ⟨Nat.zero_le _, nofun, rfl⟩
  · exact k.written_write start body

/-- An ordered list takes a write at its count or from 0 alone (R130). -/
theorem writeOrdered_of_order {ρ α : Type} (put : List α → Nat → ρ → Except Result (List α)) {start : Nat}
    {present : List α} (es : List ρ) (restart : start ≠ 0) (append : start ≠ present.length) :
    writeOrdered put start present es = (present, ⟨.order, 0⟩) := by
  rw [writeOrdered, if_neg restart, if_neg append]

theorem writeOrdered_at_count {ρ α : Type} (put : List α → Nat → ρ → Except Result (List α)) {present : List α}
    (es : List ρ) (some : present ≠ []) :
    writeOrdered put present.length present es = writeEach put present 0 es := by
  rw [writeOrdered, if_neg (List.length_eq_zero_iff.not.mpr some), if_pos rfl]

/-! ### The taking of a request and its work (R128) -/

theorem State.withBank_bank (s : State) (i : BankId) : s.withBank i (s.bank i) = s := by cases i <;> rfl

/-- A pending activation is cancelled with its flag (R136). -/
theorem State.cancelActivation_eq (s : State) : s.cancelActivation =
    if s.pendingActivation = none then s else { s with pendingActivation := none, flags := s.flags ||| 0x800#16 } := by
  unfold State.cancelActivation
  split
  · next i pending =>
    rw [if_neg (by simp [pending])]
    rfl
  · next none_pending => rw [if_pos none_pending]

theorem State.workTable_insert (s : State) (r : RawCard) :
    s.workTable (.insert r) = s.withBank s.shadow ((s.bank s.shadow).insert r).1 := rfl

theorem State.workTable_remove (s : State) (card : CardNo) :
    s.workTable (.remove card) = s.withBank s.shadow ((s.bank s.shadow).remove card).1 := rfl

end Sys2Proof.Machine
end


section
/-! The Journal's answer to a record and to a reservation, as a function of the journal, the clock and the batch setting
alone, and the flags it sets (R144, R147, R148, R149, R153). -/

namespace Sys2Proof.Machine

/-! ### Flags -/

/-- `m` where `c` holds, and no flag otherwise. -/
def flagsIf (c : Bool) (m : Half) : Half := if c then m else 0

theorem State.raiseIf_eq (s : State) (c : Bool) (x : NoticeFlag) :
    s.raiseIf c x = { s with flags := s.flags ||| flagsIf c x.mark } := by
  cases c
  · simp [State.raiseIf, flagsIf]
  · rfl

/-! ### One record -/

/-- A record whose batch is full (R153). -/
def Journal.batchDue (j : Journal) (batch : Nat) : Bool := batch != 0 && decide (batch ≤ j.batch + 1)

/-- The record that a draft makes now (R144). -/
def Journal.stamped (j : Journal) (clock : Clock) (d : Draft) : Record :=
  if clock.isSet then ⟨j.next, clock.day, clock.secs, d⟩ else ⟨j.next, 0, 0, d⟩

/-- A record stored (R144, R153). -/
def Journal.stored (j : Journal) (clock : Clock) (batch : Nat) (d : Draft) : Journal := { j with
  records := j.records ++ [j.stamped clock d]
  next := j.next + 1
  batch := if batch = 0 then j.batch else if j.batchDue batch then 0 else j.batch + 1 }

/-- The journal after a record: stored in its reserved slot or a free one, or counted in the tally (R144, R149). -/
def Journal.recorded (j : Journal) (clock : Clock) (batch : Nat) (reserved : Bool) (d : Draft) : Journal :=
  if reserved then { j.stored clock batch d with reservations := j.reservations - 1 }
  else if j.occupancy < 2048 then j.stored clock batch d
  else { j with tally := j.tally.set d.kind.index (min 65535 (j.tally[d.kind.index] + 1)) }

/-- The flags of an occupancy that rises by one from `n` (R148). -/
def occupancyFlags (n : Nat) : Half := (if n + 1 = 1792 then 0x80#16 else 0) ||| (if n + 1 = 2048 then 0x100#16 else 0)

/-- The flags that a record sets (R148, R153). -/
def Journal.recordFlags (j : Journal) (batch : Nat) (reserved : Bool) : Half :=
  if reserved then flagsIf (j.batchDue batch) 0x200#16
  else if j.occupancy < 2048 then flagsIf (j.batchDue batch) 0x200#16 ||| occupancyFlags j.occupancy
  else 0

theorem State.store_eq (s : State) (d : Draft) : s.store d = { s with
    journal := s.journal.stored s.clock s.settings.journalBatch d
    flags := s.flags ||| flagsIf (s.journal.batchDue s.settings.journalBatch) 0x200#16 } := by
  rw [State.store, State.raiseIf_eq]
  rfl

/-- The marks compared after the occupancy has risen by one (R148). -/
theorem State.compareMarks_eq (s : State) {n : Nat} (rose : s.journal.occupancy = n + 1) :
    s.compareMarks n = { s with flags := s.flags ||| occupancyFlags n } := by
  have mark {top : Nat} (x : NoticeFlag) (positive : 0 < top) :
      flagsIf (decide (n < top) && decide (top ≤ n + 1)) x.mark = if n + 1 = top then x.mark else 0 := by
    have crossed : (decide (n < top) && decide (top ≤ n + 1)) = decide (n + 1 = top) := by
      rw [Bool.eq_iff_iff]
      simp
      omega
    simp [flagsIf, crossed]
  unfold State.compareMarks
  rw [State.raiseIf_eq, State.raiseIf_eq, rose, mark _ (by decide), mark _ (by decide)]
  dsimp only
  rw [BitVec.or_assoc]
  rfl

/-- The Journal takes a record: the journal and the flags alone change. -/
theorem State.record_eq (s : State) (reserved : Bool) (d : Draft) : s.record reserved d = { s with
    journal := s.journal.recorded s.clock s.settings.journalBatch reserved d
    flags := s.flags ||| s.journal.recordFlags s.settings.journalBatch reserved } := by
  have rose : (s.store d).journal.occupancy = s.journal.occupancy + 1 := by
    simp [State.store_eq, Journal.stored, Journal.occupancy]
    omega
  unfold State.record Journal.recorded Journal.recordFlags
  cases reserved
  · simp only [Bool.false_eq_true, if_false]
    by_cases room : s.journal.occupancy < 2048
    · rw [if_pos room, if_pos room, if_pos (show s.journal.occupancy < Config.journalCapacity from room),
        State.compareMarks_eq _ rose, State.store_eq]
      simp only [BitVec.or_assoc]
    · rw [if_neg room, if_neg room, if_neg (show ¬ s.journal.occupancy < Config.journalCapacity from room)]
      simp [State.countOverflow, saturate, top16]
  · simp only [if_true]
    rw [State.store_eq]
    rfl

theorem State.reserve_eq (s : State) : s.reserve = { s with
    journal := { s.journal with reservations := s.journal.reservations + 1 }
    flags := s.flags ||| occupancyFlags s.journal.occupancy } := by
  rw [State.reserve, State.compareMarks_eq (n := s.journal.occupancy)]
  simp only [Journal.occupancy]
  omega

end Sys2Proof.Machine

open Sys2Proof Sys2Proof.Machine

/-- Settles O48: the record's equation in its three cases, and the reservation's. -/
theorem theJournalStoresOrCountsARecord : Obligations.TheJournalStoresOrCountsARecord := by
  intro s d j time full stored lit marks
  have due : j.batchDue s.settings.journalBatch = decide full := by
    rw [Bool.eq_iff_iff]
    simp [Journal.batchDue, full]
  have lights : s.flags ||| flagsIf (j.batchDue s.settings.journalBatch) 0x200#16 = lit := by
    simp [lit, due, flagsIf]
  have stores : j.stored s.clock s.settings.journalBatch d = stored := by
    have stamp : j.stamped s.clock d = ⟨j.next, time.1, time.2, d⟩ := by
      simp only [Journal.stamped, time]
      split_ifs <;> rfl
    simp only [Journal.stored, stamp, due, decide_eq_true_eq, stored]
  have marked (k : Nat) : occupancyFlags k = marks k := rfl
  refine ⟨?_, fun room => ?_, fun crowded => ?_, s.reserve_eq⟩
  · rw [State.record_eq, Journal.recorded, Journal.recordFlags, if_pos rfl, if_pos rfl, stores, lights]
  · have room' : s.journal.occupancy < 2048 := room
    simp only [State.record_eq, Journal.recorded, Journal.recordFlags, Bool.false_eq_true, if_false, if_pos room', ← BitVec.or_assoc]
    simp only [j] at stores lights
    rw [stores, lights]
    rfl
  · have crowded' : ¬ s.journal.occupancy < 2048 := Nat.not_lt.mpr crowded
    simp only [State.record_eq, Journal.recorded, Journal.recordFlags, Bool.false_eq_true, if_false, if_neg crowded']
    simp [j]

end

section
/-! The table requests as operations (R128): taken or waiting, and their work. -/

namespace Sys2Proof.Machine

theorem TableRequest.hasWork_eq_false_iff (r : TableRequest) : r.hasWork = false ↔ r.kind = .tableActivate := by
  cases r <;> simp [TableRequest.hasWork, TableRequest.kind]

/-- A table request's command is its arrival. -/
theorem exec_of_tableRequest {c : Instr} {tag : Byte} {r : TableRequest} (carries : tableRequestOf c = some (tag, r))
    (s : State) : exec c s = .next (s.arrive tag r) := by
  cases c <;> simp only [tableRequestOf, Option.some.injEq, Prod.mk.injEq, reduceCtorEq] at carries <;>
    obtain ⟨rfl, rfl⟩ := carries <;> rfl

/-! ### The taking leaves alone what the depot link holds -/

/-- What the depot link and the request in progress hold besides the taking's own state. -/
def State.withDepot (s t : State) : State :=
  { s with depotLost := t.depotLost, silenceTimer := t.silenceTimer, depotOut := t.depotOut, request := t.request }

theorem State.withDepot_record (s t : State) (reserved : Bool) (d : Draft) :
    (s.withDepot t).record reserved d = (s.record reserved d).withDepot t := by
  rw [State.record_eq, State.record_eq]
  rfl

theorem State.withDepot_withBank (s t : State) (i : BankId) (k : Bank) :
    (s.withDepot t).withBank i k = (s.withBank i k).withDepot t := by cases i <;> rfl

theorem State.shadowBank_withDepot (s t : State) : (s.withDepot t).shadowBank = s.shadowBank := by
  have bank (i : BankId) : (s.withDepot t).bank i = s.bank i := by cases i <;> rfl
  exact bank s.shadow

theorem State.withDepot_swap (s t : State) : (s.withDepot t).swap = s.swap.withDepot t := by
  rw [State.swap_eq_swapped, State.swap_eq_swapped, State.swapped, State.swapped, State.withDepot_record,
    State.shadowBank_withDepot]
  rfl

theorem State.withDepot_cancelActivation (s t : State) :
    (s.withDepot t).cancelActivation = s.cancelActivation.withDepot t := by
  rw [State.cancelActivation_eq, State.cancelActivation_eq, apply_ite (State.withDepot · t)]
  rfl

/-- The taking neither reads nor changes what the depot link holds. -/
theorem State.withDepot_takeTable (s t : State) (r : TableRequest) :
    (s.withDepot t).takeTable r = ((s.takeTable r).1.withDepot t, (s.takeTable r).2) := by
  cases r with
  | activate version expected timing day secs =>
    have versioned (k : Bank) : (s.withDepot t).withShadow k = (s.withShadow k).withDepot t :=
      State.withDepot_withBank _ _ _ _
    simp only [State.takeTable, State.takeActivate, State.shadowBank_withDepot, versioned, State.withDepot_swap]
    cases timingOf timing day secs with
    | none => rfl
    | some timing =>
      cases timing with
      | now => dsimp only; split_ifs <;> rfl
      | _ =>
        have clock : (s.withDepot t).clock = s.clock := rfl
        dsimp only
        rw [clock]
        split_ifs <;> rfl
  | write start body => exact Prod.ext (State.withDepot_cancelActivation s t) (by cases s.shadow <;> rfl)
  | insert entry => exact Prod.ext (State.withDepot_cancelActivation s t) (by cases s.shadow <;> rfl)
  | remove card => exact Prod.ext (State.withDepot_cancelActivation s t) (by cases s.shadow <;> rfl)
  | clear => exact Prod.ext (State.withDepot_cancelActivation s t) rfl
  | copy => exact Prod.ext (State.withDepot_cancelActivation s t) rfl

/-- A request that meets none is heard, and put in progress (R128, R170). -/
theorem State.arrive_of_free {s : State} (tag : Byte) (r : TableRequest) (h : s.request = none) :
    s.arrive tag r =
      let r := ({ s.goodFrame with request := some ⟨tag, r, .waiting⟩ }).takeWaiting
      (r.1.noticed s.flags).send r.2 := by
  simp only [State.arrive, State.goodFrame, h, State.notify_eq_noticed]

section Arrival

variable {s : State} (tag : Byte) (r : TableRequest) (free : s.request = none)
include free

theorem State.arrive_of_locked (locked : s.readLocked = true) :
    s.arrive tag r = s.answered { s with request := some ⟨tag, r, .waiting⟩ } [] := by
  have waits : State.takeWaiting { s.goodFrame with request := some ⟨tag, r, .waiting⟩ } =
      ({ s.goodFrame with request := some ⟨tag, r, .waiting⟩ }, []) := if_pos locked
  rw [State.arrive_of_free tag r free, waits, State.answered_nil]
  simp only [State.send_nil]
  exact State.noticed_of_flags rfl

omit free in
/-- What the taking makes of a request that arrives while the lock is free. -/
theorem State.takeWaiting_of_arrival (unlocked : s.readLocked = false) :
    State.takeWaiting { s.goodFrame with request := some ⟨tag, r, .waiting⟩ } =
      if r.hasWork then
        ({ (s.takeTable r).1.withDepot s.goodFrame with request := some ⟨tag, r, .working (s.takeTable r).2⟩ }, [])
      else ({ (s.takeTable r).1.withDepot s.goodFrame with request := none }, [.reply r.kind tag (s.takeTable r).2]) := by
  let heard : State := { s.goodFrame with request := some ⟨tag, r, .waiting⟩ }
  have free_lock : heard.readLocked = false := unlocked
  have taken : heard.takeTable r = ((s.takeTable r).1.withDepot heard, (s.takeTable r).2) :=
    s.withDepot_takeTable heard r
  change heard.takeWaiting = _
  simp only [State.takeWaiting, heard]
  rw [if_neg (by rw [free_lock]; decide), taken]
  rfl

theorem State.arrive_of_edit (unlocked : s.readLocked = false) (edit : r.kind ≠ .tableActivate) :
    s.arrive tag r = s.answered { (s.takeTable r).1 with request := some ⟨tag, r, .working (s.takeTable r).2⟩ }
      (noticeFor s.flags (s.takeTable r).1) := by
  have work : r.hasWork = true := by
    rw [← Bool.not_eq_false, r.hasWork_eq_false_iff]
    exact edit
  rw [State.arrive_of_free tag r free, State.takeWaiting_of_arrival tag r unlocked, if_pos work]
  simp only [State.send_nil]
  rfl

theorem State.arrive_of_activate (unlocked : s.readLocked = false) (activate : r.kind = .tableActivate) :
    s.arrive tag r = s.replied { (s.takeTable r).1 with request := none } .tableActivate tag (s.takeTable r).2 := by
  have idle : ¬ r.hasWork = true := by
    rw [Bool.not_eq_true, r.hasWork_eq_false_iff]
    exact activate
  rw [State.arrive_of_free tag r free, State.takeWaiting_of_arrival tag r unlocked, if_neg idle, activate]
  simp only [State.send, State.replied, State.answered, ← List.append_assoc]
  rfl

end Arrival

/-- The taking leaves the request in progress to the event (R128). -/
theorem State.takeTable_request (s : State) (r : TableRequest) : (s.takeTable r).1.request = s.request := by
  have kept := congrArg (fun x => x.1.request) (s.withDepot_takeTable s r)
  exact kept

end Sys2Proof.Machine

open Sys2Proof Sys2Proof.Machine

/-- Settles O44: the arrival under a locked shadow, of an edit and of a TABLE ACTIVATE, and the end of the work. -/
theorem aTableRequestIsTakenOrWaits : Obligations.ATableRequestIsTakenOrWaits := by
  refine ⟨fun c s free tag r carries => ?_, fun s => ⟨fun j progress body works => ?_, fun idle => ?_⟩⟩
  · simp only [exec_of_tableRequest carries, Host.Outcome.next.injEq]
    refine ⟨State.arrive_of_locked tag r free, State.arrive_of_edit tag r free, fun unlocked activate => ?_⟩
    rw [State.arrive_of_activate tag r free unlocked activate]
    congr 1
    rw [← free, ← s.takeTable_request r]
  · obtain ⟨tag, request, phase⟩ := j
    obtain rfl : phase = .working body := works
    have sent : (s.workTable request).depotOut = s.depotOut := by rw [State.workTable_shape]
    simp only [exec, execTableWorkDone, progress, State.reply, State.transmit, sent]
  · simp only [exec, execTableWorkDone]
    split
    · next progress => simp [progress, TableJob.waits] at idle
    · rfl

/-- Settles O45: each edit's taking cancels what is pending, and its work is the edit of the shadow. -/
theorem tableRequestsEditTheShadowAndCancel : Obligations.TableRequestsEditTheShadowAndCancel := by
  intro s kept shadow
  have cancelled : s.cancelActivation = kept := s.cancelActivation_eq
  refine ⟨⟨congrArg (·, _) cancelled, rfl⟩, fun unset => ?_, fun i set => ?_, fun card => ?_,
    fun r => ?_, fun start body => ⟨congrArg (·, _) cancelled, rfl⟩, fun _ _ _ _ _ => rfl⟩
  · simp only [State.takeTable, State.workTable, unset, cancelled, Option.isSome_none, Bool.false_eq_true, if_false,
      and_self]
  · simp only [State.takeTable, State.workTable, set, cancelled, Option.isSome_some, if_true, State.withShadow, and_self]
  · intro present
    constructor
    · simp only [State.takeTable, cancelled]
      refine congrArg (kept, ReplyBody.plain ·) ?_
      by_cases here : present = true
      · rw [if_pos here]
        exact congrArg Prod.snd (Bank.remove_of_present here)
      · rw [if_neg here]
        exact congrArg Prod.snd (Bank.remove_of_absent here)
    · rw [State.workTable_remove]
      by_cases here : present = true
      · rw [if_pos here, Bank.remove_of_present here]
      · rw [if_neg here, Bank.remove_of_absent here, State.withBank_bank]
  · intro outcome
    have inserted : shadow.insert r =
        (if outcome = .done then { shadow with cards := insertCard (cardSpelled r) shadow.cards } else shadow, outcome) :=
      shadow.insert_eq r
    constructor
    · simp only [State.takeTable, cancelled]
      exact congrArg (kept, ReplyBody.plain ·) (congrArg Prod.snd inserted)
    · rw [State.workTable_insert, inserted]
      split_ifs
      · rfl
      · exact s.withBank_bank _

/-- Settles O46: the writes entry by entry, from the general lemmas on ordered and indexed writes, and the card list's
inserts and removals. -/
theorem tableWritesStopAtTheFirstFailureAndKeepOrder : Obligations.TableWritesStopAtTheFirstFailureAndKeepOrder := by
  have fares (r : Half) : fareOf r = if decide (r.toNat ≤ 9999) = true then some r.toNat else none := by simp [fareOf]
  refine ⟨⟨fun k start body => Bank.writeChecked_of_count, Bank.written_writeChecked⟩, ⟨fun k es least most => ?_,
    fun k es least most => ?_⟩, ⟨fun k start es least most => ?_, fun k start es least most => ?_,
    fun k start es least most => ?_⟩, fun k ascend => ⟨fun r => ⟨Bank.cardsAscend_insert ascend r, Bank.mem_insert⟩,
    fun card => ⟨Bank.cardsAscend_remove ascend card, Bank.mem_remove ascend card, k.remove_done_iff card⟩⟩⟩
  · have counted (start : Nat) := Bank.writeChecked_of_counted (k := k) (start := start) (body := .cards es) least most
    simp only [counted]
    refine ⟨fun start restart append => ?_, ⟨rfl, orderedWrite_writeEach putCard_eq [] es⟩, fun some => ⟨rfl, ?_⟩⟩
    · simp only [Bank.write, writeOrdered_of_order putCard es restart append]
    · simp only [Bank.write, writeOrdered_at_count putCard es some]
      exact orderedWrite_writeEach putCard_eq k.cards es
  · have counted (start : Nat) := Bank.writeChecked_of_counted (k := k) (start := start) (body := .timeBands es) least most
    simp only [counted]
    refine ⟨fun start restart append => ?_, ⟨rfl, orderedWrite_writeEach putBoundary_eq [] es⟩, fun some => ⟨rfl, ?_⟩⟩
    · simp only [Bank.write, writeOrdered_of_order putBoundary es restart append]
    · simp only [Bank.write, writeOrdered_at_count putBoundary es some]
      exact orderedWrite_writeEach putBoundary_eq k.bands es
  · rw [Bank.writeChecked_of_counted (body := .products es) least most]
    exact ⟨rfl, indexedWrite_writeEach productOf_eq start k.products es⟩
  · rw [Bank.writeChecked_of_counted (body := .fares es) least most]
    exact ⟨rfl, indexedWrite_writeEach fares start k.fares es⟩
  · rw [Bank.writeChecked_of_counted (body := .classes es) least most]
    exact ⟨rfl, indexedWrite_writeEach classOf_eq start k.classes es⟩

end

section
/-! What a command can do at all: the primitive acts at the units, and beside them the deeds of the other blocks. Every
command but POWER_ON is a chain of such deeds, so that a law which each of them keeps holds after every step. -/

namespace Sys2Proof.Machine

/-- The clock's values lie in their ranges, with 0 and 0 while it is UNSET, and it runs when and only when it is SET
(R62, R66). -/
def Clock.inRange (c : Clock) : Prop :=
  c.day ≤ 65535 ∧ c.secs ≤ 86399 ∧ c.running = c.isSet ∧ (c.isSet = false → c.day = 0 ∧ c.secs = 0)

/-- One deed of a command: work at the units that ends with the gate orders worked out; release set or cleared between two
such; a change of what the lanes, the journal, the clock, the settings, release, the flags and the queue are no part of; a
new time or setting, in range where the old one was; records released; the tally cleared; and, where the command `clears`,
another flag word. -/
inductive State.Deed (clears : Bool) : State → State → Prop
  | works {s t : State} (work : s.Works (fun _ => True) t) (gates : s.gatesInOrder → t.gatesInOrder) :
      Deed clears s t
  | release {s u t : State} (active : Bool) (before : s.Works (fun _ => True) u)
      (after : State.Works (fun _ => True) { u with releaseActive := active } t) (gates : t.gatesInOrder) :
      Deed clears s t
  | rest {s t : State} (lanes : t.lanes = s.lanes) (journal : t.journal = s.journal) (clock : t.clock = s.clock)
      (settings : t.settings = s.settings) (release : t.releaseActive = s.releaseActive) (flags : t.flags = s.flags)
      (pending : t.pending = s.pending) : Deed clears s t
  | clock (s : State) (c : Clock) (range : s.clock.inRange → c.inRange) : Deed clears s { s with clock := c }
  | settings (s : State) (x : Settings) (range : s.settings.inRange → x.inRange) :
      Deed clears s { s with settings := x }
  | releaseRecords (s : State) (k : Nat) :
      Deed clears s { s with journal := { s.journal with records := s.journal.records.drop k } }
  | clearTally (s : State) : Deed clears s { s with journal := { s.journal with tally := .replicate 10 0 } }
  | clearFlags (s : State) (flags : Half) (h : clears = true) : Deed clears s { s with flags := flags }

/-- A chain of deeds. -/
abbrev State.Deeds (clears : Bool) : State → State → Prop := Relation.ReflTransGen (State.Deed clears)

theorem State.Act.mono {gated wider : LaneId → Prop} (widen : ∀ l, gated l → wider l) {s t : State}
    (h : s.Act gated t) : s.Act wider t := by
  cases h with
  | lane l f slots gate => exact .lane s l f slots fun other => gate fun own => other (widen l own)
  | berth b f halt => exact .berth s b f halt
  | record reserved d => exact .record s reserved d
  | reserve => exact .reserve s
  | raise x => exact .raise s x
  | pier p => exact .pier s p
  | recovery es => exact .recovery s es
  | free => exact .free s
  | goOn v next bank => exact .goOn s v next bank
  | countFree used => exact .countFree s used

theorem State.Works.mono {gated wider : LaneId → Prop} (widen : ∀ l, gated l → wider l) {s t : State}
    (h : s.Works gated t) : s.Works wider t :=
  Relation.ReflTransGen.mono (fun _ _ => State.Act.mono widen) s t h

/-- Work that touches no gate. -/
theorem State.Works.deeds {s t : State} {clears : Bool} (h : s.Works (fun _ => False) t) : State.Deeds clears s t :=
  .single (.works (State.Works.mono (fun _ => False.elim) h) (State.Works.gatesInOrder h))

/-- Work that ends with the orders worked out. -/
theorem State.Works.gateDeeds {s t : State} {clears : Bool} (h : s.Works (fun _ => True) t)
    (gates : s.gatesInOrder → t.gatesInOrder) : State.Deeds clears s t :=
  .single (.works h gates)

namespace State

variable (s : State) {clears : Bool} {gated : LaneId → Prop}

/-- A change of what only `Deed.rest` covers. -/
theorem deeds_rest {s t : State} (lanes : t.lanes = s.lanes) (journal : t.journal = s.journal)
    (clock : t.clock = s.clock) (settings : t.settings = s.settings) (release : t.releaseActive = s.releaseActive)
    (flags : t.flags = s.flags) (pending : t.pending = s.pending) : Deeds clears s t :=
  .single (.rest lanes journal clock settings release flags pending)

/-! ### The Table Store -/

theorem deeds_withBank (i : BankId) (k : Bank) : Deeds clears s (s.withBank i k) := by
  cases i <;> exact deeds_rest rfl rfl rfl rfl rfl rfl rfl

theorem deeds_swap : Deeds clears s s.swap := by
  have pointed : Deeds clears s { s with active := some s.shadow, pendingActivation := none } :=
    deeds_rest rfl rfl rfl rfl rfl rfl rfl
  exact pointed.trans (Works.deeds ((works_raise _ _).trans (works_record _ _ _)))

theorem deeds_handTime : Deeds clears s s.handTime := by
  obtain same | ⟨swapped, -⟩ := s.handTime_cases
  · rw [same]
  · rw [swapped]
    exact s.deeds_swap

theorem deeds_cancelActivation : Deeds clears s s.cancelActivation := by
  unfold cancelActivation
  split
  · have gone : Deeds clears s { s with pendingActivation := none } := deeds_rest rfl rfl rfl rfl rfl rfl rfl
    exact gone.trans (Works.deeds (works_raise _ _))
  · exact .refl

theorem deeds_takeActivate (version : Quad) (expected : Half) (timing : Byte) (day : Half) (secs : Quad) :
    Deeds clears s (s.takeActivate version expected timing day secs).1 := by
  have versioned : Deeds clears s _ := s.deeds_withBank s.shadow { s.shadowBank with version := version }
  unfold takeActivate
  split
  · exact .refl
  · split
    · dsimp only
      split
      · exact versioned.trans (deeds_swap _)
      · split
        · exact versioned.trans (deeds_swap _)
        · exact versioned.trans (deeds_rest rfl rfl rfl rfl rfl rfl rfl)
    · exact .refl

theorem deeds_takeTable (r : TableRequest) : Deeds clears s (s.takeTable r).1 := by
  cases r
  case activate => exact s.deeds_takeActivate _ _ _ _ _
  all_goals exact s.deeds_cancelActivation

theorem deeds_workTable (r : TableRequest) : Deeds clears s (s.workTable r) := by
  rw [s.workTable_shape]
  exact deeds_rest rfl rfl rfl rfl rfl rfl rfl

theorem deeds_setRequest (job : Option TableJob) : Deeds clears s { s with request := job } :=
  deeds_rest rfl rfl rfl rfl rfl rfl rfl

theorem deeds_takeWaiting : Deeds clears s s.takeWaiting.1 := by
  obtain same | ⟨j, -, -, -, ⟨-, taken⟩ | ⟨-, taken⟩⟩ := s.takeWaiting_cases
  · rw [same]
  · rw [taken]
    exact (s.deeds_takeTable _).trans (deeds_setRequest _ _)
  · rw [taken]
    exact (s.deeds_takeTable _).trans (deeds_setRequest _ _)

/-! ### The end of an event -/

theorem deeds_grant (l : LaneId) : Deeds clears s (s.grant l) := by
  unfold grant
  split
  · next image _ =>
    have latched : Deeds clears s (s.onLane l fun x => { x with txn := .validating image }) :=
      Works.deeds (s.works_onLane_of_link l _ rfl)
    exact latched.trans (deeds_rest rfl rfl rfl rfl rfl rfl rfl)
  · exact .refl

theorem deeds_arbitrate : Deeds clears s s.arbitrate := by
  unfold arbitrate
  split
  · exact s.deeds_grant _
  · exact .refl

theorem deeds_transmit (f : DepotFrame) : Deeds clears s (s.transmit f) :=
  deeds_rest rfl rfl rfl rfl rfl rfl rfl

theorem deeds_send (fs : List DepotFrame) : Deeds clears s (s.send fs) :=
  deeds_rest rfl rfl rfl rfl rfl rfl rfl

theorem deeds_notify (before : Half) : Deeds clears s (s.notify before) := by
  rw [notify_eq_noticed]
  exact deeds_rest rfl rfl rfl rfl rfl rfl rfl

theorem deeds_endEvent (before : Half) : Deeds clears s (s.endEvent before) :=
  (((s.deeds_takeWaiting).trans (deeds_arbitrate _)).trans (deeds_notify _ before)).trans
    (deeds_send _ _)

/-! ### Release and the pier lines -/

theorem deeds_onLine (i : LineId) (f : PierLine → PierLine) : Deeds clears s (s.onLine i f) :=
  deeds_rest rfl rfl rfl rfl rfl rfl rfl

theorem deeds_foldl {α : Type} {act : State → α → State} 
    (deeds : ∀ (t : State) x, Deeds clears t (act t x)) (xs : List α) : Deeds clears s (xs.foldl act s) := by
  induction xs generalizing s with
  | nil => exact .refl
  | cons x xs ih => exact (deeds s x).trans (ih _)

/-- The start of release: work at the units, release active, and work again (R161). -/
theorem works_releaseBegins : ∃ u, s.Works (fun _ => True) u ∧
    Works (fun _ => True) { u with releaseActive := true } s.releaseBegins :=
  ⟨_, ((((s.works_eachLane fun t l => t.works_onLane_of_link l Lane.enterRelease rfl).tail (.free _)).trans
    (works_eachLane _ fun t _ => t.works_forfeitAll trivial true)).trans (works_eachLane _ fun t l => t.works_orphan l)).trans
      (works_closeEntries _ true fun _ => true),
    (works_eachLane _ fun t l => (t.works_reworkGate trivial).trans (works_showFreeExit _ l)).trans
      (works_raise _ _)⟩

/-- The end of release: work at the units, release inactive, and work again (R163). -/
theorem works_releaseEnds : ∃ u, s.Works (fun _ => True) u ∧
    Works (fun _ => True) { u with releaseActive := false } s.releaseEnds :=
  ⟨_, s.works_eachLane fun t _ => t.works_onLane_gate trivial Lane.leaveRelease id,
    ((works_eachLane _ fun t _ => t.works_renewGate trivial).trans (works_eachLane _ fun t l => t.works_showAfterRelease l)).trans
      (works_raise _ _)⟩

theorem deeds_workOutRelease : Deeds clears s s.workOutRelease := by
  unfold workOutRelease
  split
  · obtain ⟨u, before, after⟩ := s.works_releaseBegins
    exact .single (.release true before after (gatesInOrder_releaseBegins s))
  · split
    · obtain ⟨u, before, after⟩ := s.works_releaseEnds
      exact .single (.release false before after (gatesInOrder_releaseEnds s))
    · exact .refl

theorem deeds_onBerth (b : BerthId) (f : Berth → Berth) : Deeds clears s (s.onBerth b f) :=
  deeds_rest rfl rfl rfl rfl rfl rfl rfl

theorem deeds_setLineSource (low : Bool) : Deeds clears s { s with lineSource := low } :=
  deeds_rest rfl rfl rfl rfl rfl rfl rfl

theorem deeds_setFrameSource (on : Bool) : Deeds clears s { s with frameSource := on } :=
  deeds_rest rfl rfl rfl rfl rfl rfl rfl

theorem deeds_tellHalts : Deeds clears s s.tellHalts :=
  s.deeds_foldl (fun t b => t.deeds_onBerth b fun x => { x with halted := s.haltCondition b }) allBerths

theorem deeds_followLines : Deeds clears s s.followLines := by
  unfold followLines
  dsimp only
  split
  · exact s.deeds_tellHalts
  · exact (s.deeds_tellHalts.trans (deeds_setLineSource _ _)).trans (deeds_workOutRelease _)

theorem works_pulse (i : LineId) : s.Works gated (s.pulse i) := by
  unfold pulse
  split
  · split
    · exact s.works_tally _
    · exact .refl
  · exact .refl

/-! ### The settings and the control reset -/

theorem deeds_reloadSilence : Deeds clears s s.reloadSilence := by
  unfold reloadSilence
  split <;> exact deeds_rest rfl rfl rfl rfl rfl rfl rfl

theorem deeds_notifyUnmasked (before : Half) : Deeds clears s (s.notifyUnmasked before) := by
  unfold notifyUnmasked
  split
  · exact s.deeds_transmit _
  · exact .refl

end State

/-- A value brought to a range lies in it. -/
theorem clamp_le {low high : Nat} (h : low ≤ high) (v : Nat) : clamp low high v ≤ high := by
  unfold clamp
  omega

theorem le_clamp (low high v : Nat) : low ≤ clamp low high v := Nat.le_max_left _ _

/-- A setting written with its applied value is in its range (R171). -/
theorem Settings.inRange_put {x : Settings} (h : x.inRange) {n : SettingName} {value v : Nat}
    (applied : n.applied value = some v) : (x.put n v).inRange := by
  have := @clamp_le
  have := @le_clamp
  obtain ⟨pier, hold, hold', write, write', recovery, recovery', passback, overdraft, quiet, silence, batch, miss, miss',
    gangway⟩ := h
  cases n
  case gangway b =>
    obtain rfl : clamp 0 Config.maxPlaces value = v := by simpa [SettingName.applied] using applied
    refine ⟨pier, hold, hold', write, write', recovery, recovery', passback, overdraft, quiet, silence, batch, miss,
      miss', fun c => ?_⟩
    by_cases same : b = c
    · subst same
      simpa [Settings.put, Config.maxPlaces] using clamp_le (Nat.zero_le Config.maxPlaces) value
    · have other : (b : Nat) ≠ c := fun e => same (Fin.ext e)
      simpa [Settings.put, other] using gangway c
  all_goals
    simp only [SettingName.applied, clamp, Option.some.injEq] at applied
    refine ⟨?_, ?_, ?_, ?_, ?_, ?_, ?_, ?_, ?_, ?_, ?_, ?_, ?_, ?_, gangway⟩ <;> dsimp only [Settings.put] <;> omega

theorem Settings.inRange_defaults : Settings.defaults.inRange := by decide

namespace State

variable (s : State) {clears : Bool}

theorem deeds_putSetting {n : SettingName} {value v : Nat} (applied : n.applied value = some v) :
    Deeds clears s (s.putSetting n v) := by
  have written : Deeds clears s { s with settings := s.settings.put n v } :=
    .single (.settings s _ fun h => Settings.inRange_put h applied)
  unfold putSetting
  dsimp only
  split
  · exact written.trans (deeds_reloadSilence _)
  · exact written.trans (deeds_notifyUnmasked _ _)
  · exact written

theorem deeds_defaultSettings : Deeds clears s s.defaultSettings := by
  have defaults : Deeds clears s { s with settings := Settings.defaults } :=
    .single (.settings s _ fun _ => Settings.inRange_defaults)
  exact ((defaults.trans (deeds_foldl _ (fun t i => t.deeds_onLine i _) allLines)).trans
    (deeds_reloadSilence _)).trans (deeds_followLines _)

theorem deeds_endEverything : Deeds clears s s.endEverything := by
  have reset : Deeds clears s (s.eachLane fun t l => t.laneReset l .controlReset) :=
    Works.gateDeeds (s.works_eachLane fun t _ => t.works_laneReset trivial .controlReset)
      (gatesInOrder_foldl (fun _ l h => gatesInOrder_laneReset h l .controlReset) allLanes)
  exact reset.trans (Works.deeds ((Relation.ReflTransGen.single (.free _)).trans (works_closeEntries _ false _)))

theorem deeds_clearAndDefault : Deeds true s s.clearAndDefault := by
  have cleared : Deeds true s { s with flags := 0 } := .single (.clearFlags s 0 rfl)
  unfold clearAndDefault
  dsimp only
  split
  · exact cleared
  · exact cleared.trans (deeds_defaultSettings _)

theorem deeds_controlReset : Deeds true s s.controlReset :=
  (((s.deeds_endEverything.trans (deeds_clearAndDefault _)).trans (deeds_setFrameSource _ false)).trans
    (deeds_workOutRelease _)).trans (deeds_arbitrate _)

/-! ### The ends of requests -/

theorem deeds_goodFrame : Deeds clears s s.goodFrame := deeds_rest rfl rfl rfl rfl rfl rfl rfl

theorem deeds_reply (kind : RequestKind) (tag : Byte) (body : ReplyBody) : Deeds clears s (s.reply kind tag body) :=
  s.deeds_transmit _

theorem deeds_answer (kind : RequestKind) (tag : Byte) {owner : State → State × ReplyBody}
    (deeds : ∀ t : State, Deeds clears t (owner t).1) : Deeds clears s (s.answer kind tag owner) := by
  unfold answer
  dsimp only
  split
  · exact (s.deeds_goodFrame).trans (deeds_reply _ _ _ _)
  · exact (((s.deeds_goodFrame).trans (deeds _)).trans (deeds_notify _ _)).trans
      (deeds_reply _ _ _ _)

theorem deeds_answer_inRange (kind : RequestKind) (tag : Byte) {α : Type} (unit : Option α)
    {owner : α → State → State × ReplyBody} (deeds : ∀ x (t : State), Deeds clears t (owner x t).1) :
    Deeds clears s (s.answer kind tag (inRange unit owner)) := by
  refine s.deeds_answer kind tag fun t => ?_
  unfold inRange
  split
  · exact deeds _ t
  · exact .refl

theorem deeds_arrive (tag : Byte) (r : TableRequest) : Deeds clears s (s.arrive tag r) := by
  unfold arrive
  dsimp only
  split
  · exact (s.deeds_goodFrame).trans (deeds_reply _ _ _ _)
  · exact ((((s.deeds_goodFrame).trans (deeds_setRequest _ _)).trans
      (deeds_takeWaiting _)).trans (deeds_notify _ _)).trans (deeds_send _ _)

theorem deeds_atStage (stage : Stage) {run : State → Validation → State}
    (deeds : ∀ v, s.engine = some v → Deeds clears s (run s v)) : Deeds clears s (s.atStage stage run) := by
  unfold atStage
  split
  · next v busy =>
    split
    · exact (deeds v busy).trans (deeds_endEvent _ _)
    · exact .refl
  · exact .refl

end State
end Sys2Proof.Machine
end

section
/-! Every command as a chain of deeds, and the laws that each deed keeps: the queue, the flags, the slots, the journal's
numbers, and the ranges of settings, batch counter and clock. -/

namespace Sys2Proof.Machine

/-! ### The stages -/

namespace State

variable (s : State) {gated : LaneId → Prop}

/-- A validation goes on with the bank it references (R44). -/
theorem works_goOn {s : State} {v : Validation} (busy : s.engine = some v) (u : Validation) (next : Stage)
    (bank : u.bank = v.bank := by rfl) : s.Works gated (s.goOn u next) :=
  .single (.goOn s u next (by rw [referencedBank, busy, bank]))

section Stages

variable {s : State} {clears : Bool} {v : Validation} (busy : s.engine = some v)
include busy

theorem works_runService : s.Works gated (s.runService v) := by
  unfold runService
  split_ifs
  · exact s.works_refuse v none _
  · exact s.works_refuse v none _
  · exact works_goOn busy _ _

theorem deeds_resolve (e : RecoveryEntry) : Deeds clears s (s.resolve v e) := by
  have refused (code : RefusalCode) : Deeds clears s (s.refuse v (some e) code) := Works.deeds (s.works_refuse v _ code)
  unfold resolve
  split_ifs
  · exact refused _
  · exact refused _
  · exact Works.gateDeeds (s.works_took trivial e) fun h => gatesInOrder_took h v e
  · exact refused _
  · exact Works.deeds (s.works_retry v e)
  · have engine : (s.closeEntry false e).engine = some v := by rw [closeEntry_shape]; exact busy
    exact Works.deeds ((s.works_closeEntry false e).trans (works_goOn engine _ _))

theorem deeds_runRecoveryMatch : Deeds clears s (s.runRecoveryMatch v) := by
  unfold runRecoveryMatch
  split
  · exact deeds_resolve busy _
  · exact Works.deeds (works_goOn busy _ _)

theorem works_runCardStatus : s.Works gated (s.runCardStatus v) := by
  unfold runCardStatus
  split
  · exact .refl
  · split
    · exact s.works_refuse _ none _
    · exact works_goOn busy _ _
    · exact works_goOn busy _ _
    · exact works_goOn busy _ _

theorem works_runProduct : s.Works gated (s.runProduct v) := by
  unfold runProduct
  split
  · exact .refl
  · dsimp only
    split
    · exact s.works_refuse v none _
    · split
      · exact s.works_refuse _ none _
      · exact works_goOn busy _ _

theorem works_runPassback : s.Works gated (s.runPassback v) := by
  unfold runPassback
  split
  · exact .refl
  · split
    · exact s.works_refuse v none _
    · exact works_goOn busy _ _

theorem works_runBerthState : s.Works gated (s.runBerthState v) := by
  unfold runBerthState
  split
  · exact s.works_refuse v none _
  · exact works_goOn busy _ _

theorem works_runFare : s.Works gated (s.runFare v) := by
  unfold runFare
  split
  · next k p _ _ =>
    have counted : s.Works gated (s.countFree (p.kind == .storedValue && (v.band.isNone || k.bands.isEmpty))) :=
      .single (.countFree s _)
    dsimp only
    split
    · exact counted.trans (works_refuse _ v none _)
    · have engine : (s.countFree (p.kind == .storedValue && (v.band.isNone || k.bands.isEmpty))).engine = some v := by
        unfold countFree
        split <;> exact busy
      exact counted.trans (works_goOn engine _ _)
  · exact .refl

theorem works_runLaneRoom : s.Works gated (s.runLaneRoom v) := by
  unfold runLaneRoom
  split
  · exact .refl
  · split
    · exact s.works_refuse v none _
    · exact works_goOn busy _ _

end Stages

theorem works_runDecision (v : Validation) : s.Works gated (s.runDecision v) := by
  unfold runDecision
  split
  · split
    · exact s.works_refuse v none _
    · split
      · exact (s.works_countHoldRefusal _).trans (works_refuse _ v none _)
      · exact s.works_admission v _ _ _
  · exact .refl

/-! ### The owners of the requests -/

variable {clears : Bool}

theorem deeds_takeArrive (vessel capacity aboard : Half) (reserve band : Byte) (b : BerthId) :
    Deeds clears s (takeArrive vessel capacity aboard reserve band b s).1 := by
  unfold takeArrive
  split
  · exact .refl
  · split
    · exact s.deeds_onBerth b _
    · exact .refl

theorem deeds_takeOpen (b : BerthId) : Deeds clears s (takeOpen b s).1 := by
  unfold takeOpen
  split
  · exact Works.deeds (s.works_atBerth b (fun x => { x with state := .boarding }.loadQuiet s.settings.quietUnit) rfl)
  · exact .refl

theorem deeds_takeClose (b : BerthId) : Deeds clears s (takeClose b s).1 := by
  unfold takeClose
  split
  · exact deeds_rest rfl rfl rfl rfl rfl rfl rfl
  · exact .refl

theorem works_turnoverForfeit (b : BerthId) {l : LaneId} (own : gated l) : s.Works gated (s.turnoverForfeit b l) := by
  unfold turnoverForfeit
  split
  · exact (s.works_forfeitAll own false).trans (works_reworkGate _ own)
  · exact .refl

theorem works_turnoverOrphan (b : BerthId) (l : LaneId) : s.Works gated (s.turnoverOrphan b l) := by
  unfold turnoverOrphan
  split
  · split
    · exact s.works_orphan l
    · exact .refl
  · exact .refl

theorem gatesInOrder_turnoverForfeit {s : State} (h : s.gatesInOrder) (b : BerthId) (l : LaneId) :
    (s.turnoverForfeit b l).gatesInOrder := by
  unfold turnoverForfeit
  split
  · exact gatesInOrder_forfeitAll_reworkGate h l false
  · exact h

theorem deeds_turnover (b : BerthId) : Deeds clears s (s.turnover b) := by
  have forfeited : Deeds clears s (s.eachLane (turnoverForfeit b)) :=
    Works.gateDeeds (s.works_eachLane fun t _ => t.works_turnoverForfeit b trivial)
      (gatesInOrder_foldl (fun _ l h => gatesInOrder_turnoverForfeit h b l) allLanes)
  exact forfeited.trans (Works.deeds (((works_eachLane _ fun t l => t.works_turnoverOrphan b l).trans
    (works_closeEntries _ false _)).trans (works_finishTurnover _ b)))

theorem deeds_takeDepart (b : BerthId) : Deeds clears s (takeDepart b s).1 := by
  unfold takeDepart
  split
  · exact .refl
  · exact s.deeds_turnover b

theorem works_takeCapacity (capacity aboard : Half) (b : BerthId) : s.Works gated (takeCapacity capacity aboard b s).1 := by
  unfold takeCapacity
  split
  · exact .refl
  · exact (s.works_raiseIf _ _).trans (works_atBerth _ b _ rfl)

theorem deeds_takeSource (source : Byte) (b : BerthId) : Deeds clears s (takeSource source b s).1 := by
  unfold takeSource
  split
  · exact .refl
  · split
    · exact .refl
    · exact deeds_rest rfl rfl rfl rfl rfl rfl rfl

theorem lawful_takeMode (m : Mode) {x : Lane} (h : x.link.lawful = true) : (x.takeMode m).link.lawful = true := by
  unfold Lane.takeMode
  split
  · exact Link.lawful_noMisses (Link.lawful_emptySlots h)
  · exact h

/-- The mode taken in two: the turn in progress, and then the lane. -/
theorem takeMode_eq (l : LaneId) (m : Mode) : s.takeMode l m =
    State.onLane { s with turn := if m = .absent then s.turn.map (.leave l) else s.turn } l (.takeMode m) := rfl

theorem deeds_setTurn (t : Option Turn) : Deeds clears s { s with turn := t } :=
  deeds_rest rfl rfl rfl rfl rfl rfl rfl

theorem deeds_takeLaneSetup (lane mode berth : Byte) : Deeds clears s (takeLaneSetup lane mode berth s).1 := by
  unfold takeLaneSetup
  split
  · next l m _ _ =>
    split
    · exact .refl
    · split
      · rw [takeMode_eq]
        have taken (u : State) {gated : LaneId → Prop} (own : gated l) : u.Works gated (u.onLane l (.takeMode m)) :=
          u.works_onLane_gate own _ (lawful_takeMode m)
        exact (s.deeds_setTurn _).trans (Works.gateDeeds ((taken _ trivial).trans (works_renewGate _ trivial))
          fun h => gatesInOrder_renewGate (Works.gatesBut (taken _ (OnlyLane.self l)) (gatesInOrder.but h l)))
      · exact .refl
  · exact .refl

theorem deeds_takeLaneReset (l : LaneId) : Deeds clears s (takeLaneReset l s).1 :=
  (Works.gateDeeds (s.works_laneReset trivial .depot) fun h => gatesInOrder_laneReset h l .depot).trans
    (deeds_arbitrate _)

theorem works_takeLaneRead (option : Byte) (l : LaneId) : s.Works gated (takeLaneRead option l s).1 := by
  unfold takeLaneRead
  split
  · exact s.works_onLane_of_link l _ rfl
  · exact .refl

theorem deeds_takeJournalRelease (sequence : Quad) : Deeds clears s (takeJournalRelease sequence s).1 := by
  unfold takeJournalRelease
  split
  · exact .single (.releaseRecords s _)
  · exact .refl

theorem deeds_takeJournalStatus (option : Byte) : Deeds clears s (takeJournalStatus option s).1 := by
  unfold takeJournalStatus
  split
  · exact .single (.clearTally s)
  · exact .refl

theorem deeds_takeClockSet (day : Half) (secs : Quad) : Deeds clears s (takeClockSet day secs s).1 := by
  have set : Deeds clears s (s.setClock day.toNat (min secs.toNat (Config.secondsPerDay - 1))) := by
    refine .single (.clock s _ fun _ => ⟨?_, Nat.min_le_right _ _, rfl, nofun⟩)
    exact Nat.lt_succ_iff.mp day.isLt
  exact set.trans (deeds_handTime _)

theorem deeds_takeSettingWrite (setting berth : Byte) (value : Half) :
    Deeds clears s (takeSettingWrite setting berth value s).1 := by
  unfold takeSettingWrite
  split
  · exact .refl
  · split
    · exact .refl
    · next applied => exact s.deeds_putSetting applied

theorem deeds_takeLineSetup (line entry parameter options : Byte) :
    Deeds clears s (takeLineSetup line entry parameter options s).1 := by
  unfold takeLineSetup
  split
  · exact ((s.deeds_onLine _ _).trans (deeds_followLines _)).trans (deeds_arbitrate _)
  · exact .refl

theorem deeds_takeRelease (source : Bool) : Deeds clears s (takeRelease source s).1 :=
  ((s.deeds_setFrameSource source).trans (deeds_workOutRelease _)).trans (deeds_arbitrate _)

theorem deeds_takeNoticeClear (named : Half) : Deeds true s (takeNoticeClear named s).1 :=
  .single (.clearFlags s _ rfl)

/-! ### The events of the links, lines and timers -/

theorem deeds_beginTurn (l : LaneId) : Deeds clears s (s.beginTurn l) := by
  have sent : Deeds clears s (s.onLink l (.markSent (s.lane l).link.choose)) :=
    Works.deeds (s.works_onLane l _ fun h => Link.lawful_markSent h _)
  exact sent.trans (deeds_rest rfl rfl rfl rfl rfl rfl rfl)

theorem works_showLastCall (b : BerthId) : s.Works gated (s.showLastCall b) := by
  unfold showLastCall
  split
  · exact .refl
  · refine s.works_eachLane fun t l => ?_
    split
    · exact t.works_askShow l _
    · exact .refl

/-- A rollover goes to a day that is no higher than 65535 (R64). -/
theorem deeds_advanceClock (running : s.clock.running = true) : Deeds clears s s.advanceClock := by
  have advances {day secs : Nat} (hd : s.clock.day ≤ 65535 → day ≤ 65535) (hs : secs ≤ 86399) :
      Deeds clears s { s with clock := { s.clock with day := day, secs := secs } } := by
    refine .single (.clock s _ fun ⟨days, _, runs, _⟩ => ⟨hd days, hs, runs, fun unset => ?_⟩)
    rw [running] at runs
    exact absurd (runs.trans unset) (by decide)
  unfold advanceClock
  split
  · next early => exact advances id (Nat.lt_succ_iff.mp early)
  · exact (advances (fun _ => Nat.lt_succ_iff.mp (Nat.mod_lt _ (by decide))) (Nat.zero_le _)).trans
      (Works.deeds (works_raise _ _))

end State

/-! ### Every command -/

/-- The commands that clear flags, beside POWER_ON (R169, R173). -/
def clearsFlags : Instr → Bool
  | .noticeClear .. | .controlReset _ => true
  | _ => false

section Links

open State

variable {clears : Bool} (s : State)

theorem deeds_execPollTurn {t : State} (h : execPollTurn s = .next t) : Deeds clears s t := by
  obtain rfl := Host.Outcome.next.inj h
  split
  · exact s.deeds_beginTurn _
  · exact .refl

theorem deeds_execAnswer {bytes : List Byte} {t : State} (h : execAnswer bytes s = .next t) : Deeds clears s t := by
  obtain rfl := Host.Outcome.next.inj h
  split
  · exact ((s.deeds_setTurn none).trans (Works.gateDeeds (works_endTurn _ trivial bytes) fun h =>
      gatesInOrder_endTurn h _ bytes)).trans (deeds_endEvent _ _)
  · exact .refl

theorem deeds_execAnswerWindowExpiry {t : State} (h : execAnswerWindowExpiry s = .next t) : Deeds clears s t := by
  obtain rfl := Host.Outcome.next.inj h
  split
  · split
    · exact .refl
    · exact ((s.deeds_setTurn none).trans (Works.gateDeeds (works_missedTurn _ trivial) fun h =>
        gatesInOrder_missedTurn h _)).trans (deeds_endEvent _ _)
  · exact .refl

theorem deeds_execAnswerBegins {t : State} (h : execAnswerBegins s = .next t) : Deeds clears s t := by
  obtain rfl := Host.Outcome.next.inj h
  split
  · exact s.deeds_setTurn _
  · exact .refl

theorem deeds_execHoldTimerExpiry {l : LaneId} {t : State} (h : execHoldTimerExpiry l s = .next t) :
    Deeds clears s t := by
  obtain rfl := Host.Outcome.next.inj h
  split
  · have stopped : Deeds clears s (s.onLane l fun x => { x with holdTimer := none }) :=
      Works.deeds (s.works_onLane_of_link l _ rfl)
    exact (stopped.trans (Works.gateDeeds ((works_forfeitAll _ trivial false).trans (works_reworkGate _ trivial))
      fun h => gatesInOrder_forfeitAll_reworkGate h l false)).trans (deeds_notify _ _)
  · exact .refl

theorem deeds_execWriteTimerExpiry {l : LaneId} {t : State} (h : execWriteTimerExpiry l s = .next t) :
    Deeds clears s t := by
  obtain rfl := Host.Outcome.next.inj h
  split
  · exact (Works.deeds (s.works_writeUncertain l _ _)).trans (deeds_notify _ _)
  · exact .refl

theorem deeds_execRecoveryExpiry {card : CardNo} {t : State} (h : execRecoveryExpiry card s = .next t) :
    Deeds clears s t := by
  obtain rfl := Host.Outcome.next.inj h
  split
  · exact (Works.deeds (s.works_closeEntry false _)).trans (deeds_notify _ _)
  · exact .refl

theorem deeds_execQuietTimerExpiry {b : BerthId} {t : State} (h : execQuietTimerExpiry b s = .next t) :
    Deeds clears s t := by
  obtain rfl := Host.Outcome.next.inj h
  split
  · have called : s.Works (fun _ => False) (s.onBerth b (.callLast s.settings.quietUnit)) := .single (.berth s b _ rfl)
    exact (Works.deeds ((called.trans (works_raise _ _)).trans (works_showLastCall _ b))).trans (deeds_notify _ _)
  · exact .refl

theorem deeds_execSilenceTimerExpiry {t : State} (h : execSilenceTimerExpiry s = .next t) : Deeds clears s t := by
  obtain rfl := Host.Outcome.next.inj h
  split
  · have lost : Deeds clears s { s with silenceTimer := none, depotLost := true } :=
      deeds_rest rfl rfl rfl rfl rfl rfl rfl
    exact (lost.trans (Works.deeds (works_raise _ _))).trans (deeds_notify _ _)
  · exact .refl

theorem deeds_execClockAdvance {t : State} (h : execClockAdvance s = .next t) : Deeds clears s t := by
  obtain rfl := Host.Outcome.next.inj h
  split
  · next running => exact ((s.deeds_advanceClock running).trans (deeds_handTime _)).trans (deeds_notify _ _)
  · exact .refl

theorem deeds_execTableWorkDone {t : State} (h : execTableWorkDone s = .next t) : Deeds clears s t := by
  obtain rfl := Host.Outcome.next.inj h
  split
  · exact ((s.deeds_workTable _).trans (deeds_setRequest _ none)).trans (deeds_reply _ _ _ _)
  · exact .refl

theorem deeds_execLineDebounce {i : LineId} {t : State} (h : execLineDebounce i s = .next t) : Deeds clears s t := by
  obtain rfl := Host.Outcome.next.inj h
  split
  · exact (((s.deeds_onLine i _).trans (Works.deeds (works_pulse _ i))).trans (deeds_followLines _)).trans
      (deeds_endEvent _ _)
  · exact .refl

theorem deeds_execControlReset {tag : Byte} {t : State} (h : execControlReset tag s = .next t) : Deeds true s t := by
  obtain rfl := Host.Outcome.next.inj h
  split
  · exact s.deeds_goodFrame.trans (deeds_reply _ _ _ _)
  · exact ((s.deeds_goodFrame.trans (deeds_controlReset _)).trans (deeds_notify _ _)).trans (deeds_reply _ _ _ _)

end Links

open State in
/-- Every command but POWER_ON is a chain of deeds. -/
theorem exec_deeds {c : Instr} {s t : State} (h : exec c s = .next t) (notPower : c ≠ .powerOn) :
    State.Deeds (clearsFlags c) s t := by
  have stage {st : Stage} {run : State → Validation → State} (works : ∀ v, s.engine = some v → s.Works (fun _ => False) (run s v))
      (h : Host.Outcome.next (s.atStage st run) = (.next t : Host.Outcome State Fault Refusal)) :
      Deeds false s t := Host.Outcome.next.inj h ▸ s.deeds_atStage st fun v busy => Works.deeds (works v busy)
  have request {kind : RequestKind} {tag : Byte} {owner : State → State × ReplyBody} {b : Bool}
      (deeds : ∀ u : State, Deeds b u (owner u).1)
      (h : Host.Outcome.next (s.answer kind tag owner) = (.next t : Host.Outcome State Fault Refusal)) :
      Deeds b s t := Host.Outcome.next.inj h ▸ s.deeds_answer kind tag deeds
  have unitRequest {kind : RequestKind} {tag : Byte} {α : Type} {unit : Option α}
      {owner : α → State → State × ReplyBody} (deeds : ∀ x (u : State), Deeds false u (owner x u).1)
      (h : Host.Outcome.next (s.answer kind tag (inRange unit owner)) = (.next t : Host.Outcome State Fault Refusal)) :
      Deeds false s t := Host.Outcome.next.inj h ▸ s.deeds_answer_inRange kind tag unit deeds
  have table {tag : Byte} {r : TableRequest}
      (h : Host.Outcome.next (s.arrive tag r) = (.next t : Host.Outcome State Fault Refusal)) :
      Deeds false s t := Host.Outcome.next.inj h ▸ s.deeds_arrive tag r
  cases c with
  | powerOn => exact absurd rfl notPower
  | pollTurn => exact deeds_execPollTurn s h
  | answer bytes => exact deeds_execAnswer s h
  | answerWindowExpiry => exact deeds_execAnswerWindowExpiry s h
  | answerBegins => exact deeds_execAnswerBegins s h
  | holdTimerExpiry lane => exact deeds_execHoldTimerExpiry s h
  | writeTimerExpiry lane => exact deeds_execWriteTimerExpiry s h
  | recoveryExpiry card => exact deeds_execRecoveryExpiry s h
  | quietTimerExpiry b => exact deeds_execQuietTimerExpiry s h
  | silenceTimerExpiry => exact deeds_execSilenceTimerExpiry s h
  | clockAdvance => exact deeds_execClockAdvance s h
  | tableWorkDone => exact deeds_execTableWorkDone s h
  | lineDebounce i => exact deeds_execLineDebounce s h
  | lineLevelChange i level => exact Host.Outcome.next.inj h ▸ s.deeds_onLine i _
  | stageService => exact stage (fun _ => works_runService) h
  | stageRecoveryMatch =>
    exact Host.Outcome.next.inj h ▸ s.deeds_atStage .recoveryMatch fun v busy => deeds_runRecoveryMatch busy
  | stageCardStatus => exact stage (fun _ => works_runCardStatus) h
  | stageProduct => exact stage (fun _ => works_runProduct) h
  | stagePassback => exact stage (fun _ => works_runPassback) h
  | stageBerthState => exact stage (fun _ => works_runBerthState) h
  | stageFare => exact stage (fun _ => works_runFare) h
  | stageLaneRoom => exact stage (fun _ => works_runLaneRoom) h
  | decisionEvent => exact stage (fun v _ => s.works_runDecision v) h
  | depotBadFrame => exact Host.Outcome.next.inj h ▸ .refl
  | depotUnknownFrame kind tag => exact Host.Outcome.next.inj h ▸ s.deeds_goodFrame.trans (deeds_transmit _ _)
  | tableWrite | cardInsert | cardRemove | tableClear | tableCopy | tableActivate => exact table h
  | tableStatus tag => exact Host.Outcome.next.inj h ▸ s.deeds_goodFrame.trans (deeds_reply _ _ _ _)
  | berthArrive => exact unitRequest (fun b u => u.deeds_takeArrive _ _ _ _ _ b) h
  | berthOpen => exact unitRequest (fun b u => u.deeds_takeOpen b) h
  | berthClose => exact unitRequest (fun b u => u.deeds_takeClose b) h
  | berthDepart => exact unitRequest (fun b u => u.deeds_takeDepart b) h
  | berthCapacity => exact unitRequest (fun b u => Works.deeds (u.works_takeCapacity _ _ b)) h
  | berthSource => exact unitRequest (fun b u => u.deeds_takeSource _ b) h
  | laneReset => exact unitRequest (fun l u => u.deeds_takeLaneReset l) h
  | laneRead => exact unitRequest (fun l u => Works.deeds (u.works_takeLaneRead _ l)) h
  | berthRead | journalRead => exact unitRequest (fun _ _ => .refl) h
  | laneSetup => exact request (fun u => u.deeds_takeLaneSetup _ _ _) h
  | journalRelease => exact request (fun u => u.deeds_takeJournalRelease _) h
  | journalStatus => exact request (fun u => u.deeds_takeJournalStatus _) h
  | clockSet => exact request (fun u => u.deeds_takeClockSet _ _) h
  | settingWrite => exact request (fun u => u.deeds_takeSettingWrite _ _ _) h
  | lineSetup => exact request (fun u => u.deeds_takeLineSetup _ _ _ _) h
  | releaseStart | releaseEnd => exact request (fun u => u.deeds_takeRelease _) h
  | noticeClear => exact request (fun u => u.deeds_takeNoticeClear _) h
  | controlReset tag => exact deeds_execControlReset s h
  | clockRead | settingRead | lineRead | noticeRead | identify => exact request (fun _ => .refl) h

end Sys2Proof.Machine
end

section
/-! The laws that every deed keeps, and with them every step. -/

namespace Sys2Proof.Machine

/-! ### What a chain of deeds keeps -/

theorem State.Works.valuesInRange {gated : LaneId → Prop} {s t : State} (h : s.Works gated t)
    (ranges : s.valuesInRange) : t.valuesInRange := by
  obtain ⟨settings, batch, clock⟩ := ranges
  obtain ⟨-, -, -, -, -, -, -, -, -, -, -, journalBatch, -⟩ := id settings
  rw [State.valuesInRange, State.Works.settings h, State.Works.clock h]
  exact ⟨settings, State.Works.batch h journalBatch batch, clock⟩

section Deeds

variable {s t : State} {clears : Bool} (h : State.Deeds clears s t)
include h

theorem State.Deeds.pending : t.pending = s.pending := by
  induction h with
  | refl => rfl
  | tail _ deed ih =>
    rw [← ih]
    cases deed with
    | works work => exact State.Works.pending work
    | release _ before after =>
      have kept := State.Works.pending before
      exact (State.Works.pending after).trans kept
    | rest _ _ _ _ _ _ pending => exact pending
    | _ => rfl

theorem State.Deeds.slotsLawful (lawful : s.slotsLawful) : t.slotsLawful := by
  induction h with
  | refl => exact lawful
  | tail _ deed ih =>
    cases deed with
    | works work => exact State.Works.slotsLawful work ih
    | release _ before after =>
      have kept := State.Works.slotsLawful before ih
      exact State.Works.slotsLawful after kept
    | rest lanes => exact State.slotsLawful_congr lanes ih
    | _ => exact ih

theorem State.Deeds.numbered (numbered : s.journal.numbered) : t.journal.numbered := by
  induction h with
  | refl => exact numbered
  | tail _ deed ih =>
    cases deed with
    | works work => exact State.Works.numbered work ih
    | release _ before after =>
      have kept := State.Works.numbered before ih
      exact State.Works.numbered after kept
    | rest _ journal => exact journal.symm ▸ ih
    | releaseRecords k => exact Journal.numbered_drop ih k
    | _ => exact ih

theorem State.Deeds.valuesInRange (ranges : s.valuesInRange) : t.valuesInRange := by
  induction h with
  | refl => exact ranges
  | tail _ deed ih =>
    obtain ⟨settings, batch, clock⟩ := id ih
    cases deed with
    | works work => exact State.Works.valuesInRange work ih
    | release _ before after =>
      have kept := State.Works.valuesInRange before ih
      exact State.Works.valuesInRange after kept
    | rest _ journal clockKept settingsKept =>
      rw [State.valuesInRange, journal, clockKept, settingsKept]
      exact ih
    | clock c range => exact ⟨settings, batch, range clock⟩
    | settings x range => exact ⟨range settings, batch, clock⟩
    | _ => exact ih

theorem State.Deeds.gatesInOrder (orders : s.gatesInOrder) : t.gatesInOrder := by
  induction h with
  | refl => exact orders
  | tail _ deed ih =>
    cases deed with
    | works _ gates => exact gates ih
    | release _ _ _ gates => exact gates
    | rest lanes _ _ _ release => exact State.gatesInOrder_congr lanes release ih
    | _ => exact ih

end Deeds

/-- A chain of deeds of a command that clears no flag clears none. -/
theorem State.Deeds.flagsKept {s t : State} (h : State.Deeds false s t) : s.FlagsKept t := by
  induction h with
  | refl => exact .of_eq rfl
  | tail _ deed ih =>
    refine ih.trans ?_
    cases deed with
    | works work => exact State.Works.flagsKept work
    | release _ before after =>
      exact (State.Works.flagsKept before).trans ((State.Works.flagsKept after).of_same rfl)
    | rest _ _ _ _ _ flags => exact .of_eq flags
    | clearFlags _ never => exact absurd never (by decide)
    | _ => exact .of_eq rfl

/-! ### A step -/

/-- A step idles on an empty queue, or runs the command at the queue's front on the rest of the queue. -/
theorem step_cases {s t : State} (h : step s = .next t) :
    (s.pending = [] ∧ t = s) ∨ ∃ c rest, s.pending = c :: rest ∧ exec c { s with pending := rest } = .next t := by
  unfold step at h
  split at h
  · next idle => exact .inl ⟨idle, (Host.Outcome.next.inj h).symm⟩
  · next c rest front => exact .inr ⟨c, rest, front, h⟩

/-- A law that no part of the queue has a place in, and that every command keeps, holds after every step. -/
theorem step_keeps {P : State → Prop} (queue : ∀ (s : State) rest, P s → P { s with pending := rest })
    (command : ∀ (c : Instr) (s t : State), P s → exec c s = .next t → P t) {s t : State} (holds : P s)
    (h : step s = .next t) : P t := by
  obtain ⟨-, rfl⟩ | ⟨c, rest, -, ran⟩ := step_cases h
  · exact holds
  · exact command c _ t (queue s rest holds) ran

theorem exec_powerOn (s : State) : exec .powerOn s = .next s.powerOn := rfl

/-- A law that deeds keep and that holds at power-on is kept by every command. -/
theorem exec_keeps_of_deeds {P : State → Prop} (powerOn : ∀ s : State, P s.powerOn)
    (deeds : ∀ {clears : Bool} {s t : State}, State.Deeds clears s t → P s → P t) (c : Instr) (s t : State)
    (holds : P s) (h : exec c s = .next t) : P t := by
  by_cases power : c = .powerOn
  · subst power
    obtain rfl := Host.Outcome.next.inj (h.symm.trans (exec_powerOn s))
    exact powerOn s
  · exact deeds (exec_deeds h power) holds

theorem State.slotsLawful_powerOn (s : State) : s.powerOn.slotsLawful :=
  (by decide : ∀ l : LaneId, (State.reset.lane l).link.lawful = true)

theorem State.gatesInOrder_powerOn (s : State) : s.powerOn.gatesInOrder :=
  (by decide : State.reset.gatesInOrder)

theorem Journal.numbered_powerOn (s : State) : s.powerOn.journal.numbered :=
  (by decide : State.reset.journal.numbered)

theorem State.valuesInRange_powerOn (s : State) : s.powerOn.valuesInRange :=
  (by decide : State.reset.valuesInRange)

/-- Every command completes: the model has neither faults nor refusals. -/
theorem exec_completes (c : Instr) (s : State) : ∃ t, exec c s = .next t := by
  cases c <;> exact ⟨_, rfl⟩

end Sys2Proof.Machine

open Sys2Proof Sys2Proof.Machine

/-- Settles O1, by the two branches of a step. -/
theorem theFrontCommandRunsOnTheRest : Obligations.TheFrontCommandRunsOnTheRest :=
  ⟨fun _ _ _ => rfl, fun s idle => by rw [step, idle]⟩

/-- Settles O2: no deed touches the queue, and POWER_ON keeps it. -/
theorem everyCommandCompletesAndKeepsTheQueue : Obligations.EveryCommandCompletesAndKeepsTheQueue := by
  intro c s
  obtain ⟨t, ran⟩ := exec_completes c s
  refine ⟨t, ran, ?_⟩
  by_cases power : c = .powerOn
  · subst power
    rw [← Host.Outcome.next.inj ((exec_powerOn s).symm.trans ran)]
    rfl
  · exact (exec_deeds ran power).pending

/-- Settles O5: the deeds of a command that is neither NOTICE_CLEAR nor CONTROL_RESET keep every flag. -/
theorem flagsStaySetUntilTheDepotClearsThem : Obligations.FlagsStaySetUntilTheDepotClearsThem := by
  intro c s t ran notClear notReset notPower
  have keeps : clearsFlags c = false := by
    cases c
    case noticeClear tag named => exact absurd rfl (notClear tag named)
    case controlReset tag => exact absurd rfl (notReset tag)
    all_goals rfl
  exact State.Deeds.flagsKept (keeps ▸ exec_deeds ran notPower)

/-- Settles O54: the deeds of a command keep both laws, for each ends with the gate orders worked out. -/
theorem everyStepKeepsGateOrdersAndSlots : Obligations.EveryStepKeepsGateOrdersAndSlots :=
  ⟨fun _ _ => step_keeps (fun _ _ => id) (exec_keeps_of_deeds State.gatesInOrder_powerOn State.Deeds.gatesInOrder),
    fun _ _ => step_keeps (fun _ _ => id) (exec_keeps_of_deeds State.slotsLawful_powerOn State.Deeds.slotsLawful)⟩

/-- Settles O55: the two laws are kept by every deed. -/
theorem everyStepKeepsNumbersAndRanges : Obligations.EveryStepKeepsNumbersAndRanges :=
  ⟨fun _ _ => step_keeps (P := fun s => s.journal.numbered) (fun _ _ => id)
      (exec_keeps_of_deeds Journal.numbered_powerOn State.Deeds.numbered),
    fun _ _ => step_keeps (fun _ _ => id)
      (exec_keeps_of_deeds State.valuesInRange_powerOn State.Deeds.valuesInRange)⟩

end

section
/-! Power-on, the frames that are no request, the slots, the fare computation, the window test and the count requests. -/

namespace Sys2Proof.Machine

/-! ### Power-on (R174) -/

theorem State.line_powerOn (s : State) (i : LineId) : s.powerOn.line i = ⟨.unused, .high, (s.line i).level⟩ := by
  simp [State.powerOn, State.line, PierLine.powerOn]

/-! ### Good frames and silence (R166, R170) -/

theorem exec_silenceTimerExpiry {s : State} (loaded : s.silenceTimer ≠ none) : exec .silenceTimerExpiry s =
    .next (State.noticed s.flags { s with silenceTimer := none, depotLost := true, flags := s.flags ||| 0x1000#16 }) := by
  obtain ⟨n, timer⟩ := Option.ne_none_iff_exists'.1 loaded
  simp only [exec, execSilenceTimerExpiry, timer, State.notify_eq_noticed]
  rfl

theorem exec_silenceTimerExpiry_of_stopped {s : State} (stopped : s.silenceTimer = none) :
    exec .silenceTimerExpiry s = .next s := by
  simp only [exec, execSilenceTimerExpiry, stopped]

/-! ### The slots (R4, R5) -/

/-- A frame waits only behind one in the command slot (R5). -/
theorem Link.waiting_of_lawful {k : Link} (lawful : k.lawful = true) (empty : k.command = none) : k.waiting = none := by
  cases waits : k.waiting with
  | none => rfl
  | some f => simp [Link.lawful, empty, waits] at lawful

section Slots

variable {k : Link} (tag : Byte) (card : CardNo) (image : NewImage) (carried : Bool)

theorem Link.placeCardWrite_of_empty (lawful : k.lawful = true) (empty : k.command = none) :
    k.placeCardWrite tag card image = { k with command := some ⟨.cardWrite tag card image, false, false⟩ } := by
  simp [Link.placeCardWrite, empty, Link.waiting_of_lawful lawful empty, CommandSlot.unsent]

theorem Link.placeGate_of_empty (lawful : k.lawful = true) (empty : k.command = none) :
    k.placeGate carried = { k with command := some ⟨.gate, false, false⟩ } := by
  simp [Link.placeGate, empty, Link.waiting_of_lawful lawful empty, CommandSlot.unsent]

variable {c : CommandSlot} (here : k.command = some c)
include here

theorem Link.placeCardWrite_of_gate (gate : c.frame = .gate) :
    k.placeCardWrite tag card image = { k with waiting := some (.cardWrite tag card image) } := by
  simp [Link.placeCardWrite, here, gate, CommandFrame.isCardWrite]

theorem Link.placeGate_of_gate (gate : c.frame = .gate) : k.placeGate carried =
    if carried = true ∧ c.sent = true then { k with command := some { c with stale := true } } else k := by
  simp [Link.placeGate, here, gate]

theorem Link.placeCardWrite_of_cardWrite (write : c.frame ≠ .gate) :
    k.placeCardWrite tag card image = { k with command := some ⟨.cardWrite tag card image, false, false⟩ } := by
  obtain ⟨_ | _, sent, stale⟩ := c
  · simp [Link.placeCardWrite, here, CommandFrame.isCardWrite, CommandSlot.unsent]
  · exact absurd rfl write

theorem Link.placeGate_of_cardWrite (write : c.frame ≠ .gate) :
    k.placeGate carried = { k with waiting := some .gate } := by
  obtain ⟨_ | _, sent, stale⟩ := c
  · simp [Link.placeGate, here]
  · exact absurd rfl write

end Slots

/-! ### Berth counts (R113 to R117, R120) -/

@[simp] theorem State.berth_raiseIf (s : State) (c : Bool) (x : NoticeFlag) (b : BerthId) :
    (s.raiseIf c x).berth b = s.berth b := State.berth_congr (by simp) b

@[simp] theorem State.berth_atBerth_self (s : State) (b : BerthId) (f : Berth → Berth) :
    (s.atBerth b f).berth b = (f (s.berth b)).follow := by
  simp [State.atBerth]

theorem Berth.follow_of_not_takesPassengers {b : Berth} (h : b.state.takesPassengers = false) : b.follow = b := by
  simp [Berth.follow, h]

theorem Berth.follow_of_idle {b : Berth} (h : b.state = .idle) : b.follow = b :=
  Berth.follow_of_not_takesPassengers (by rw [h]; rfl)

/-- A count request that is not applied in IDLE, with the state that follows room (R106, R111). -/
theorem Berth.follow_count (b : Berth) (f : Counts → Counts) :
    (if b.state = .idle then b else b.onCounts f).follow = b.counted f := by
  unfold Berth.counted Berth.onCounts
  split_ifs with idle
  · exact Berth.follow_of_idle idle
  · rfl

/-- The state that follows room (R106). -/
theorem Berth.state_follow (b : Berth) : b.follow.state = if b.state = .boarding ∨ b.state = .full then
    (if (b.effective : Int) - (b.counts.held + b.counts.granted + b.counts.passed + b.counts.unpaid + b.counts.tallied) ≤ 0
      then .full else .boarding) else b.state := by
  unfold Berth.follow
  simp only [BerthState.takesPassengers_eq_decide, decide_eq_true_eq, Berth.room, Counts.committed, Nat.cast_add]
  split_ifs <;> rfl

theorem Berth.counts_follow (b : Berth) : b.follow.counts = b.counts := by
  unfold Berth.follow
  split_ifs <;> rfl

section Requests

variable (s : State) (b : BerthId)

theorem State.berth_release (n : Nat) :
    (s.release b n).berth b = (s.berth b).counted fun c => { c with held := c.held - n } :=
  (s.berth_atBerth_self b _).trans ((s.berth b).follow_count _)

theorem State.berth_pass : (s.pass b).berth b =
    (s.berth b).counted fun c => { c with granted := c.granted - 1, passed := c.passed + 1 } :=
  (s.berth_atBerth_self b _).trans ((s.berth b).follow_count _)

theorem State.berth_reverse : (s.reverse b).berth b =
    (s.berth b).counted fun c => { c with passed := c.passed - 1, reverse := min 65535 (c.reverse + 1) } :=
  (s.berth_atBerth_self b _).trans ((s.berth b).follow_count _)

theorem State.berth_unpaid : (s.unpaid b).berth b =
    (s.berth b).counted fun c => { c with unpaid := min 65535 (c.unpaid + 1) } :=
  (s.berth_atBerth_self b _).trans ((s.berth b).follow_count _)

theorem State.berth_forfeitPlaces (n : Nat) : (s.forfeitPlaces b n).berth b =
    if (s.berth b).state = .alongside then s.berth b
    else (s.berth b).counted fun c => { c with
      granted := c.granted - n, forfeited := min 65535 (c.forfeited + n) } := by
  rw [State.forfeitPlaces, State.berth_atBerth_self]
  by_cases alongside : (s.berth b).state = .alongside
  · simp [alongside, Berth.follow, BerthState.takesPassengers]
  · rw [if_neg alongside, ← Berth.follow_count]
    simp [alongside, saturate, top16]

theorem State.berth_tally : (s.tally b).berth b =
    if (s.berth b).source = .tally ∧ ((s.berth b).state = .boarding ∨ (s.berth b).state = .full) then
      (s.berth b).counted fun c => { c with tallied := min 65535 (c.tallied + 1) }
    else (s.berth b).follow := by
  rw [State.tally, State.berth_atBerth_self]
  simp only [Bool.and_eq_true, beq_iff_eq, BerthState.takesPassengers_eq_decide, decide_eq_true_eq]
  split_ifs with counts
  · have sailing : (s.berth b).state ≠ .idle := by
      obtain ⟨-, boarding | full⟩ := counts
      · simp [boarding]
      · simp [full]
    rw [Berth.counted, if_neg sailing]
    rfl
  · rfl

theorem State.counts_convert (n charge : Nat) : ((s.convert b n charge).berth b).counts =
    ((s.berth b).counted fun c => { c with
      held := c.held - n, granted := c.granted + n, admissions := min 65535 (c.admissions + 1)
      revenue := min 4294967295 (c.revenue + charge) }).counts := by
  rw [State.convert, State.berth_atBerth_self, ← Berth.follow_count, Berth.counts_follow, Berth.counts_follow]
  split_ifs <;> rfl

end Requests

/-! ### Transfers and the new image (R76, R82) -/

theorem FareInput.transfers_eq_decide (x : FareInput) (card : CardImage) : x.transfers card =
    decide (x.product.window ≠ 0 ∧ card.transferUsed = false ∧ card.dayStamp = x.today ∧ card.lastMinute ≤ x.now ∧
      x.now ≤ card.lastMinute + x.product.window) := by
  rw [FareInput.transfers, inWindow, Bool.eq_iff_iff]
  simp only [Bool.and_eq_true, bne_iff_ne, Bool.not_eq_true', beq_iff_eq, decide_eq_true_eq,
    Nat.sub_le_iff_le_add', and_assoc]

/-! ### Time bands (R71) -/

/-- In a list of ascending starts, an entry no later one of which passes a test is the last to pass it. -/
theorem getLast?_filter_of_greatest {bands : List Boundary} (ascending : bands.Pairwise fun x y => x.start < y.start)
    {p : Boundary → Bool} {x : Boundary} (member : x ∈ bands) (passes : p x = true)
    (greatest : ∀ y ∈ bands, p y = true → y.start ≤ x.start) : (bands.filter p).getLast? = some x := by
  induction bands with
  | nil => exact absurd member List.not_mem_nil
  | cons y ys ih =>
    rw [List.pairwise_cons] at ascending
    obtain ⟨first, rest⟩ := ascending
    obtain rfl | later := List.mem_cons.mp member
    · have none_after : ys.filter p = [] := List.filter_eq_nil_iff.mpr fun z after passed =>
        absurd (greatest z (List.mem_cons_of_mem x after) passed) (Nat.not_le.mpr (first z after))
      simp [passes, none_after]
    · have last := ih rest later fun z after => greatest z (List.mem_cons_of_mem y after)
      rw [List.filter_cons]
      split_ifs
      · rw [List.getLast?_cons, last]
        rfl
      · exact last

end Sys2Proof.Machine

open Sys2Proof Sys2Proof.Machine

/-- Settles O3: every field of the power-on state as it stands. -/
theorem powerOnTakesEveryPowerOnValue : Obligations.PowerOnTakesEveryPowerOnValue := by
  intro s
  refine ⟨s.powerOn, rfl, ⟨rfl, rfl, ?_⟩, ⟨rfl, rfl, rfl, rfl⟩, ?_, ?_, ⟨rfl, rfl, rfl, rfl, rfl⟩,
    ⟨rfl, rfl, rfl, rfl, ?_⟩, rfl, s.line_powerOn, ⟨rfl, rfl, rfl⟩, ⟨rfl, rfl, rfl⟩, rfl, ⟨rfl, rfl, rfl⟩⟩
  · exact (by decide : ∀ l : LaneId, State.reset.lane l = Lane.powerOn)
  · exact (by decide : ∀ b : BerthId, State.reset.berth b = Berth.powerOn)
  · have empty (i : BankId) : s.powerOn.bank i = Bank.empty := by cases i <;> rfl
    simp [empty, Bank.empty, Product.blank, RiderClass.blank]
  · exact (by decide : ∀ k : Fin 10, State.reset.journal.tally[k] = 0)

/-- Settles O12: each frame's and the timer's equation. -/
theorem framesThatAreNoRequestAndSilence : Obligations.FramesThatAreNoRequestAndSilence :=
  ⟨fun _ => rfl, fun _ _ _ => rfl, fun _ => exec_silenceTimerExpiry, fun _ => exec_silenceTimerExpiry_of_stopped⟩

/-- Settles O19: the frames placed by what stands in the command slot. -/
theorem theSlotsTakeFramesByKind : Obligations.TheSlotsTakeFramesByKind :=
  fun _ lawful tag card image flying _ =>
    ⟨fun empty => ⟨Link.placeCardWrite_of_empty tag card image lawful empty, Link.placeGate_of_empty flying lawful empty⟩,
      fun _ here => ⟨fun gate => ⟨Link.placeCardWrite_of_gate tag card image here gate,
        Link.placeGate_of_gate flying here gate⟩, fun write => ⟨Link.placeCardWrite_of_cardWrite tag card image here write,
        Link.placeGate_of_cardWrite flying here write⟩⟩, rfl⟩

/-- Settles O39: the transfer test as R76 says it, then the three kinds of product. -/
theorem theFareComputationGivesChargeAndImage : Obligations.TheFareComputationGivesChargeAndImage := by
  intro x card transfer
  have transfers : x.transfers card = decide transfer := x.transfers_eq_decide card
  have overdrawn : x.overdrawn card = true ↔ 0 < x.charge card ∧ card.balance - x.charge card < -(x.overdraft : Int) := by
    rw [FareInput.overdrawn, Bool.and_eq_true, decide_eq_true_eq, decide_eq_true_eq]
  refine ⟨?_, ?_, ?_⟩
  · simp only [FareInput.afterTransfer, FareInput.credit, transfers, decide_eq_true_eq]
  · cases kind : x.product.kind <;>
      simp only [computeFare, kind, overdrawn, FareInput.image, transfers]
  · intro result computed charged
    unfold computeFare at computed
    split at computed
    · split at computed
      · cases computed
      · next covered =>
        obtain rfl := Option.some.inj computed
        rw [overdrawn, not_and, Int.not_lt] at covered
        exact covered charged
    · obtain rfl := Option.some.inj computed
      exact absurd charged (lt_irrefl 0)
    · obtain rfl := Option.some.inj computed
      exact absurd charged (lt_irrefl 0)

/-- Settles O40: the window test as a difference, and the lookup as the last boundary that passes. -/
theorem theWindowTestAndTheTimeBandLookup : Obligations.TheWindowTestAndTheTimeBandLookup := by
  refine ⟨fun image today now window => ⟨inWindow_iff image today now window, fun other => ?_, fun early => ?_,
    fun same at_once => ?_⟩, fun k ascend m x member => ⟨fun started greatest => ?_, fun later => ?_⟩⟩
  · rw [← Bool.not_eq_true, inWindow_iff]
    exact fun h => other h.1
  · rw [← Bool.not_eq_true, inWindow_iff]
    omega
  · rw [inWindow_iff]
    omega
  · have last := getLast?_filter_of_greatest ascend.1 (p := fun y => decide (y.start ≤ m)) member (by simpa using started)
      fun y other before => greatest y other (by simpa using before)
    simp [timeBandAt, last]
  · have none_started : k.bands.filter (fun y => decide (y.start ≤ m)) = [] :=
      List.filter_eq_nil_iff.mpr fun y other => by simpa using (later y other).1
    have last := getLast?_filter_of_greatest ascend.1 (p := fun _ => true) member rfl fun y other _ => (later y other).2
    rw [List.filter_true] at last
    simp [timeBandAt, none_started, last]

/-- Settles O43: each count request at its berth. -/
theorem countRequestsMoveThePlaces : Obligations.CountRequestsMoveThePlaces :=
  fun s b n charge => ⟨s.berth_release b n, s.berth_pass b, s.berth_reverse b, s.berth_unpaid b,
    s.berth_forfeitPlaces b n, s.berth_tally b, s.counts_convert b n charge, Berth.state_follow⟩

/-- Settles O53: the reset state is closed, and each law is decided of it. -/
theorem theInvariantsHoldAtReset : Obligations.TheInvariantsHoldAtReset := by
  refine ⟨?_, ?_, ?_, ?_, ?_, ?_, ?_, ?_⟩ <;> decide

end

section
/-! What the depot link sees of each command: nothing of an event's work, one NOTICE where one is due, and one reply to
each request (R166, R167, R168, R170). -/

namespace Sys2Proof.Machine

/-- The depot link's own part is the same in both states: the request in progress, what has been sent, and the silence
state with its timer. -/
structure State.SameDepot (s t : State) : Prop where
  request      : t.request = s.request
  depotOut     : t.depotOut = s.depotOut
  depotLost    : t.depotLost = s.depotLost
  silenceTimer : t.silenceTimer = s.silenceTimer

theorem State.SameDepot.refl (s : State) : s.SameDepot s := ⟨rfl, rfl, rfl, rfl⟩

theorem State.SameDepot.trans {s t u : State} (h : s.SameDepot t) (k : t.SameDepot u) : s.SameDepot u :=
  ⟨k.request.trans h.request, k.depotOut.trans h.depotOut, k.depotLost.trans h.depotLost,
    k.silenceTimer.trans h.silenceTimer⟩

/-- The depot link's part is the same from any state that shares it. -/
theorem State.SameDepot.of_same {s t u : State} (k : t.SameDepot u) (request : t.request = s.request := by rfl)
    (depotOut : t.depotOut = s.depotOut := by rfl) (depotLost : t.depotLost = s.depotLost := by rfl)
    (silenceTimer : t.silenceTimer = s.silenceTimer := by rfl) : s.SameDepot u :=
  State.SameDepot.trans ⟨request, depotOut, depotLost, silenceTimer⟩ k

theorem State.Works.sameDepot {gated : LaneId → Prop} {s t : State} (h : s.Works gated t) : s.SameDepot t :=
  ⟨State.Works.request h, State.Works.depotOut h, State.Works.depotLost h, State.Works.silenceTimer h⟩

namespace State

variable (s : State)

/-! ### Operations that leave the depot link alone -/

theorem sameDepot_foldl {α : Type} {act : State → α → State} (same : ∀ (t : State) x, t.SameDepot (act t x))
    (xs : List α) : s.SameDepot (xs.foldl act s) := by
  induction xs generalizing s with
  | nil => exact .refl s
  | cons x xs ih => exact (same s x).trans (ih _)

theorem sameDepot_grant (l : LaneId) : s.SameDepot (s.grant l) := by
  unfold grant
  split
  · exact ⟨rfl, rfl, rfl, rfl⟩
  · exact .refl s

theorem sameDepot_arbitrate : s.SameDepot s.arbitrate := by
  unfold arbitrate
  split
  · exact s.sameDepot_grant _
  · exact .refl s

theorem sameDepot_swap : s.SameDepot s.swap := by
  rw [swap_eq_swapped, swapped, record_eq]
  exact ⟨rfl, rfl, rfl, rfl⟩

theorem sameDepot_handTime : s.SameDepot s.handTime := by
  obtain same | ⟨swapped, -⟩ := s.handTime_cases
  · rw [same]
    exact .refl s
  · rw [swapped]
    exact s.sameDepot_swap

theorem sameDepot_workOutRelease : s.SameDepot s.workOutRelease := by
  unfold workOutRelease
  split
  · obtain ⟨u, before, after⟩ := s.works_releaseBegins
    exact (Works.sameDepot before).trans ((Works.sameDepot after).of_same)
  · split
    · obtain ⟨u, before, after⟩ := s.works_releaseEnds
      exact (Works.sameDepot before).trans ((Works.sameDepot after).of_same)
    · exact .refl s

theorem sameDepot_tellHalts : s.SameDepot s.tellHalts :=
  s.sameDepot_foldl (act := fun t b => t.onBerth b fun x => { x with halted := s.haltCondition b })
    (fun _ _ => ⟨rfl, rfl, rfl, rfl⟩) allBerths

theorem sameDepot_followLines : s.SameDepot s.followLines := by
  unfold followLines
  dsimp only
  split
  · exact s.sameDepot_tellHalts
  · exact s.sameDepot_tellHalts.trans (sameDepot_workOutRelease _).of_same

theorem sameDepot_endEverything : s.SameDepot s.endEverything := by
  have reset : s.SameDepot (s.eachLane fun t l => t.laneReset l .controlReset) :=
    Works.sameDepot (s.works_eachLane fun t _ => t.works_laneReset (gated := fun _ => True) trivial .controlReset)
  have freed (u : State) : u.SameDepot { u with engine := none } := ⟨rfl, rfl, rfl, rfl⟩
  exact (reset.trans (freed _)).trans (Works.sameDepot (works_closeEntries (gated := fun _ => True) _ false _))

/-- A control reset leaves the silence quiet, and the request and what has been sent as they are. -/
theorem depot_controlReset (quiet : s.depotLost = false) : s.controlReset.request = s.request ∧
    s.controlReset.depotOut = s.depotOut ∧ s.controlReset.depotLost = false := by
  have ended := s.sameDepot_endEverything
  have defaulted (u : State) (lost : u.depotLost = false) : u.clearAndDefault.request = u.request ∧
      u.clearAndDefault.depotOut = u.depotOut ∧ u.clearAndDefault.depotLost = false := by
    have lines : State.SameDepot { u with flags := 0, settings := Settings.defaults } (allLines.foldl
        (fun (t : State) i => t.onLine i (.remap .unused)) { u with flags := 0, settings := Settings.defaults }) :=
      sameDepot_foldl _ (act := fun (t : State) i => t.onLine i (.remap .unused)) (fun _ _ => ⟨rfl, rfl, rfl, rfl⟩) allLines
    have reload (v : State) (still : v.depotLost = false) : v.reloadSilence.request = v.request ∧
        v.reloadSilence.depotOut = v.depotOut ∧ v.reloadSilence.depotLost = false := by
      unfold reloadSilence
      split
      · exact ⟨rfl, rfl, rfl⟩
      · exact ⟨rfl, rfl, still⟩
    unfold clearAndDefault
    dsimp only
    split
    · exact ⟨rfl, rfl, lost⟩
    · obtain ⟨request, sent, still⟩ := reload _ (lines.depotLost.trans lost)
      have followed := sameDepot_followLines (reloadSilence (allLines.foldl
        (fun (t : State) i => t.onLine i (.remap .unused)) { u with flags := 0, settings := Settings.defaults }))
      exact ⟨followed.request.trans (request.trans lines.request), followed.depotOut.trans (sent.trans lines.depotOut),
        followed.depotLost.trans still⟩
  obtain ⟨request, sent, lost⟩ := defaulted _ (ended.depotLost.trans quiet)
  have sourced (u : State) : u.SameDepot { u with frameSource := false } := ⟨rfl, rfl, rfl, rfl⟩
  have worked : State.SameDepot s.endEverything.clearAndDefault s.controlReset :=
    ((sourced _).trans (sameDepot_workOutRelease _)).trans (sameDepot_arbitrate _)
  exact ⟨worked.request.trans (request.trans ended.request), worked.depotOut.trans (sent.trans ended.depotOut),
    worked.depotLost.trans lost⟩

/-! ### The owners of the requests -/

theorem sameDepot_takeArrive (vessel capacity aboard : Half) (reserve band : Byte) (b : BerthId) :
    s.SameDepot (takeArrive vessel capacity aboard reserve band b s).1 := by
  unfold takeArrive
  split
  · exact .refl s
  · split
    · exact ⟨rfl, rfl, rfl, rfl⟩
    · exact .refl s

theorem sameDepot_takeOpen (b : BerthId) : s.SameDepot (takeOpen b s).1 := by
  unfold takeOpen
  split
  · dsimp only
    exact Works.sameDepot (gated := fun _ => True) (s.works_atBerth b _ rfl)
  · exact .refl s

theorem sameDepot_takeClose (b : BerthId) : s.SameDepot (takeClose b s).1 := by
  unfold takeClose
  split
  · exact ⟨rfl, rfl, rfl, rfl⟩
  · exact .refl s

theorem sameDepot_turnover (b : BerthId) : s.SameDepot (s.turnover b) := by
  refine Works.sameDepot (gated := fun _ => True) ?_
  have forfeits : s.Works (fun _ => True) (s.eachLane (turnoverForfeit b)) := by
    refine s.works_eachLane fun t l => ?_
    unfold turnoverForfeit
    split
    · exact (t.works_forfeitAll trivial false).trans (works_reworkGate _ trivial)
    · exact .refl
  refine ((forfeits.trans (works_eachLane _ fun t l => ?_)).trans (works_closeEntries _ false _)).trans
    (works_finishTurnover _ b)
  unfold turnoverOrphan
  split
  · split
    · exact t.works_orphan l
    · exact .refl
  · exact .refl

theorem sameDepot_takeDepart (b : BerthId) : s.SameDepot (takeDepart b s).1 := by
  unfold takeDepart
  split
  · exact .refl s
  · exact s.sameDepot_turnover b

theorem sameDepot_takeCapacity (capacity aboard : Half) (b : BerthId) :
    s.SameDepot (takeCapacity capacity aboard b s).1 :=
  Works.sameDepot (gated := fun _ => True) (s.works_takeCapacity capacity aboard b)

theorem sameDepot_takeSource (source : Byte) (b : BerthId) : s.SameDepot (takeSource source b s).1 := by
  unfold takeSource
  split
  · exact .refl s
  · split
    · exact .refl s
    · exact ⟨rfl, rfl, rfl, rfl⟩

theorem sameDepot_takeLaneSetup (lane mode berth : Byte) : s.SameDepot (takeLaneSetup lane mode berth s).1 := by
  unfold takeLaneSetup
  split
  · split
    · exact .refl s
    · split
      · next l m _ _ _ _ =>
        have renewed : (s.takeMode l m).SameDepot ((s.takeMode l m).renewGate l) :=
          Works.sameDepot (gated := fun _ => True) (works_renewGate _ trivial)
        exact renewed.of_same
      · exact .refl s
  · exact .refl s

theorem sameDepot_takeLaneReset (l : LaneId) : s.SameDepot (takeLaneReset l s).1 :=
  (Works.sameDepot (s.works_laneReset (gated := fun _ => True) trivial .depot)).trans (sameDepot_arbitrate _)

theorem sameDepot_takeLaneRead (option : Byte) (l : LaneId) : s.SameDepot (takeLaneRead option l s).1 :=
  Works.sameDepot (gated := fun _ => True) (s.works_takeLaneRead option l)

theorem sameDepot_takeJournalRelease (sequence : Quad) : s.SameDepot (takeJournalRelease sequence s).1 := by
  unfold takeJournalRelease
  split
  · exact ⟨rfl, rfl, rfl, rfl⟩
  · exact .refl s

theorem sameDepot_takeJournalStatus (option : Byte) : s.SameDepot (takeJournalStatus option s).1 := by
  unfold takeJournalStatus
  dsimp only
  split
  · exact ⟨rfl, rfl, rfl, rfl⟩
  · exact .refl s

theorem sameDepot_takeClockSet (day : Half) (secs : Quad) : s.SameDepot (takeClockSet day secs s).1 := by
  unfold takeClockSet
  exact (sameDepot_handTime _).of_same

theorem sameDepot_takeLineSetup (line entry parameter options : Byte) :
    s.SameDepot (takeLineSetup line entry parameter options s).1 := by
  unfold takeLineSetup
  split
  · dsimp only
    exact ((sameDepot_followLines _).trans (sameDepot_arbitrate _)).of_same
  · exact .refl s

theorem sameDepot_takeRelease (source : Bool) : s.SameDepot (takeRelease source s).1 := by
  unfold takeRelease
  exact ((sameDepot_workOutRelease _).trans (sameDepot_arbitrate _)).of_same

theorem sameDepot_takeNoticeClear (named : Half) : s.SameDepot (takeNoticeClear named s).1 := ⟨rfl, rfl, rfl, rfl⟩

end State

/-! ### How a request runs -/

/-- The requests that an owner answers, with the owner's effect on the state. -/
theorem exec_of_owned {c : Instr} {kind : RequestKind} {tag : Byte} (request : requestKindAndTag c = some (kind, tag))
    (reads : kind ≠ .tableStatus) (resets : kind ≠ .controlReset) (edits : kind.changesShadow = false) :
    ∃ owner : State → State × ReplyBody, (∀ s : State, exec c s = .next (s.answer kind tag owner)) ∧
      (kind ≠ .settingWrite → ∀ s : State, s.SameDepot (owner s).1) := by
  have unitOwner {α : Type} {owner : α → State → State × ReplyBody} (unit : Option α)
      (same : ∀ x (s : State), s.SameDepot (owner x s).1) (s : State) : s.SameDepot (inRange unit owner s).1 := by
    unfold inRange
    split
    · exact same _ s
    · exact .refl s
  cases c <;> simp only [requestKindAndTag, Option.some.injEq, Prod.mk.injEq, reduceCtorEq] at request <;>
    obtain ⟨rfl, rfl⟩ := request
  case berthArrive => exact ⟨_, fun _ => rfl, fun _ => unitOwner _ fun b u => u.sameDepot_takeArrive _ _ _ _ _ b⟩
  case berthOpen => exact ⟨_, fun _ => rfl, fun _ => unitOwner _ fun b u => u.sameDepot_takeOpen b⟩
  case berthClose => exact ⟨_, fun _ => rfl, fun _ => unitOwner _ fun b u => u.sameDepot_takeClose b⟩
  case berthDepart => exact ⟨_, fun _ => rfl, fun _ => unitOwner _ fun b u => u.sameDepot_takeDepart b⟩
  case berthCapacity => exact ⟨_, fun _ => rfl, fun _ => unitOwner _ fun b u => u.sameDepot_takeCapacity _ _ b⟩
  case berthSource => exact ⟨_, fun _ => rfl, fun _ => unitOwner _ fun b u => u.sameDepot_takeSource _ b⟩
  case berthRead => exact ⟨_, fun _ => rfl, fun _ => unitOwner _ fun _ u => .refl u⟩
  case laneSetup => exact ⟨_, fun _ => rfl, fun _ u => u.sameDepot_takeLaneSetup _ _ _⟩
  case laneReset => exact ⟨_, fun _ => rfl, fun _ => unitOwner _ fun l u => u.sameDepot_takeLaneReset l⟩
  case laneRead => exact ⟨_, fun _ => rfl, fun _ => unitOwner _ fun l u => u.sameDepot_takeLaneRead _ l⟩
  case journalRead => exact ⟨_, fun _ => rfl, fun _ => unitOwner _ fun _ u => .refl u⟩
  case journalRelease => exact ⟨_, fun _ => rfl, fun _ u => u.sameDepot_takeJournalRelease _⟩
  case journalStatus => exact ⟨_, fun _ => rfl, fun _ u => u.sameDepot_takeJournalStatus _⟩
  case clockSet => exact ⟨_, fun _ => rfl, fun _ u => u.sameDepot_takeClockSet _ _⟩
  case settingWrite => exact ⟨_, fun _ => rfl, fun other => absurd rfl other⟩
  case lineSetup => exact ⟨_, fun _ => rfl, fun _ u => u.sameDepot_takeLineSetup _ _ _ _⟩
  case releaseStart => exact ⟨_, fun _ => rfl, fun _ u => u.sameDepot_takeRelease _⟩
  case releaseEnd => exact ⟨_, fun _ => rfl, fun _ u => u.sameDepot_takeRelease _⟩
  case noticeClear => exact ⟨_, fun _ => rfl, fun _ u => u.sameDepot_takeNoticeClear _⟩
  case clockRead | settingRead | lineRead | noticeRead | identify => exact ⟨_, fun _ => rfl, fun _ u => .refl u⟩
  case tableStatus => exact absurd rfl reads
  case controlReset => exact absurd rfl resets
  all_goals exact absurd edits (by decide)

/-- A request that changes the shadow is a table request of its kind (R128). -/
theorem tableRequest_of_changesShadow {c : Instr} {kind : RequestKind} {tag : Byte}
    (request : requestKindAndTag c = some (kind, tag)) (edits : kind.changesShadow = true) :
    ∃ r, tableRequestOf c = some (tag, r) ∧ r.kind = kind := by
  cases c <;> simp only [requestKindAndTag, Option.some.injEq, Prod.mk.injEq, reduceCtorEq] at request <;>
    obtain ⟨rfl, rfl⟩ := request <;> first | exact ⟨_, rfl, rfl⟩ | exact absurd edits (by decide)

theorem eq_tableStatus {c : Instr} {tag : Byte} (request : requestKindAndTag c = some (.tableStatus, tag)) :
    c = .tableStatus tag := by
  cases c <;> simp_all [requestKindAndTag]

theorem eq_controlReset {c : Instr} {tag : Byte} (request : requestKindAndTag c = some (.controlReset, tag)) :
    c = .controlReset tag := by
  cases c <;> simp_all [requestKindAndTag]

theorem eq_settingWrite {c : Instr} {tag : Byte} (request : requestKindAndTag c = some (.settingWrite, tag)) :
    ∃ setting berth value, c = .settingWrite tag setting berth value := by
  cases c <;> simp_all [requestKindAndTag]

theorem exec_controlReset_of_free {s : State} (tag : Byte) (free : s.request = none) : exec (.controlReset tag) s =
    .next ((s.goodFrame.controlReset.noticed 0).reply .controlReset tag (.plain .done)) := by
  simp only [exec, execControlReset, free, State.notify_eq_noticed]

theorem exec_controlReset_of_busy {s : State} (tag : Byte) (busy : s.request ≠ none) : exec (.controlReset tag) s =
    .next (s.answered s [.reply .controlReset tag (.plain .busy)]) := by
  obtain ⟨j, progress⟩ := Option.ne_none_iff_exists'.1 busy
  simp only [exec, execControlReset, progress]
  rfl

/-- The NOTICE of an event is one of its flags, or there is none. -/
theorem noticeFor_cases (before : Half) (u : State) :
    noticeFor before u = [] ∨ noticeFor before u = [.notice u.flags] := by
  unfold noticeFor
  split_ifs
  · exact .inl rfl
  · exact .inr rfl

/-! ### SETTING WRITE (R171) -/

/-- A SETTING WRITE names a setting that takes the value, or is out of range. -/
theorem settingWrite_cases (setting berth : Byte) (value : Half) :
    (∀ n, settingOf setting berth = some n → n.applied value.toNat = none) ∨
      ∃ n v, settingOf setting berth = some n ∧ n.applied value.toNat = some v := by
  cases named : settingOf setting berth with
  | none => exact .inl nofun
  | some n =>
    cases applied : n.applied value.toNat with
    | none =>
      refine .inl fun m same => ?_
      obtain rfl := Option.some.inj same
      exact applied
    | some v => exact .inr ⟨n, v, rfl, applied⟩

/-- A setting put changes the settings, and by them the silence state or the NOTICE of a mark that rises (R170, R172). -/
theorem State.putSetting_shape (s : State) (n : SettingName) (v : Nat) : s.putSetting n v = { s with
    settings := s.settings.put n v
    silenceTimer := (s.putSetting n v).silenceTimer
    depotLost := (s.putSetting n v).depotLost
    depotOut := (s.putSetting n v).depotOut } := by
  simp only [State.putSetting, State.reloadSilence, State.notifyUnmasked]
  split
  · split_ifs <;> rfl
  · split_ifs <;> rfl
  · rfl

/-- What SETTING WRITE sends before its reply: a NOTICE where a mark rises over a set flag, and else nothing (R169). -/
theorem State.depotOut_putSetting (s : State) (n : SettingName) (v : Nat) :
    (s.putSetting n v).depotOut = s.depotOut ∨ (s.putSetting n v).depotOut = s.depotOut ++ [.notice s.flags] := by
  simp only [State.putSetting, State.reloadSilence, State.notifyUnmasked]
  split
  · split_ifs <;> exact .inl rfl
  · split_ifs
    · exact .inr rfl
    · exact .inl rfl
  · exact .inl rfl

theorem State.depotLost_putSetting {s : State} (quiet : s.depotLost = false) (n : SettingName) (v : Nat) :
    (s.putSetting n v).depotLost = false := by
  simp only [State.putSetting, State.reloadSilence, State.notifyUnmasked]
  split
  · split_ifs
    · rfl
    · exact quiet
  · split_ifs <;> exact quiet
  · exact quiet

/-- A SETTING WRITE that puts a setting is answered with the value it took. -/
theorem exec_settingWrite {s : State} (free : s.request = none) (tag : Byte) {setting berth : Byte} {value : Half}
    {n : SettingName} {v : Nat} (named : settingOf setting berth = some n) (applied : n.applied value.toNat = some v) :
    exec (.settingWrite tag setting berth value) s = .next ((s.goodFrame.putSetting n v).reply .settingWrite tag
      (.settingApplied setting (n.berthByte berth) v)) := by
  have taken : takeSettingWrite setting berth value s.goodFrame =
      (s.goodFrame.putSetting n v, .settingApplied setting (n.berthByte berth) v) := by
    simp only [takeSettingWrite, named, applied]
  have silent : noticeFor s.flags (s.goodFrame.putSetting n v) = [] :=
    noticeFor_of_flags (by rw [State.putSetting_shape]; rfl)
  rw [exec, execSettingWrite, State.answer_of_free _ _ _ free]
  simp only [taken, silent, List.append_nil]
  rfl

/-- A SETTING WRITE out of range is answered RANGE and changes nothing. -/
theorem exec_settingWrite_of_range {s : State} (free : s.request = none) (tag : Byte) {setting berth : Byte}
    {value : Half} (range : ∀ n, settingOf setting berth = some n → n.applied value.toNat = none) :
    exec (.settingWrite tag setting berth value) s = .next (s.answered s [.reply .settingWrite tag (.plain .range)]) := by
  refine congrArg Host.Outcome.next (State.answer_of_no_new_flag tag free ?_ (BitVec.and_not_self s.flags))
  rw [State.answered_self_nil, takeSettingWrite]
  cases named : settingOf setting berth with
  | none => rfl
  | some n => simp only [range n named]

end Sys2Proof.Machine

open Sys2Proof Sys2Proof.Machine

/-- Settles O8: an owned request, a table request or CONTROL_RESET meets the one in progress. -/
theorem aRequestInProgressMakesOthersBusy : Obligations.ARequestInProgressMakesOthersBusy := by
  intro c s kind tag request other busy
  by_cases edits : kind.changesShadow = true
  · obtain ⟨r, carries, rfl⟩ := tableRequest_of_changesShadow request edits
    rw [exec_of_tableRequest carries, State.arrive_of_busy tag r busy]
  · by_cases resets : kind = .controlReset
    · subst resets
      rw [eq_controlReset request]
      exact exec_controlReset_of_busy tag busy
    · obtain ⟨owner, runs, -⟩ := exec_of_owned request other resets (by simpa using edits)
      rw [runs, State.answer_of_busy kind tag owner busy]

/-- Settles O7: an owned request answers after its NOTICE; TABLE_STATUS, SETTING_WRITE and CONTROL_RESET send theirs
themselves. -/
theorem aRequestIsAnsweredOnceAfterItsNotice : Obligations.ARequestIsAnsweredOnceAfterItsNotice := by
  intro c s kind tag request edits free
  by_cases reads : kind = .tableStatus
  · subst reads
    rw [eq_tableStatus request]
    exact ⟨_, rfl, free, rfl, fun _ _ => rfl, _, [], by rw [List.append_nil]; rfl, .inl rfl,
      fun _ _ => (noticeFor_of_flags rfl).symm⟩
  by_cases resets : kind = .controlReset
  · subst resets
    obtain ⟨none, sent, quiet⟩ := s.goodFrame.depot_controlReset rfl
    rw [eq_controlReset request, exec_controlReset_of_free tag free]
    generalize s.goodFrame.controlReset = u at none sent quiet
    refine ⟨_, rfl, none.trans free, quiet, fun _ other => absurd rfl other, .plain .done, noticeFor 0 u, ?_,
      noticeFor_cases 0 _, fun _ other => absurd rfl other⟩
    simp only [State.reply, State.transmit, State.noticed, sent]
    rfl
  by_cases writes : kind = .settingWrite
  · subst writes
    obtain ⟨setting, berth, value, rfl⟩ := eq_settingWrite request
    obtain range | ⟨n, v, named, applied⟩ := settingWrite_cases setting berth value
    · rw [exec_settingWrite_of_range free tag range]
      exact ⟨_, rfl, free, rfl, fun other => absurd rfl other, _, [], by rw [List.append_nil]; rfl, .inl rfl,
        fun other => absurd rfl other⟩
    · rw [exec_settingWrite free tag named applied]
      have quiet := State.depotLost_putSetting (s := s.goodFrame) rfl n v
      have shape := s.goodFrame.putSetting_shape n v
      have none : (s.goodFrame.putSetting n v).request = none := by
        rw [shape]
        exact free
      have flags : (s.goodFrame.putSetting n v).flags = s.flags := by rw [shape]; rfl
      obtain sent | sent := s.goodFrame.depotOut_putSetting n v
      · refine ⟨_, rfl, none, quiet, fun other => absurd rfl other,
          .settingApplied setting (n.berthByte berth) v, [], ?_, .inl rfl, fun other => absurd rfl other⟩
        rw [State.reply_depotOut, sent, List.append_nil]
        rfl
      · refine ⟨_, rfl, none, quiet, fun other => absurd rfl other,
          .settingApplied setting (n.berthByte berth) v, [.notice s.flags], ?_, .inr ?_,
          fun other => absurd rfl other⟩
        · rw [State.reply_depotOut, sent]
          rfl
        · rw [State.reply_flags, flags]
  · obtain ⟨owner, runs, same⟩ := exec_of_owned request reads resets edits
    rw [runs, State.answer_of_free kind tag owner free]
    have kept := same writes s.goodFrame
    refine ⟨_, rfl, kept.request.trans free, kept.depotLost, fun _ _ => kept.silenceTimer, (owner s.goodFrame).2,
      noticeFor s.flags (owner s.goodFrame).1, ?_, noticeFor_cases _ _, fun _ _ => rfl⟩
    dsimp only
    rw [kept.depotOut]
    rfl

end

section
/-! SETTING WRITE to each setting (R170, R171, R172), and what an event ends with (R42, R140, R168). -/

namespace Sys2Proof.Machine

/-! ### The settings by their codes (spec/11) -/

theorem settingOf_of_above {setting : Byte} (berth : Byte) (above : 0x0D < setting.toNat) :
    settingOf setting berth = none := by
  unfold settingOf
  split <;> first | omega | rfl

theorem settingOf_gangway (b : BerthId) : settingOf 0x0B (number b) = some (.gangway b) := by
  rw [settingOf]
  exact congrArg (Option.map _) (berthOf_number b)

/-- A setting put leaves every other numeric setting (R171). -/
theorem Settings.numeric_put_of_ne (x : Settings) {code other : Byte} {low high : Nat}
    (numeric : (code, low, high) ∈ numericSettings) {n : SettingName} {berth : Byte} (named : settingOf code berth = some n)
    (v : Nat) (differs : other ≠ code) : (x.put n v).numeric other = x.numeric other := by
  simp only [numericSettings, List.mem_cons, Prod.mk.injEq, List.not_mem_nil, or_false] at numeric
  obtain ⟨rfl, rfl, rfl⟩ | ⟨rfl, rfl, rfl⟩ | ⟨rfl, rfl, rfl⟩ | ⟨rfl, rfl, rfl⟩ | ⟨rfl, rfl, rfl⟩ | ⟨rfl, rfl, rfl⟩ |
    ⟨rfl, rfl, rfl⟩ | ⟨rfl, rfl, rfl⟩ | ⟨rfl, rfl, rfl⟩ | ⟨rfl, rfl, rfl⟩ := numeric <;>
  obtain rfl := Option.some.inj named <;> unfold Settings.numeric <;> split <;>
  first
    | rfl
    | next same => exact (differs (BitVec.eq_of_toNat_eq same)).elim

/-- What a numeric setting's code names, the value it takes, and the settings after it is put. -/
theorem numeric_cases {code : Byte} {low high : Nat} (numeric : (code, low, high) ∈ numericSettings) (berth : Byte)
    (value : Nat) (x : Settings) : ∃ n, settingOf code berth = some n ∧
      n.applied value = some (max low (min high value)) ∧ n.berthByte berth = 0 ∧ n ≠ .mask ∧
      (n = .depotSilence ↔ code = 8) ∧
      ∀ v, (x.put n v).numeric code = v ∧ (x.put n v).gangway = x.gangway ∧ (x.put n v).mask = x.mask ∧
        (x.put n v).keep = x.keep := by
  simp only [numericSettings, List.mem_cons, Prod.mk.injEq, List.not_mem_nil, or_false] at numeric
  obtain ⟨rfl, rfl, rfl⟩ | ⟨rfl, rfl, rfl⟩ | ⟨rfl, rfl, rfl⟩ | ⟨rfl, rfl, rfl⟩ | ⟨rfl, rfl, rfl⟩ | ⟨rfl, rfl, rfl⟩ |
    ⟨rfl, rfl, rfl⟩ | ⟨rfl, rfl, rfl⟩ | ⟨rfl, rfl, rfl⟩ | ⟨rfl, rfl, rfl⟩ := numeric <;>
  exact ⟨_, rfl, rfl, rfl, by decide, by decide, fun v => ⟨rfl, rfl, rfl, rfl⟩⟩

/-- A setting other than the mask is put with the silence timer loaded or stopped by the depot silence setting alone
(R170). -/
theorem State.putSetting_of_ne_mask (s : State) {n : SettingName} (v : Nat) (other : n ≠ .mask) : s.putSetting n v = { s with
    settings := s.settings.put n v
    silenceTimer := if n = .depotSilence then (if v = 0 then none else some v) else s.silenceTimer
    depotLost := if n = .depotSilence then (if v = 0 then false else s.depotLost) else s.depotLost } := by
  unfold State.putSetting
  cases n
  case mask => exact absurd rfl other
  case depotSilence =>
    by_cases stopped : v = 0
    · simp [State.reloadSilence, Settings.put, stopped]
    · simp [State.reloadSilence, Settings.put, stopped]
  all_goals simp only [reduceCtorEq, if_false]

/-- The mask put sends a NOTICE where a mark rises over a set flag (R169). -/
theorem State.putSetting_mask (s : State) (v : Nat) : s.putSetting .mask v = { s with
    settings := { s.settings with mask := BitVec.ofNat 16 v }
    depotOut := s.depotOut ++
      (if BitVec.ofNat 16 v &&& ~~~s.settings.mask &&& s.flags = 0 then [] else [.notice s.flags]) } := by
  simp only [State.putSetting, State.notifyUnmasked, Settings.put, bne_iff_ne, ne_eq, ite_not]
  by_cases none_rises : BitVec.ofNat 16 v &&& ~~~s.settings.mask &&& s.flags = 0#16
  · simp [none_rises]
  · simp [none_rises, State.transmit]

/-! ### The rotation (R1, R42) -/

/-- The first lane of a rotation to pass a test is the one before which none does. -/
theorem find?_rotation {p : LaneId → Bool} {g l : LaneId} (passes : p l = true)
    (first : ∀ m : LaneId, m - g - 1 < l - g - 1 → p m = false) : (rotation g).find? p = some l := by
  have place (i : Nat) (h : i < allLanes.length) : allLanes[i] = ⟨i, h⟩ :=
    (by decide : ∀ i : Fin 16, allLanes[i.val]'i.isLt = i) ⟨i, h⟩
  have turned (k : LaneId) : g + 1 + k - g - 1 = k := by abel
  rw [rotation, List.find?_map]
  have found : allLanes.find? (p ∘ fun k => g + 1 + k) = some (l - g - 1) := by
    rw [List.find?_eq_some_iff_getElem]
    have here : g + 1 + (l - g - 1) = l := by abel
    refine ⟨by simpa [here] using passes, (l - g - 1).val, (l - g - 1).isLt, place _ _, fun j earlier => ?_⟩
    have below : j < allLanes.length := earlier.trans (l - g - 1).isLt
    have not_yet := first (g + 1 + ⟨j, below⟩) (by rw [turned]; exact earlier)
    simp [place j below, not_yet]
  rw [found, Option.map_some, show g + 1 + (l - g - 1) = l by abel]

theorem find?_rotation_eq_none {p : LaneId → Bool} (g : LaneId) (none_passes : ∀ m : LaneId, p m = false) :
    (rotation g).find? p = none := by
  rw [List.find?_eq_none]
  exact fun m _ => by rw [none_passes m]; decide

/-! ### The arbiter's grant (R42, R43) -/

theorem State.arbitrate_of_firstWaiting {s : State} (idle : s.engine = none) {l : LaneId} {b : BerthId}
    {image : CardImage} (waits : (s.lane l).txn = .waiting image) (mode : (s.lane l).mode = .entry b)
    (first : s.firstWaiting l) : s.arbitrate = s.grantedTo l b image := by
  have next : s.nextWaiting = some l := find?_rotation (by simp [waits, Transaction.isWaiting]) first
  have berth : (s.lane l).mode.berth?.getD 0 = b := by rw [mode]; rfl
  simp only [State.arbitrate, idle, next, State.grant, waits, State.newValidation, berth]
  rfl

/-- What the taking of a table request can change at all. -/
theorem State.takeTable_shape (s : State) (r : TableRequest) : (s.takeTable r).1 = { s with
    bankA := (s.takeTable r).1.bankA, bankB := (s.takeTable r).1.bankB, active := (s.takeTable r).1.active
    pendingActivation := (s.takeTable r).1.pendingActivation, journal := (s.takeTable r).1.journal
    flags := (s.takeTable r).1.flags } := by
  cases r with
  | activate version expected timing day secs =>
    have versioned (k : Bank) : s.withShadow k = { s with
        bankA := (s.withShadow k).bankA, bankB := (s.withShadow k).bankB } := s.withShadow_shape k
    have swapped (k : Bank) : (s.withShadow k).swap = { s with
        bankA := (s.withShadow k).swap.bankA, bankB := (s.withShadow k).swap.bankB, active := (s.withShadow k).swap.active
        pendingActivation := (s.withShadow k).swap.pendingActivation, journal := (s.withShadow k).swap.journal
        flags := (s.withShadow k).swap.flags } := by
      rw [State.swap_shape, versioned]
    simp only [State.takeTable, State.takeActivate]
    split
    · rfl
    · split_ifs
      · split
        · exact swapped _
        · split_ifs
          · exact swapped _
          · rw [versioned]
      · rfl
  | _ =>
    simp only [State.takeTable]
    rw [s.cancelActivation_shape]

theorem State.takeTable_lanes (s : State) (r : TableRequest) : (s.takeTable r).1.lanes = s.lanes := by
  rw [State.takeTable_shape]
theorem State.takeTable_engine (s : State) (r : TableRequest) : (s.takeTable r).1.engine = s.engine := by
  rw [State.takeTable_shape]
theorem State.takeTable_lastGranted (s : State) (r : TableRequest) : (s.takeTable r).1.lastGranted = s.lastGranted := by
  rw [State.takeTable_shape]
theorem State.takeTable_depotOut (s : State) (r : TableRequest) : (s.takeTable r).1.depotOut = s.depotOut := by
  rw [State.takeTable_shape]

theorem State.firstWaiting_congr {s t : State} (lanes : t.lanes = s.lanes) (granted : t.lastGranted = s.lastGranted)
    {l : LaneId} (first : s.firstWaiting l) : t.firstWaiting l := by
  intro m before
  rw [State.lane_congr lanes m]
  exact first m (granted ▸ before)

/-- A request waiting on a free lock is taken; a TABLE ACTIVATE ends with its taking, every other works on (R128). -/
theorem State.takeWaiting_of_unlocked (s : State) {j : TableJob} (progress : s.request = some j)
    (waits : j.phase = .waiting) (unlocked : s.readLocked = false) : s.takeWaiting =
      let ends := j.request.kind = .tableActivate
      let r := s.takeTable j.request
      ({ r.1 with request := if ends then none else some { j with phase := .working r.2 } },
        if ends then [.reply .tableActivate j.tag r.2] else []) := by
  obtain ⟨tag, request, phase⟩ := j
  obtain rfl : phase = .waiting := waits
  have locked : ¬ s.readLocked = true := by rw [unlocked]; decide
  simp only [State.takeWaiting, progress, if_neg locked]
  by_cases ends : request.kind = .tableActivate
  · have idle : ¬ request.hasWork = true := by
      rw [Bool.not_eq_true, request.hasWork_eq_false_iff]
      exact ends
    simp only [if_neg idle, if_pos ends]
    rw [ends]
  · have work : request.hasWork = true := by
      rw [← Bool.not_eq_false, request.hasWork_eq_false_iff]
      exact ends
    simp only [if_pos work, if_neg ends]

theorem State.endEvent_eq (s : State) (before : Half) :
    s.endEvent before = (s.takeWaiting.1.arbitrate.noticed before).send s.takeWaiting.2 := by
  simp only [State.endEvent, State.notify_eq_noticed]

end Sys2Proof.Machine

open Sys2Proof Sys2Proof.Machine

/-- Settles O13: the numeric settings, the gangway limits, the mask and keep-settings, each put where its value applies. -/
theorem settingsTakeTheirAppliedValues : Obligations.SettingsTakeTheirAppliedValues := by
  refine ⟨fun s free code low high numeric tag berth value => ?_, fun s free b tag value => ?_,
    fun s free tag berth value => ?_, fun s free tag berth on => ?_, fun s free tag setting berth value out => ?_⟩
  · obtain ⟨n, named, applied, byte, mask, silence, put⟩ := numeric_cases numeric berth value.toNat s.settings
    rw [exec_settingWrite free tag named applied, State.putSetting_of_ne_mask _ _ mask, byte]
    obtain ⟨taken, gangway, mask, keep⟩ := put (max low (min high value.toNat))
    refine ⟨_, rfl, taken, fun other differs => Settings.numeric_put_of_ne _ numeric named _ differs,
      ⟨gangway, mask, keep⟩, ?_⟩
    have quiet : (if n = .depotSilence then (if max low (min high value.toNat) = 0 then false else s.goodFrame.depotLost)
        else s.goodFrame.depotLost) = false := by split_ifs <;> rfl
    have timer : (if n = .depotSilence then
          (if max low (min high value.toNat) = 0 then none else some (max low (min high value.toNat)))
        else s.goodFrame.silenceTimer) = if code = 8 then
          (if value = 0 then none else some ((s.settings.put n (max low (min high value.toNat))).numeric 8))
        else if s.settings.depotSilence = 0 then s.silenceTimer else some s.settings.depotSilence := by
      by_cases eight : code = 8
      · subst eight
        have zero : max low (min high value.toNat) = 0 ↔ value = 0 := by
          simp [numericSettings] at numeric
          obtain ⟨rfl, rfl⟩ := numeric
          bv_omega
        rw [if_pos (silence.mpr rfl), if_pos rfl, if_congr zero rfl rfl, taken]
      · rw [if_neg (silence.not.mpr eight), if_neg eight]
        rfl
    rw [quiet, timer]
    rfl
  · rw [exec_settingWrite free tag (settingOf_gangway b) rfl, State.putSetting_of_ne_mask (n := .gangway b) _ _ (by simp)]
    have clamped : clamp 0 Config.maxPlaces value.toNat = min 1200 value.toNat := Nat.zero_max _
    rw [clamped]
    rfl
  · rw [exec_settingWrite free tag rfl rfl, State.putSetting_mask, BitVec.ofNat_toNat, BitVec.setWidth_eq]
    simp only [State.answered, State.reply, State.transmit, ← List.append_assoc]
    rfl
  · cases on
    · rw [exec_settingWrite free tag (n := .keep) (v := 0) rfl rfl, State.putSetting_of_ne_mask (n := .keep) _ _ (by simp)]
      rfl
    · rw [exec_settingWrite free tag (n := .keep) (v := 1) rfl rfl, State.putSetting_of_ne_mask (n := .keep) _ _ (by simp)]
      rfl
  · refine exec_settingWrite_of_range free tag fun n named => ?_
    obtain rfl | above | ⟨rfl, berthOut⟩ | ⟨rfl, high⟩ := out
    · cases named
    · rw [settingOf_of_above berth above] at named
      cases named
    · have outside : berthOf berth = none := oneBased_of_outside (berthOut.imp_left fun zero => by rw [zero]; rfl)
      have unnamed : settingOf 0x0B berth = none := congrArg (Option.map _) outside
      rw [unnamed] at named
      cases named
    · obtain rfl := Option.some.inj named
      exact if_neg (Nat.not_le.mpr high)

/-- Settles O4: the taking of a waiting request, then the grant in the state it leaves, then the NOTICE and the reply. -/
theorem theEndOfAnEventServesWhatWaits : Obligations.TheEndOfAnEventServesWhatWaits := by
  refine ⟨fun s before rest => State.endEvent_of_atRest rest before, fun s before j progress waits unlocked => ?_,
    fun s before idle none_waits l b image waiting mode first => ?_⟩
  · intro ends r u replies
    have taken : s.takeWaiting = (u, replies) := s.takeWaiting_of_unlocked progress waits unlocked
    have lanes : u.lanes = s.lanes := s.takeTable_lanes j.request
    have engine : u.engine = s.engine := s.takeTable_engine j.request
    have granted : u.lastGranted = s.lastGranted := s.takeTable_lastGranted j.request
    rw [State.endEvent_eq, taken]
    constructor
    · intro served
      have still : u.arbitrate = u := State.arbitrate_of_atRest fun idle l => by
        rw [State.lane_congr lanes l]
        exact served.resolve_left (not_not_intro (engine ▸ idle)) l
      rw [still]
    · intro idle l b image waiting mode first
      rw [State.arbitrate_of_firstWaiting (engine.trans idle) (State.lane_congr lanes l ▸ waiting)
        (State.lane_congr lanes l ▸ mode) (State.firstWaiting_congr lanes granted first)]
  · rw [State.endEvent_eq, State.takeWaiting_of_atRest fun waits => absurd (none_waits.symm.trans waits) (by decide)]
    simp only [State.send_nil]
    rw [State.arbitrate_of_firstWaiting idle waiting mode first]

end

section
/-! The events that are no request: what each sends (R128, R140, R167, R168). -/

namespace Sys2Proof.Machine

/-- An event that `s` begins and `t` ends sends its NOTICE, where one is due, and the reply of a table request that ends
in it (R167, R168). -/
def State.Sent (s t : State) : Prop :=
  match s.request, t.request with
  | some j, none => ∃ body, t.depotOut = s.depotOut ++ noticeFor s.flags t ++ [.reply j.request.kind j.tag body]
  | _, _ => t.depotOut = s.depotOut ++ noticeFor s.flags t

/-- Where the request in progress stays, the NOTICE alone is sent. -/
theorem State.sent_of_kept {s t : State} (request : t.request = s.request)
    (sent : t.depotOut = s.depotOut ++ noticeFor s.flags t) : s.Sent t := by
  unfold State.Sent
  rw [request]
  cases s.request <;> exact sent

theorem State.sent_of_noticed {s u : State} (same : s.SameDepot u) : s.Sent (u.noticed s.flags) :=
  State.sent_of_kept same.request (congrArg (· ++ noticeFor s.flags u) same.depotOut)

theorem State.sent_of_quiet {s t : State} (same : s.SameDepot t) (flags : t.flags = s.flags) : s.Sent t := by
  refine State.sent_of_kept same.request ?_
  rw [noticeFor_of_flags flags, List.append_nil, same.depotOut]

theorem noticeFor_congr {before : Half} {t u : State} (flags : t.flags = u.flags)
    (settings : t.settings = u.settings) : noticeFor before t = noticeFor before u := by
  simp only [noticeFor, flags, settings]

theorem State.depotOut_endEvent (u : State) (before : Half) : (u.endEvent before).depotOut =
    u.takeWaiting.1.depotOut ++ noticeFor before (u.endEvent before) ++ u.takeWaiting.2 := by
  have same : noticeFor before (u.endEvent before) = noticeFor before u.takeWaiting.1.arbitrate :=
    noticeFor_congr (by rw [State.endEvent_eq]; rfl) (by rw [State.endEvent_eq]; rfl)
  rw [same, State.endEvent_eq]
  simp only [State.send, State.noticed, (State.sameDepot_arbitrate _).depotOut]

theorem State.request_endEvent (u : State) (before : Half) : (u.endEvent before).request = u.takeWaiting.1.request := by
  rw [State.endEvent_eq]
  exact (State.sameDepot_arbitrate _).request

theorem State.sent_endEvent {s u : State} (same : s.SameDepot u) : s.Sent (u.endEvent s.flags) := by
  have sent := u.depotOut_endEvent s.flags
  have request := u.request_endEvent s.flags
  obtain kept | ⟨j, progress, -, -, ⟨-, taken⟩ | ⟨-, taken⟩⟩ := u.takeWaiting_cases
  · rw [kept] at sent request
    refine State.sent_of_kept (request.trans same.request) ?_
    rw [sent, List.append_nil, same.depotOut]
  · rw [taken] at sent request
    rw [same.request] at progress
    unfold State.Sent
    rw [progress, request, sent, State.takeTable_depotOut, same.depotOut, List.append_nil]
  · rw [taken] at sent request
    rw [same.request] at progress
    unfold State.Sent
    rw [progress, request, sent, State.takeTable_depotOut, same.depotOut]
    exact ⟨_, rfl⟩

/-! ### The events -/

namespace State

variable {s : State}

theorem sent_atStage (stage : Stage) {run : State → Validation → State}
    (works : ∀ v, s.engine = some v → s.Works (fun _ => True) (run s v)) : s.Sent (s.atStage stage run) := by
  unfold atStage
  split
  · next v busy =>
    split
    · exact sent_endEvent (Works.sameDepot (works v busy))
    · exact sent_of_quiet (.refl s) rfl
  · exact sent_of_quiet (.refl s) rfl

/-- Stage 2 is work at the units. -/
theorem works_runRecoveryMatch {v : Validation} (busy : s.engine = some v) :
    s.Works (fun _ => True) (s.runRecoveryMatch v) := by
  unfold runRecoveryMatch
  split
  · next e _ =>
    unfold resolve
    split_ifs
    · exact s.works_refuse v _ _
    · exact s.works_refuse v _ _
    · exact s.works_took trivial e
    · exact s.works_refuse v _ _
    · exact s.works_retry v e
    · have engine : (s.closeEntry false e).engine = some v := by rw [closeEntry_shape]; exact busy
      exact (s.works_closeEntry false e).trans (works_goOn engine _ _)
  · exact works_goOn busy _ _

/-- The end of a turn, from the state it is no longer in progress in. -/
theorem sent_ended {u : State} (works : Works (fun _ => True) { s with turn := none } u) :
    s.Sent (u.endEvent s.flags) :=
  sent_endEvent (SameDepot.of_same (t := { s with turn := none }) (Works.sameDepot works))

end State

theorem exec_sent {c : Instr} {s t : State} (ran : exec c s = .next t) (event : requestKindAndTag c = none)
    (notPower : c ≠ .powerOn) (notUnknown : ∀ kind tag, c ≠ .depotUnknownFrame kind tag) : s.Sent t := by
  have idle : s.Sent s := State.sent_of_quiet (.refl s) rfl
  have stage {st : Stage} {run : State → Validation → State}
      (works : ∀ v, s.engine = some v → s.Works (fun _ => True) (run s v))
      (h : Host.Outcome.next (s.atStage st run) = (.next t : Host.Outcome State Fault Refusal)) : s.Sent t :=
    Host.Outcome.next.inj h ▸ State.sent_atStage st works
  have noticed {u : State} (works : s.Works (fun _ => True) u) : s.Sent (u.notify s.flags) := by
    rw [State.notify_eq_noticed]
    exact State.sent_of_noticed (State.Works.sameDepot works)
  cases c
  case powerOn => exact absurd rfl notPower
  case depotUnknownFrame kind tag => exact absurd rfl (notUnknown kind tag)
  case depotBadFrame => exact Host.Outcome.next.inj ran ▸ idle
  case stageService => exact stage (fun _ => State.works_runService) ran
  case stageRecoveryMatch => exact stage (fun _ => State.works_runRecoveryMatch) ran
  case stageCardStatus => exact stage (fun _ => State.works_runCardStatus) ran
  case stageProduct => exact stage (fun _ => State.works_runProduct) ran
  case stagePassback => exact stage (fun _ => State.works_runPassback) ran
  case stageBerthState => exact stage (fun _ => State.works_runBerthState) ran
  case stageFare => exact stage (fun _ => State.works_runFare) ran
  case stageLaneRoom => exact stage (fun _ => State.works_runLaneRoom) ran
  case decisionEvent => exact stage (fun v _ => s.works_runDecision v) ran
  case lineLevelChange i level => exact Host.Outcome.next.inj ran ▸ State.sent_of_quiet ⟨rfl, rfl, rfl, rfl⟩ rfl
  case pollTurn =>
    obtain rfl := Host.Outcome.next.inj ran
    split
    · exact State.sent_of_quiet ⟨rfl, rfl, rfl, rfl⟩ rfl
    · exact idle
  case answerBegins =>
    obtain rfl := Host.Outcome.next.inj ran
    split
    · exact State.sent_of_quiet ⟨rfl, rfl, rfl, rfl⟩ rfl
    · exact idle
  case answer bytes =>
    obtain rfl := Host.Outcome.next.inj ran
    split
    · exact State.sent_ended (State.works_endTurn _ trivial _)
    · exact idle
  case answerWindowExpiry =>
    obtain rfl := Host.Outcome.next.inj ran
    split
    · split
      · exact idle
      · exact State.sent_ended (State.works_missedTurn _ trivial)
    · exact idle
  case holdTimerExpiry l =>
    obtain rfl := Host.Outcome.next.inj ran
    split
    · exact noticed (((s.works_onLane_of_link l _ rfl).trans (State.works_forfeitAll _ trivial false)).trans
        (State.works_reworkGate _ trivial))
    · exact idle
  case writeTimerExpiry l =>
    obtain rfl := Host.Outcome.next.inj ran
    split
    · exact noticed (s.works_writeUncertain l _ _)
    · exact idle
  case recoveryExpiry card =>
    obtain rfl := Host.Outcome.next.inj ran
    split
    · exact noticed (s.works_closeEntry false _)
    · exact idle
  case quietTimerExpiry b =>
    obtain rfl := Host.Outcome.next.inj ran
    split
    · have called : s.Works (fun _ => True) (s.onBerth b (.callLast s.settings.quietUnit)) := .single (.berth s b _ rfl)
      exact noticed ((called.trans (State.works_raise _ _)).trans (State.works_showLastCall _ b))
    · exact idle
  case clockAdvance =>
    obtain rfl := Host.Outcome.next.inj ran
    split
    · rw [State.notify_eq_noticed]
      have advanced : s.SameDepot s.advanceClock := by
        unfold State.advanceClock
        split <;> exact ⟨rfl, rfl, rfl, rfl⟩
      exact State.sent_of_noticed (advanced.trans (State.sameDepot_handTime _))
    · exact idle
  case silenceTimerExpiry =>
    obtain rfl := Host.Outcome.next.inj ran
    split
    · rw [State.notify_eq_noticed]
      exact State.sent_of_kept rfl rfl
    · exact idle
  case tableWorkDone =>
    obtain rfl := Host.Outcome.next.inj ran
    split
    · next tag request body progress =>
      have same := s.workTable_shape request
      unfold State.Sent
      simp only [progress, State.reply_request, State.reply_depotOut]
      rw [noticeFor_of_flags (by rw [State.reply_flags, same]), same]
      exact ⟨body, by rw [List.append_nil]⟩
    · exact idle
  case lineDebounce i =>
    obtain rfl := Host.Outcome.next.inj ran
    split
    · have pulsed : (s.onLine i fun x => { x with debounced := x.level }).SameDepot _ :=
        State.Works.sameDepot (State.works_pulse (gated := fun _ => True) _ i)
      exact State.sent_endEvent (pulsed.trans (State.sameDepot_followLines _)).of_same
    · exact idle
  all_goals cases event

end Sys2Proof.Machine

open Sys2Proof Sys2Proof.Machine

/-- Settles O6: each event's end sends its NOTICE and the reply of a request that ends in it. -/
theorem eventsEndInOneNoticeWhereOneIsDue : Obligations.EventsEndInOneNoticeWhereOneIsDue := by
  intro c s t ran event notPower notUnknown sent
  have sends := exec_sent ran event notPower notUnknown
  have due : noticeFor s.flags t = if t.flags &&& ~~~s.flags &&& t.settings.mask = 0 then [] else [.notice t.flags] := rfl
  rw [State.Sent, due] at sends
  exact sends

end

section
/-! The operations of the units as one change each of a lane, a berth, the journal and the flags, in the words of the
statements. -/

namespace Sys2Proof.Machine

/-! ### Changes of a lane -/

/-- A change that leaves a lane as it is leaves the device as it is. -/
theorem State.onLane_of_eq {s : State} {l : LaneId} {f : Lane → Lane} (same : f (s.lane l) = s.lane l) :
    s.onLane l f = s := by
  rw [State.onLane, same]
  simp [State.lane]

/-- A change of a lane is what it makes of the lane as it stands. -/
theorem State.onLane_congr {s : State} {l : LaneId} {f g : Lane → Lane} (same : f (s.lane l) = g (s.lane l)) :
    s.onLane l f = s.onLane l g := by
  rw [State.onLane, State.onLane, same]

theorem State.withLane_eq_onLane (s : State) (l : LaneId) (x : Lane) : s.withLane l x = s.onLane l fun _ => x := rfl

theorem State.ite_onLane {s : State} {l : LaneId} {f : Lane → Lane} (c : Prop) [Decidable c] :
    (if c then s.onLane l f else s) = s.onLane l fun x => if c then f x else x := by
  split_ifs with h
  · rfl
  · exact (State.onLane_of_eq rfl).symm

@[simp] theorem State.withLane_self (s : State) (l : LaneId) : s.withLane l (s.lane l) = s :=
  State.onLane_of_eq (f := fun x => x) rfl

@[simp] theorem State.lane_withLane (s : State) (l : LaneId) (x : Lane) : (s.withLane l x).lane l = x :=
  s.lane_onLane_self l fun _ => x

@[simp] theorem State.berth_withLane (s : State) (l : LaneId) (x : Lane) (b : BerthId) :
    (s.withLane l x).berth b = s.berth b := rfl

@[simp] theorem State.lane_withBerth (s : State) (b : BerthId) (x : Berth) (l : LaneId) :
    (s.withBerth b x).lane l = s.lane l := rfl

@[simp] theorem State.berth_onLane (s : State) (l : LaneId) (f : Lane → Lane) (b : BerthId) :
    (s.onLane l f).berth b = s.berth b := rfl

@[simp] theorem State.carriedBy_onLane (s : State) (l m : LaneId) (f : Lane → Lane) :
    (s.onLane l f).carriedBy m = s.carriedBy m := rfl

/-! ### What a lane asks of the lane link -/

/-- A lane that asks for a GATE (R5, R13, R16). -/
def Lane.askingGate (x : Lane) (carried : Bool) : Lane :=
  if x.takesFrames then { x with link := x.link.placeGate carried } else x

/-- A lane that asks to show a code (R6, R13, R16). -/
def Lane.askingShow (x : Lane) (code : DisplayCode) : Lane := if x.takesFrames then x.showing code else x

/-- A lane with its gate order worked out (R19). -/
def Lane.ordered (x : Lane) (release : Bool) : Lane := { x with gateOrder := wantedGateOrder release x.mode x.leaf }

/-- A lane with its gate order worked out and a GATE asked for (R14, R36, R38, R39). -/
def Lane.renewed (x : Lane) (release carried : Bool) : Lane := (x.ordered release).askingGate carried

/-- A lane with its gate order worked out, and a GATE asked for where that differs (R19). -/
def Lane.reworked (x : Lane) (release carried : Bool) : Lane :=
  if wantedGateOrder release x.mode x.leaf = x.gateOrder then x else x.renewed release carried

theorem Lane.takesFrames_iff (x : Lane) : x.takesFrames = true ↔ x.status = .online ∧ x.mode ≠ .absent := by
  rw [Lane.takesFrames, Bool.and_eq_true, beq_iff_eq, bne_iff_ne]

theorem Lane.askingShow_of_online {x : Lane} (online : x.status = .online) (present : x.mode ≠ .absent)
    (code : DisplayCode) : x.askingShow code = x.showing code :=
  if_pos (x.takesFrames_iff.mpr ⟨online, present⟩)

theorem Lane.askingGate_of_online {x : Lane} (online : x.status = .online) (present : x.mode ≠ .absent)
    (carried : Bool) : x.askingGate carried = { x with link := x.link.placeGate carried } :=
  if_pos (x.takesFrames_iff.mpr ⟨online, present⟩)

/-- Outside a turn that carries its command slot, a lane's gate is renewed as the statements say. -/
theorem Lane.renewed_of_free (x : Lane) (release : Bool) : x.renewed release false = x.gated release := by
  unfold Lane.renewed Lane.askingGate Lane.gated
  exact if_congr (Lane.takesFrames_iff _) rfl rfl

theorem Lane.freed_eq (x : Lane) (release : Bool) :
    x.freed release = if release && x.mode.releasable then x.askingShow .freeExit else x := by
  unfold Lane.freed Lane.askingShow
  by_cases opens : release = true ∧ x.mode.releasable = true
  · have present : x.mode ≠ .absent := fun absent => by simp [absent, Mode.releasable] at opens
    simp [opens, Lane.takesFrames, present]
  · rw [if_neg (fun h => opens ⟨h.1, h.2.1⟩), if_neg (by simpa using opens)]

namespace State

variable (s : State) (l : LaneId)

theorem askGate_eq : s.askGate l = s.onLane l (·.askingGate (s.carriedBy l)) := by
  unfold askGate
  split_ifs with takes
  · exact onLane_congr (if_pos takes).symm
  · exact (onLane_of_eq (if_neg takes)).symm

theorem askShow_eq (code : DisplayCode) : s.askShow l code = s.onLane l (·.askingShow code) := by
  unfold askShow
  split_ifs with takes
  · exact onLane_congr (if_pos takes).symm
  · exact (onLane_of_eq (if_neg takes)).symm

theorem setOrder_eq : s.setOrder l = s.onLane l (·.ordered s.releaseActive) := rfl

theorem renewGate_eq : s.renewGate l = s.onLane l (·.renewed s.releaseActive (s.carriedBy l)) := by
  rw [renewGate, askGate_eq, setOrder_eq, onLane_onLane]
  rfl

theorem reworkGate_eq : s.reworkGate l = s.onLane l (·.reworked s.releaseActive (s.carriedBy l)) := by
  unfold reworkGate
  split_ifs with same
  · exact (onLane_of_eq (f := (·.reworked s.releaseActive (s.carriedBy l))) (if_pos same)).symm
  · rw [← renewGate, renewGate_eq]
    exact onLane_congr (if_neg same).symm

theorem showFreeExit_eq : s.showFreeExit l = s.onLane l (·.freed s.releaseActive) := by
  unfold showFreeExit
  rw [askShow_eq, ite_onLane]
  exact onLane_congr (Lane.freed_eq _ _).symm

/-! ### Berths, records and flags leave the lanes -/

theorem atBerth_eq (b : BerthId) (f : Berth → Berth) : s.atBerth b f = { s with
    berths := s.berths.set b (f (s.berth b)).follow
    flags := s.flags ||| flagsIf ((f (s.berth b)).state == .boarding && (f (s.berth b)).follow.state == .full) 0x10#16 } := by
  rw [atBerth, raiseIf_eq]
  rfl

/-- An event at a berth that leaves it short of BERTH FULL. -/
theorem atBerth_of_quiet {s : State} {b : BerthId} {f : Berth → Berth}
    (quiet : (f (s.berth b)).state = .boarding → 0 < (f (s.berth b)).room) :
    s.atBerth b f = s.withBerth b (f (s.berth b)).follow := by
  rw [atBerth_eq]
  have none_raised : ((f (s.berth b)).state == .boarding && (f (s.berth b)).follow.state == .full) = false := by
    by_cases boarding : (f (s.berth b)).state = .boarding
    · have room := quiet boarding
      simp [Berth.follow, boarding, BerthState.takesPassengers, Int.not_le.mpr room]
    · simp [boarding]
  simp [none_raised, flagsIf, withBerth]

theorem record_onLane (f : Lane → Lane) (reserved : Bool) (d : Draft) :
    (s.onLane l f).record reserved d = (s.record reserved d).onLane l f := by
  rw [record_eq, record_eq]
  rfl

theorem raise_onLane (f : Lane → Lane) (x : NoticeFlag) : (s.onLane l f).raise x = (s.raise x).onLane l f := rfl

theorem withBerth_onLane (f : Lane → Lane) (b : BerthId) (x : Berth) :
    (s.onLane l f).withBerth b x = (s.withBerth b x).onLane l f := rfl

/-! ### What a request leaves -/

theorem goodFrame_eq : s.goodFrame = s.withDepot s.goodFrame := rfl

/-- A request is answered after the NOTICE of what its owner leaves (R166, R167, R168). -/
theorem answer_eq_replied {s u : State} {kind : RequestKind} {tag : Byte} {owner : State → State × ReplyBody}
    {body : ReplyBody} (free : s.request = none) (still : u.request = none)
    (taken : owner (s.withDepot s.goodFrame) = (u.withDepot s.goodFrame, body)) :
    s.answer kind tag owner = s.replied u kind tag body := by
  rw [answer_of_free kind tag owner free, goodFrame_eq, taken, replied, answered, ← List.append_assoc]
  have heard : u.withDepot s.goodFrame = { u with
      depotLost := false, silenceTimer := s.silenceLoaded, depotOut := s.depotOut } := by
    rw [withDepot, show s.goodFrame.request = u.request from free.trans still.symm]
    rfl
  rw [heard]
  rfl

/-- A request whose owner raises no flag is answered without a NOTICE. -/
theorem replied_of_quiet {s u : State} {kind : RequestKind} {tag : Byte} {body : ReplyBody}
    (quiet : u.flags &&& ~~~s.flags = 0) : s.replied u kind tag body = s.answered u [.reply kind tag body] := by
  rw [replied, noticeFor_of_no_new_flag quiet, List.nil_append]

end State
end Sys2Proof.Machine
end

section
/-! Poll turns (spec/01, R1 to R3). -/

namespace Sys2Proof.Machine

/-- The next lane of the poll list begins a turn (R1, R2). -/
theorem exec_pollTurn_of_turnsTo {s : State} {l : LaneId} (turns : s.turnsTo l) :
    exec .pollTurn s = .next (s.beginTurn l) := by
  obtain ⟨idle, present, first⟩ := turns
  have next : s.nextPolled = some l :=
    find?_rotation (by simpa [State.polled] using present) fun m sooner => by simp [State.polled, first m sooner]
  show Host.Outcome.next _ = _
  rw [idle, next]

/-- While a turn is in progress, and while no lane is in the poll list, no turn begins (R1). -/
theorem exec_pollTurn_of_none {s : State} (none_due : s.turn ≠ none ∨ ∀ l : LaneId, (s.lane l).mode = .absent) :
    exec .pollTurn s = .next s := by
  show Host.Outcome.next _ = _
  rcases none_due with busy | absent
  · obtain ⟨t, turning⟩ := Option.ne_none_iff_exists'.mp busy
    rw [turning]
  · have next : s.nextPolled = none :=
      find?_rotation_eq_none s.lastPolled fun m => by simp [State.polled, absent m]
    cases turning : s.turn <;> rw [next]

/-- A turn begins: the slot it takes its frame from, and the frame. -/
theorem State.beginTurn_eq {s : State} {l : LaneId} {k : Link} {c : Carried} {frame : DownFrame}
    (slot : (s.lane l).link.choose = c) (marked : (s.lane l).link.markSent c = k)
    (carries : downFrame l (s.lane l) = frame) :
    s.beginTurn l = { s.withLane l { s.lane l with link := k } with
      lastPolled := l, turn := some ⟨l, c, frame, false, false⟩ } := by
  subst slot marked carries
  rfl

end Sys2Proof.Machine
open Sys2Proof Sys2Proof.Machine

/-- Settles O16: the frame and the slot it is taken from are read off the two slots. -/
theorem aPollTurnCarriesTheNextLanesFrame : Obligations.APollTurnCarriesTheNextLanesFrame := by
  refine ⟨⟨fun s l turns c holds => ?_, fun s l turns empty d shows => ?_, fun s l turns empty blank => ?_,
    fun s => exec_pollTurn_of_none⟩, ?_, ?_, ?_⟩
  · rw [exec_pollTurn_of_turnsTo turns]
    refine congrArg _ (State.beginTurn_eq ?_ ?_ ?_)
    · simp [Link.choose, holds]
    · simp [Link.markSent, holds]
    · obtain ⟨frame, sent, stale⟩ := c
      cases frame <;> simp [downFrame, holds, Lane.frameDown]
  · rw [exec_pollTurn_of_turnsTo turns]
    refine congrArg _ (State.beginTurn_eq ?_ ?_ ?_)
    · simp [Link.choose, empty, shows]
    · simp [Link.markSent, shows]
    · simp [downFrame, empty, shows, Lane.frameDown]
  · rw [exec_pollTurn_of_turnsTo turns]
    refine congrArg _ ((State.beginTurn_eq (k := (s.lane l).link) ?_ ?_ ?_).trans (by rw [State.withLane_self]))
    · simp [Link.choose, empty, blank]
    · rfl
    · simp [downFrame, empty, blank, Lane.frameDown]
  · intro s t turning
    show Host.Outcome.next _ = _
    rw [turning]
  · intro s t turning begun
    show Host.Outcome.next _ = _
    rw [turning]
    simp [begun]
  · intro s idle
    refine ⟨?_, ?_, fun bytes => ?_⟩
    all_goals
      show Host.Outcome.next _ = _
      rw [idle]
end

section
/-! The clock, and the activation it carries out (spec/04, spec/07). -/

namespace Sys2Proof.Machine

/-- The clock hands its time over: a pending activation that is due is carried out (R67). -/
theorem State.handTime_of_due {s : State} {i : Instant} (pending : s.pendingActivation = some i)
    (due : i.dueAt s.clock.day s.clock.secs) : s.handTime = s.swapped := by
  rw [State.handTime, pending]
  simp only [(Instant.reachedAt_iff _ _ _).mpr due, if_true, State.swap_eq_swapped]

theorem State.handTime_of_not_due {s : State}
    (early : ∀ i, s.pendingActivation = some i → ¬ i.dueAt s.clock.day s.clock.secs) : s.handTime = s := by
  unfold State.handTime
  split
  · next i pending => rw [if_neg fun reached => early i pending ((Instant.reachedAt_iff _ _ _).mp reached)]
  · rfl

theorem State.withDepot_swapped (s t : State) : (s.withDepot t).swapped = s.swapped.withDepot t := by
  rw [← State.swap_eq_swapped, ← State.swap_eq_swapped, State.withDepot_swap]

theorem exec_clockAdvance_of_running {s : State} (running : s.clock.running = true) :
    exec .clockAdvance s = .next (State.noticed s.flags s.advanceClock.handTime) := by
  show Host.Outcome.next (if _ then _ else _) = _
  rw [if_pos running, State.notify_eq_noticed]

theorem State.advanceClock_of_below {s : State} (below : s.clock.secs < 86399) :
    s.advanceClock = { s with clock := { s.clock with secs := s.clock.secs + 1 } } :=
  if_pos (show s.clock.secs + 1 < 86400 by omega)

theorem State.advanceClock_of_last {s : State} (last : s.clock.secs = 86399) : s.advanceClock = { s with
    clock := { s.clock with day := (s.clock.day + 1) % 65536, secs := 0 }, flags := s.flags ||| 0x4000#16 } :=
  if_neg (show ¬ s.clock.secs + 1 < 86400 by omega)

/-- CLOCK SET is answered with the applied time after the NOTICE of the swap it may carry out (R65, R67). -/
theorem exec_clockSet {s u : State} (free : s.request = none) (tag : Byte) (day : Half) (secs : Quad)
    (still : u.request = none)
    (handed : ∀ t : State, ((s.withDepot t).setClock day.toNat (min secs.toNat 86399)).handTime = u.withDepot t) :
    exec (.clockSet tag day secs) s = .next (s.replied u .clockSet tag
      (.clockApplied day.toNat (min secs.toNat 86399))) :=
  congrArg Host.Outcome.next (State.answer_eq_replied free still (Prod.ext (handed _) rfl))

end Sys2Proof.Machine
open Sys2Proof Sys2Proof.Machine

/-- Settles O31: the time the clock takes, and then the swap where the pending instant is reached. -/
theorem theClockAdvancesAndCarriesOutActivations : Obligations.TheClockAdvancesAndCarriesOutActivations := by
  refine ⟨⟨fun s running below early => ?_, fun s running last early => ?_, fun s stopped => ?_,
    fun s sound works => ?_, fun s free tag day secs early => ?_⟩, fun s running below i pending due => ?_,
    fun s running last i pending due => ?_, fun s free i pending tag day secs due => ?_⟩
  · rw [exec_clockAdvance_of_running running, State.advanceClock_of_below below,
      State.handTime_of_not_due (by exact early)]
    exact congrArg Host.Outcome.next (State.noticed_of_flags rfl)
  · rw [exec_clockAdvance_of_running running, State.advanceClock_of_last last,
      State.handTime_of_not_due (by exact early)]
  · show Host.Outcome.next (if _ then _ else _) = _
    rw [if_neg (by simp [stopped])]
  · obtain ⟨-, -, -, -, -, -, unlocked⟩ := sound
    obtain ⟨none_pending, -⟩ := unlocked works
    refine ⟨none_pending, fun t stepped => ?_⟩
    obtain ⟨rfl⟩ := stepped
    have kept : s.advanceClock.pendingActivation = none ∧ s.advanceClock.active = s.active := by
      unfold State.advanceClock
      split_ifs <;> exact ⟨none_pending, rfl⟩
    split_ifs with running
    · rw [State.handTime_of_not_due (by simp [kept.1]), State.notify_eq_noticed]
      exact kept.2
    · rfl
  · rw [exec_clockSet free tag day secs (u := { s with clock := ⟨true, day.toNat, min secs.toNat 86399, true⟩ })
      free fun t => State.handTime_of_not_due (by exact early)]
    exact congrArg Host.Outcome.next (State.replied_of_quiet (BitVec.and_not_self s.flags))
  · rw [exec_clockAdvance_of_running running, State.advanceClock_of_below below,
      State.handTime_of_due (by exact pending) (by exact due)]
  · rw [exec_clockAdvance_of_running running, State.advanceClock_of_last last,
      State.handTime_of_due (by exact pending) (by exact due)]
  · refine exec_clockSet free tag day secs (by simp [State.swapped, free]) fun t => ?_
    exact (State.handTime_of_due (s := (s.withDepot t).setClock _ _) pending due).trans
      (State.withDepot_swapped { s with clock := ⟨true, day.toNat, min secs.toNat 86399, true⟩ } t)
end

section
/-! Stages 1, 3, 4 and 7 (spec/03, R46, R48, R49, R52). -/

namespace Sys2Proof.Machine

variable {s : State} {v : Validation}

theorem exec_stageService (he : s.engine = some v) (hs : v.stage = .service) : exec .stageService s = .next (
    if v.bank = none ∨ v.clockSet = false ∨ s.settings.pierNumber = 0 then s.refusedBy v .outOfService
    else if v.image.card.toNat = 0 ∨ v.image.card.toNat = 281474976710655 then s.refusedBy v .cardFormat
    else s.passedTo { v with stage := .recoveryMatch }) := by
  have run : exec .stageService s = .next ((s.runService v).endEvent s.flags) :=
    congrArg Host.Outcome.next (State.atStage_of_next State.runService he hs)
  have format : (!cardInRange v.image.card) = true ↔
      (v.image.card.toNat = 0 ∨ v.image.card.toNat = 281474976710655) := by
    have zero : v.image.card = 0 ↔ v.image.card.toNat = 0 := by rw [← BitVec.toNat_inj]; rfl
    simp only [cardInRange_eq, Bool.not_eq_true', Bool.and_eq_false_iff, bne_eq_false_iff_eq, zero]
  simp only [run, State.runService, format, apply_ite (State.endEvent · s.flags), State.endEvent_refuse_none,
    State.endEvent_goOn]

/-- A card stands in a strictly ascending list once. -/
theorem findCard_of_mem {cards : List CardEntry} (ascends : cards.Pairwise fun x y => x.card < y.card)
    {e : CardEntry} (listed : e ∈ cards) : findCard cards e.card = some e := by
  induction cards with
  | nil => nomatch listed
  | cons x xs ih =>
    rw [List.pairwise_cons] at ascends
    rcases List.mem_cons.mp listed with rfl | later
    · simp [findCard]
    · have above : (x.card == e.card) = false := beq_eq_false_iff_ne.mpr fun same =>
        BitVec.lt_irrefl e.card (same ▸ ascends.1 e later)
      rw [findCard, List.find?_cons, above]
      exact ih ascends.2 later

theorem exec_stageCardStatus (he : s.engine = some v) (hs : v.stage = .cardStatus) {i : BankId}
    (hb : v.bank = some i) : exec .stageCardStatus s = .next (match findCard (s.bank i).cards v.image.card with
      | some ⟨_, .block⟩ => s.refusedBy { v with cls := some v.image.cls } .blocked
      | some ⟨_, .cls c⟩ => s.passedTo { v with stage := .product, cls := some c }
      | some ⟨_, .watch⟩ => s.passedTo { v with stage := .product, cls := some v.image.cls, watch := true }
      | none => s.passedTo { v with stage := .product, cls := some v.image.cls }) := by
  have run : exec .stageCardStatus s = .next ((s.runCardStatus v).endEvent s.flags) :=
    congrArg Host.Outcome.next (State.atStage_of_next State.runCardStatus he hs)
  rw [run, State.runCardStatus, State.bankOf, hb, Option.map_some]
  dsimp only
  generalize findCard (s.bank i).cards v.image.card = found
  rcases found with _ | ⟨_, _ | _ | _⟩ <;>
    simp only [State.endEvent_refuse_none, State.endEvent_goOn]

theorem exec_stageProduct (he : s.engine = some v) (hs : v.stage = .product) {i : BankId}
    (hb : v.bank = some i) : exec .stageProduct s = .next (
      let p := (s.bank i).products[v.image.product]
      let found := { v with product := some p, band := (s.berth v.berth).vessel.map (·.band) }
      if p.valid = false then s.refusedBy v .unknownProduct
      else if (s.berth v.berth).vessel.any (fun x => !p.mask.getLsbD x.band.val) then s.refusedBy found .routeNotCovered
      else if p.kind = .pass ∧ v.image.passExpiry < v.day then s.refusedBy found .passExpired
      else if p.kind = .bundle ∧ v.image.trips < p.riders then s.refusedBy found .lowValue
      else s.passedTo { found with stage := .passback }) := by
  have run : exec .stageProduct s = .next ((s.runProduct v).endEvent s.flags) :=
    congrArg Host.Outcome.next (State.atStage_of_next State.runProduct he hs)
  have uncovered (p : Product) (vessel : Option Vessel) :
      (((vessel.map (·.band)).map p.covers).getD true = false) =
        (vessel.any (fun x => !p.mask.getLsbD x.band.val) = true) := by
    cases vessel <;> simp [Product.covers]
  rw [run, State.runProduct, State.bankOf, hb, Option.map_some]
  simp only [Product.refusal, uncovered, Bool.not_eq_true']
  split_ifs <;> simp only [State.endEvent_refuse_none, State.endEvent_goOn]

/-- Stage 7: the computation with the inputs it reads, and a free value counted where one was read (R52). -/
theorem exec_stageFare (he : s.engine = some v) (hs : v.stage = .fare) {i : BankId} (hb : v.bank = some i)
    {p : Product} (hp : v.product = some p) : exec .stageFare s = .next (
      let u := s.countFree (p.kind == .storedValue && (v.band.isNone || (s.bank i).bands.isEmpty))
      match computeFare (s.fareInput v (s.bank i) p) v.image with
      | none => u.refusedBy v .lowValue
      | some (charge, image) => u.passedTo { v with stage := .laneRoom, fare := some (charge, image) }) := by
  have run : exec .stageFare s = .next ((s.runFare v).endEvent s.flags) :=
    congrArg Host.Outcome.next (State.atStage_of_next State.runFare he hs)
  rw [run, State.runFare, State.bankOf, hb, hp, Option.map_some]
  have flags : (s.countFree (p.kind == .storedValue && (v.band.isNone || (s.bank i).bands.isEmpty))).flags = s.flags := by
    unfold State.countFree
    split_ifs <;> rfl
  dsimp only
  rw [← flags]
  cases computeFare (s.fareInput v (s.bank i) p) v.image with
  | none => simp only [State.endEvent_refuse_none]
  | some f => simp only [State.endEvent_goOn]

/-- The time band of a minute is one of a list that has a boundary. -/
theorem timeBandAt_eq_some {bands : List Boundary} {minute : Nat} {time : TimeBand}
    (found : timeBandAt bands minute = some time) : bands.isEmpty = false := by
  cases bands with
  | nil => simp [timeBandAt] at found
  | cons => rfl

end Sys2Proof.Machine
open Sys2Proof Sys2Proof.Machine

/-- Settles O32: a strictly ascending list has one entry for a card, so the search finds it. -/
theorem stagesOneThreeAndFourCheckInOrder : Obligations.StagesOneThreeAndFourCheckInOrder := by
  refine ⟨fun s v he hs => exec_stageService he hs, fun s v he hs i hb ascends => ⟨fun unlisted => ?_, fun e listed same => ?_⟩,
    fun s v he hs i hb => exec_stageProduct he hs hb, fun c => by cases c <;> rfl⟩
  · have absent : findCard (s.bank i).cards v.image.card = none := by
      rw [findCard, List.find?_eq_none]
      exact fun e listed => by simpa using unlisted e listed
    rw [exec_stageCardStatus he hs hb, absent]
  · rw [exec_stageCardStatus he hs hb, ← same, findCard_of_mem ascends.1 listed]
    obtain ⟨_, _ | _ | _⟩ := e <;> rfl

/-- Settles O34: with a boundary in the list, a free value is read for the band alone. -/
theorem stageFareComputesTheCharge : Obligations.StageFareComputesTheCharge := by
  refine ⟨fun s v he hs i hb p hp band hband time htime cls hcls => ?_,
    fun s v he hs i hb p hp hband time htime cls hcls => ⟨Config.unreadRouteBand s.freeCount, ?_⟩⟩
  · subst hcls
    rw [exec_stageFare he hs hb hp]
    simp only [hband, Option.isNone_some, timeBandAt_eq_some htime, Bool.or_self, Bool.and_false, State.countFree,
      State.fareInput, State.fareBand, State.fareTime, Validation.now, minuteOf, htime, Option.getD_some]
    rfl
  · subst hcls
    rw [exec_stageFare he hs hb hp]
    simp only [hband, Option.isNone_none, Bool.true_or, Bool.and_true, State.countFree, State.fareInput,
      State.fareBand, State.fareTime, Validation.now, minuteOf, htime, Option.getD_some, Option.getD_none, beq_iff_eq]
    rfl
end

section
/-! The berth requests (spec/06, R105 to R109, R118, R119). -/

namespace Sys2Proof.Machine

/-! ### Requests that leave the device as it is, or raise no flag -/

namespace State

variable {s : State} {kind : RequestKind} {tag : Byte} {owner : State → State × ReplyBody} {body : ReplyBody}

/-- A request whose owner leaves the device as it is changes nothing else. -/
theorem answer_of_unchanged (free : s.request = none) (taken : owner s.goodFrame = (s.goodFrame, body)) :
    s.answer kind tag owner = s.answered s [.reply kind tag body] :=
  (answer_eq_replied free free taken).trans (replied_of_quiet (BitVec.and_not_self s.flags))

/-- A unit number out of range is answered RANGE (R167). -/
theorem answer_out_of_range {α : Type} (free : s.request = none) (owner : α → State → State × ReplyBody) :
    s.answer kind tag (inRange none owner) = s.answered s [.reply kind tag (.plain .range)] :=
  answer_of_unchanged free rfl

/-- A request whose owner leaves the flags as they are sends no NOTICE. -/
theorem answer_eq_answered {u : State} (free : s.request = none) (still : u.request = none) (flags : u.flags = s.flags)
    (taken : owner (s.withDepot s.goodFrame) = (u.withDepot s.goodFrame, body)) :
    s.answer kind tag owner = s.answered u [.reply kind tag body] :=
  (answer_eq_replied free still taken).trans (replied_of_quiet (by rw [flags]; exact BitVec.and_not_self s.flags))

end State

theorem BerthState.takesPassengers_iff (x : BerthState) : x.takesPassengers = true ↔ x = .boarding ∨ x = .full := by
  cases x <;> simp [BerthState.takesPassengers]

theorem clamp_zero (top n : Nat) : clamp 0 top n = min top n :=
  Nat.zero_max (min top n)

/-! ### BERTH ARRIVE (R107) -/

variable {s : State}

theorem exec_berthArrive (free : s.request = none) (b : BerthId) (tag reserve band : Byte)
    (vessel capacity aboard : Half) :
    exec (.berthArrive tag (number b) vessel capacity aboard reserve band) s = .next (
      let c := min 1200 capacity.toNat
      let a := min 1200 aboard.toNat
      let e := min c s.settings.gangway[b] - a
      if h : band.toNat < 8 then
        if (s.berth b).state = .idle then s.answered (s.withBerth b { s.berth b with
            state := .alongside, effective := e, reserve := min (min 50 reserve.toNat) e, source := .gates
            vessel := some ⟨vessel.toNat, c, a, min 50 reserve.toNat, ⟨band.toNat, h⟩⟩ })
          [.reply .berthArrive tag (.arrived c a (min 50 reserve.toNat) e)]
        else s.answered s [.reply .berthArrive tag (.plain .state)]
      else s.answered s [.reply .berthArrive tag (.plain .range)]) := by
  rw [exec, execBerthArrive, berthOf_number, inRange_some]
  congr 1
  dsimp only
  split_ifs with route idle
  · refine State.answer_eq_answered free free rfl ?_
    simp only [takeArrive, below_of_lt route, if_pos (show ((s.withDepot s.goodFrame).berth b).state = .idle from idle),
      Berth.arrive, clamp_zero]
    rfl
  · refine State.answer_of_unchanged free ?_
    simp only [takeArrive, below_of_lt route, if_neg (show ¬ (s.goodFrame.berth b).state = .idle from idle)]
  · refine State.answer_of_unchanged free ?_
    simp only [takeArrive, below_of_le (Nat.not_lt.mp route)]

/-! ### BERTH OPEN and BERTH CLOSE (R108, R109) -/

/-- A berth that opens is BOARDING or FULL as its room says (R106, R108). -/
theorem Berth.follow_of_opened (x : Berth) (unit : Nat) :
    (Berth.loadQuiet unit { x with state := .boarding }).follow = { x with
      state := if x.room ≤ 0 then .full else .boarding, lastCall := false
      quietTimer := if unit = 0 then none else some (unit * 5) } := by
  rw [Nat.mul_comm]
  rfl

theorem takeOpen_of_alongside {b : BerthId} (alongside : (s.berth b).state = .alongside) : takeOpen b s =
    ({ s.withBerth b { s.berth b with
        state := if (s.berth b).room ≤ 0 then .full else .boarding, lastCall := false
        quietTimer := if s.settings.quietUnit = 0 then none else some (s.settings.quietUnit * 5) } with
      flags := if (s.berth b).room ≤ 0 then s.flags ||| 0x10#16 else s.flags }, .plain .done) := by
  rw [takeOpen, if_pos alongside, State.atBerth_eq]
  simp only [Berth.follow_of_opened]
  by_cases full : (s.berth b).room ≤ 0 <;> simp [full, State.withBerth, flagsIf, Berth.loadQuiet]

theorem exec_berthOpen (free : s.request = none) (b : BerthId) (tag : Byte) :
    exec (.berthOpen tag (number b)) s = .next (
      let opened := { s.berth b with
        state := if (s.berth b).room ≤ 0 then .full else .boarding, lastCall := false
        quietTimer := if s.settings.quietUnit = 0 then none else some (s.settings.quietUnit * 5) }
      if (s.berth b).state = .alongside then s.replied { s.withBerth b opened with
          flags := if (s.berth b).room ≤ 0 then s.flags ||| 0x10#16 else s.flags } .berthOpen tag (.plain .done)
      else s.answered s [.reply .berthOpen tag (.plain .state)]) := by
  rw [exec, execBerthOpen, berthOf_number, inRange_some]
  congr 1
  dsimp only
  by_cases alongside : (s.berth b).state = .alongside
  · rw [if_pos alongside]
    exact State.answer_eq_replied free free (takeOpen_of_alongside alongside)
  · rw [if_neg alongside]
    exact State.answer_of_unchanged free (if_neg alongside)

theorem exec_berthClose (free : s.request = none) (b : BerthId) (tag : Byte) :
    exec (.berthClose tag (number b)) s = .next (
      if (s.berth b).state = .boarding ∨ (s.berth b).state = .full then s.answered
        (s.withBerth b { s.berth b with state := .closed, quietTimer := none, lastCall := false })
        [.reply .berthClose tag (.plain .done)]
      else s.answered s [.reply .berthClose tag (.plain .state)]) := by
  rw [exec, execBerthClose, berthOf_number, inRange_some]
  congr 1
  simp only [← BerthState.takesPassengers_iff]
  split_ifs with boards
  · refine State.answer_eq_answered free free rfl ?_
    rw [takeClose, if_pos (by exact boards)]
    rfl
  · refine State.answer_of_unchanged free ?_
    rw [takeClose, if_neg (by exact boards)]

/-! ### BERTH SOURCE (R119) -/

theorem sourceOf_eq (n : Byte) :
    sourceOf n = if 1 < n.toNat then none else some (if n = 0 then .gates else .tally) := by
  have zero : n = 0 ↔ n.toNat = 0 := by rw [← BitVec.toNat_inj]; rfl
  unfold sourceOf
  simp only [zero]
  split <;> simp_all
  omega

theorem exec_berthSource (free : s.request = none) (b : BerthId) (tag source : Byte) :
    exec (.berthSource tag (number b) source) s = .next (
      if 1 < source.toNat then s.answered s [.reply .berthSource tag (.plain .range)]
      else if (s.berth b).state = .idle ∨ (s.berth b).state = .closed then
        s.answered s [.reply .berthSource tag (.plain .state)]
      else s.answered (s.withBerth b { s.berth b with source := if source = 0 then .gates else .tally })
        [.reply .berthSource tag (.plain .done)]) := by
  rw [exec, execBerthSource, berthOf_number, inRange_some]
  congr 1
  by_cases outside : 1 < source.toNat
  · rw [if_pos outside]
    refine State.answer_of_unchanged free ?_
    rw [takeSource, sourceOf_eq, if_pos outside]
  rw [if_neg outside]
  split_ifs with closed
  · refine State.answer_of_unchanged free ?_
    rw [takeSource, sourceOf_eq, if_neg outside]
    exact if_pos closed
  all_goals
    refine State.answer_eq_answered free free rfl ?_
    rw [takeSource, sourceOf_eq, if_neg outside]
    exact (if_neg closed).trans (by simp_all; rfl)

/-! ### BERTH CAPACITY (R118) -/

theorem takeCapacity_of_alongside {b : BerthId} {vessel : Vessel} (present : (s.berth b).state ≠ .idle)
    (moored : (s.berth b).vessel = some vessel) (capacity aboard : Half) : takeCapacity capacity aboard b s =
      let c := min 1200 capacity.toNat
      let a := min 1200 aboard.toNat
      let formula := min c s.settings.gangway[b] - a
      let committed := (s.berth b).counts.held + (s.berth b).counts.granted + (s.berth b).counts.passed
      let e := max formula committed
      let after := { s.berth b with
        vessel := some { vessel with capacity := c, aboard := a }
        effective := e, reserve := min vessel.reserveAsked e }.follow
      ({ s.withBerth b after with
          flags := s.flags ||| (if formula < committed then 0x8000#16 else 0) |||
            (if (s.berth b).state = .boarding ∧ after.state = .full then 0x10#16 else 0) },
        .recapacitated c a e) := by
  have restated (c a : Nat) : (s.berth b).restate (s.gangway b) c a = { s.berth b with
      vessel := some { vessel with capacity := c, aboard := a }
      effective := (s.berth b).restatedCapacity (s.gangway b) c a
      reserve := min vessel.reserveAsked ((s.berth b).restatedCapacity (s.gangway b) c a) } := by
    simp [Berth.restate, moored]
  unfold takeCapacity
  rw [if_neg present]
  dsimp only
  rw [State.raiseIf_eq, State.atBerth_eq, clamp_zero, clamp_zero]
  have same (u : State) (kept : u.berths = s.berths) : u.berth b = s.berth b := by rw [State.berth, kept, State.berth]
  simp only [same, restated, flagsIf, decide_eq_true_eq, Bool.and_eq_true, beq_iff_eq]
  rfl

theorem exec_berthCapacity {vessel : Vessel} (free : s.request = none) (b : BerthId) (tag : Byte)
    (capacity aboard : Half) (moored : (s.berth b).vessel = some vessel) (present : (s.berth b).state ≠ .idle) :
    exec (.berthCapacity tag (number b) capacity aboard) s = .next (
      let c := min 1200 capacity.toNat
      let a := min 1200 aboard.toNat
      let formula := min c s.settings.gangway[b] - a
      let committed := (s.berth b).counts.held + (s.berth b).counts.granted + (s.berth b).counts.passed
      let e := max formula committed
      let after := { s.berth b with
        vessel := some { vessel with capacity := c, aboard := a }
        effective := e, reserve := min vessel.reserveAsked e }.follow
      s.replied { s.withBerth b after with
          flags := s.flags ||| (if formula < committed then 0x8000#16 else 0) |||
            (if (s.berth b).state = .boarding ∧ after.state = .full then 0x10#16 else 0) }
        .berthCapacity tag (.recapacitated c a e)) := by
  rw [exec, execBerthCapacity, berthOf_number, inRange_some]
  exact congrArg _ (State.answer_eq_replied free free (takeCapacity_of_alongside (s := s.withDepot s.goodFrame) present moored capacity aboard))

theorem exec_berthCapacity_of_idle (free : s.request = none) (b : BerthId) (tag : Byte) (capacity aboard : Half)
    (idle : (s.berth b).state = .idle) : exec (.berthCapacity tag (number b) capacity aboard) s =
      .next (s.answered s [.reply .berthCapacity tag (.plain .state)]) := by
  rw [exec, execBerthCapacity, berthOf_number, inRange_some]
  exact congrArg _ (State.answer_of_unchanged free (if_pos idle))

end Sys2Proof.Machine
open Sys2Proof Sys2Proof.Machine

/-- Settles O41, one request after another. -/
theorem berthRequestsChangeTheCall : Obligations.BerthRequestsChangeTheCall := by
  refine ⟨⟨fun s free b tag reserve band vessel capacity aboard =>
      exec_berthArrive free b tag reserve band vessel capacity aboard, fun s free b tag capacity aboard =>
      ⟨exec_berthCapacity_of_idle free b tag capacity aboard, fun vessel moored present =>
        exec_berthCapacity free b tag capacity aboard moored present⟩⟩,
    fun s free b tag => ⟨exec_berthOpen free b tag, exec_berthClose free b tag⟩,
    fun s free b tag source => exec_berthSource free b tag source, fun s free tag n source band x y z outside => ?_⟩
  have unknown : berthOf n = none := oneBased_of_outside outside
  refine ⟨?_, ?_, ?_, ?_, ?_, ?_⟩
  all_goals
    refine congrArg Host.Outcome.next ?_
    rw [unknown]
    exact State.answer_out_of_range free _
end

section
/-! An act at every lane as one change of all lanes, and one of the rest of the device. -/

namespace Sys2Proof.Machine
namespace State

/-- All lanes changed at once. -/
def onLanes (s : State) (f : LaneId → Lane → Lane) : State := { s with lanes := .ofFn fun l => f l (s.lane l) }

@[simp] theorem lane_onLanes (s : State) (f : LaneId → Lane → Lane) (l : LaneId) :
    (s.onLanes f).lane l = f l (s.lane l) := by
  simp [onLanes, lane]

theorem lane_ext {s t : State} (lanes : ∀ l, s.lane l = t.lane l) : s.lanes = t.lanes :=
  Vector.ext fun i below => lanes ⟨i, below⟩

/-- A change that leaves every lane as it is leaves the device as it is. -/
theorem onLanes_of_eq {s : State} {f : LaneId → Lane → Lane} (same : ∀ l, f l (s.lane l) = s.lane l) :
    s.onLanes f = s := by
  have kept : (s.onLanes f).lanes = s.lanes := lane_ext fun l => (lane_onLanes s f l).trans (same l)
  calc s.onLanes f
    _ = { s with lanes := (s.onLanes f).lanes } := rfl
    _ = s := by rw [kept]

/-- Changes of different lanes, one after another. -/
theorem lane_foldl_onLane (f : LaneId → Lane → Lane) {ls : List LaneId} (distinct : ls.Nodup) (s : State) (l : LaneId) :
    (ls.foldl (fun t m => t.onLane m (f m)) s).lane l = if l ∈ ls then f l (s.lane l) else s.lane l := by
  induction ls generalizing s with
  | nil => rfl
  | cons m ms ih =>
    obtain ⟨fresh, distinct⟩ := List.nodup_cons.mp distinct
    rw [List.foldl_cons, ih distinct]
    by_cases same : l = m
    · subst same
      simp [fresh]
    · simp [same, s.lane_onLane_of_ne same (f m)]

theorem foldl_onLane (f : LaneId → Lane → Lane) (ls : List LaneId) (s : State) :
    ls.foldl (fun t m => t.onLane m (f m)) s = { s with lanes := (ls.foldl (fun t m => t.onLane m (f m)) s).lanes } := by
  induction ls generalizing s with
  | nil => rfl
  | cons m ms ih => rw [List.foldl_cons, ih]; rfl

theorem eachLane_onLane (f : LaneId → Lane → Lane) (s : State) : s.eachLane (fun t l => t.onLane l (f l)) = s.onLanes f := by
  rw [eachLane, foldl_onLane, onLanes]
  congr 1
  refine lane_ext (t := s.onLanes f) fun l => ?_
  rw [lane_onLanes, lane_foldl_onLane f allLanes_nodup, if_pos (mem_allLanes l)]

/-- An act at every lane that changes its own lane, and the rest of the device by what it finds there: `P` is what the
acts rely on and keep. -/
theorem eachLane_eq {act : State → LaneId → State} {f : LaneId → Lane → Lane} {device : LaneId → Lane → State → State}
    {P : State → Prop} (acts : ∀ t l, P t → act t l = (device l (t.lane l) t).onLane l (f l))
    (keeps : ∀ t l, P t → P (act t l))
    (apart : ∀ l x (t : State) m g, device l x (t.onLane m g) = (device l x t).onLane m g)
    (lanes : ∀ l x (t : State), (device l x t).lanes = t.lanes) {s : State} (start : P s) :
    s.eachLane act = (allLanes.foldl (fun t l => device l (s.lane l) t) s).onLanes f := by
  have apart_all (d : LaneId → Lane) (ms : List LaneId) (t : State) (l : LaneId) (g : Lane → Lane) :
      ms.foldl (fun u m => device m (d m) u) (t.onLane l g) = (ms.foldl (fun u m => device m (d m) u) t).onLane l g := by
    induction ms generalizing t with
    | nil => rfl
    | cons m ms ih => rw [List.foldl_cons, apart, ih, List.foldl_cons]
  have split (ls : List LaneId) (distinct : ls.Nodup) : ls.foldl act s =
      ls.foldl (fun t m => t.onLane m (f m)) (ls.foldl (fun t m => device m (s.lane m) t) s) := by
    induction ls generalizing s with
    | nil => rfl
    | cons l ls ih =>
      obtain ⟨fresh, distinct⟩ := List.nodup_cons.mp distinct
      rw [List.foldl_cons, ih (keeps s l start) distinct, acts s l start, apart_all, List.foldl_cons, List.foldl_cons]
      congr 2
      refine List.foldl_ext _ _ _ fun u m later => ?_
      have other : m ≠ l := fun same => fresh (same ▸ later)
      rw [lane_onLane_of_ne _ other, lane, lanes, lane]
  rw [eachLane, split allLanes allLanes_nodup]
  exact eachLane_onLane f _

/-- An act at every lane that changes its own lane alone. -/
theorem eachLane_eq_onLanes {act : State → LaneId → State} {f : LaneId → Lane → Lane} {P : State → Prop}
    (acts : ∀ t l, P t → act t l = t.onLane l (f l)) (keeps : ∀ t l g, P t → P (t.onLane l g)) {s : State}
    (start : P s) : s.eachLane act = s.onLanes f := by
  refine (eachLane_eq (device := fun _ _ t => t) acts (fun t l holds => ?_) (fun _ _ _ _ _ => rfl) (fun _ _ _ => rfl)
    start).trans ?_
  · rw [acts t l holds]
    exact keeps t l _ holds
  · congr 1

end State
end Sys2Proof.Machine
end

section
/-! Last call (spec/06, R123) and LANE SETUP (spec/02, R39). -/

namespace Sys2Proof.Machine

/-! ### Last call -/

/-- The lane of an ONLINE lane of the berth shows LAST CALL outside release (R123). -/
def Lane.calledLast (release : Bool) (b : BerthId) (x : Lane) : Lane :=
  if x.mode = .entry b ∧ x.status = .online ∧ release = false then x.showing .lastCall else x

theorem State.showLastCall_eq (s : State) (b : BerthId) :
    s.showLastCall b = s.onLanes fun _ => Lane.calledLast s.releaseActive b := by
  unfold State.showLastCall
  by_cases release : s.releaseActive = true
  · rw [if_pos release]
    exact (State.onLanes_of_eq fun l =>
      if_neg fun ⟨_, _, outside⟩ => Bool.noConfusion (release.symm.trans outside)).symm
  · rw [if_neg release]
    have outside : s.releaseActive = false := by simpa using release
    refine State.eachLane_eq_onLanes (P := fun _ => True) (fun t l _ => ?_) (fun _ _ _ => id) trivial
    rw [State.askShow_eq, State.ite_onLane]
    refine State.onLane_congr ?_
    rw [Lane.calledLast, outside]
    by_cases here : (t.lane l).mode = .entry b
    · have takes : ((t.lane l).takesFrames = true) ↔ (t.lane l).status = .online := by
        simp [Lane.takesFrames_iff, here]
      simp only [Lane.askingShow, here, takes, true_and, and_true, if_true]
    · simp only [here, false_and, if_false]

theorem exec_quietTimerExpiry {s : State} {b : BerthId} (loaded : (s.berth b).quietTimer ≠ none)
    (boards : (s.berth b).state = .boarding ∨ (s.berth b).state = .full) :
    exec (.quietTimerExpiry b) s = .next (State.noticed s.flags (State.onLanes { s with
      berths := s.berths.set b { s.berth b with
        lastCall := true, quietTimer := if s.settings.quietUnit = 0 then none else some (s.settings.quietUnit * 5) }
      flags := s.flags ||| 0x20#16 } fun _ => Lane.calledLast s.releaseActive b)) := by
  show Host.Outcome.next (if _ then _ else _) = _
  rw [if_pos ⟨Option.isSome_iff_ne_none.mpr loaded, (BerthState.takesPassengers_iff _).mpr boards⟩,
    State.notify_eq_noticed, State.showLastCall_eq, Nat.mul_comm]
  rfl

/-! ### LANE SETUP -/

variable {s : State}

theorem modeOf_of_outside {mode berth : Byte}
    (outside : 3 < mode.toNat ∨ (mode = 2 ∧ (berth.toNat = 0 ∨ 4 < berth.toNat))) : modeOf mode berth = none := by
  rcases outside with above | ⟨rfl, outside⟩
  · unfold modeOf
    split <;> first | omega | rfl
  · exact congrArg (Option.map Mode.entry) (oneBased_of_outside outside)

/-- LANE SETUP with a mode at an idle lane outside release: the lane as it stands afterwards (R16, R39). -/
def Lane.setUp (m : Mode) (carried : Bool) (x : Lane) : Lane :=
  if m = .absent then { x with
    mode := .absent, status := .offline, gateOrder := .shut
    link := { x.link with command := none, waiting := none, display := none, misses := 0 } }
  else { x with
    mode := m
    gateOrder := if m = .exit then .openFree else .shut
    link := if x.status = .online then x.link.placeGate carried else x.link }

theorem Lane.renewed_takeMode {x : Lane} {m : Mode} (shut : x.leaf = .shut) (carried : Bool) :
    (x.takeMode m).renewed false carried = x.setUp m carried := by
  by_cases absent : m = .absent
  · subst absent
    simp [Lane.takeMode, Lane.setUp, Lane.renewed, Lane.ordered, Lane.askingGate, Lane.takesFrames, Lane.leaveList,
      wantedGateOrder, shut, Link.emptySlots]
  · by_cases online : x.status = .online <;>
      simp [Lane.takeMode, Lane.setUp, absent, Lane.renewed, Lane.ordered, Lane.askingGate, Lane.takesFrames,
        wantedGateOrder, shut, online]

theorem takeLaneSetup_of_idle {l : LaneId} {m : Mode} {lane mode berth : Byte} (known : laneOf lane = some l)
    (spelled : modeOf mode berth = some m) (outside : s.releaseActive = false)
    (idle : (s.lane l).txn = .none ∧ (s.lane l).leaf = .shut) : takeLaneSetup lane mode berth s =
      ({ s.withLane l ((s.lane l).setUp m (s.carriedBy l)) with
        turn := if m = .absent then s.turn.map fun t => if t.lane = l then { t with absented := true } else t
          else s.turn }, .plain .done) := by
  have carried : (s.takeMode l m).carriedBy l = s.carriedBy l := by
    unfold State.takeMode State.carriedBy
    cases s.turn with
    | none => split_ifs <;> rfl
    | some t =>
      have kept : (t.leave l).lane = t.lane ∧ (t.leave l).carried = t.carried := by
        unfold Turn.leave
        split_ifs <;> exact ⟨rfl, rfl⟩
      split_ifs
      · show ((t.leave l).lane == l && (t.leave l).carried == .command) = _
        rw [kept.1, kept.2]
      · rfl
  have release : (s.takeMode l m).releaseActive = false := outside
  have set : (s.onLane l (.takeMode m)).onLane l (·.renewed false (s.carriedBy l)) =
      s.withLane l ((s.lane l).setUp m (s.carriedBy l)) := by
    rw [State.onLane_onLane, State.withLane_eq_onLane]
    exact State.onLane_congr (Lane.renewed_takeMode idle.2 _)
  simp only [takeLaneSetup, known, spelled, outside, if_pos idle, Bool.false_eq_true, if_false,
    State.renewGate_eq, carried, release, ← set]
  rfl

theorem exec_laneSetup (free : s.request = none) (l : LaneId) (m : Mode) {mode berth : Byte} (tag : Byte)
    (spelled : modeOf mode berth = some m) :
    exec (.laneSetup tag (number l) mode berth) s = .next (s.laneSetUp l m tag) := by
  refine congrArg Host.Outcome.next ?_
  unfold State.laneSetUp
  by_cases release : s.releaseActive = true
  · rw [if_pos release]
    refine State.answer_of_unchanged free ?_
    simp only [takeLaneSetup, laneOf_number, spelled]
    exact if_pos release
  rw [if_neg release]
  by_cases idle : (s.lane l).txn = .none ∧ (s.lane l).leaf = .shut
  · dsimp only
    rw [if_pos idle]
    exact State.answer_eq_answered free free rfl
      (takeLaneSetup_of_idle (laneOf_number l) spelled (Bool.eq_false_of_not_eq_true release) idle)
  · dsimp only
    rw [if_neg idle]
    refine State.answer_of_unchanged free ?_
    simp only [takeLaneSetup, laneOf_number, spelled]
    exact (if_neg release).trans (if_neg idle)

theorem exec_laneSetup_of_outside (free : s.request = none) (tag : Byte) {lane mode berth : Byte}
    (outside : lane.toNat = 0 ∨ 16 < lane.toNat ∨ 3 < mode.toNat ∨ (mode = 2 ∧ (berth.toNat = 0 ∨ 4 < berth.toNat))) :
    exec (.laneSetup tag lane mode berth) s = .next (s.answered s [.reply .laneSetup tag (.plain .range)]) := by
  refine congrArg Host.Outcome.next (State.answer_of_unchanged free ?_)
  rw [← or_assoc] at outside
  rcases outside with lane_outside | mode_outside
  · simp only [takeLaneSetup, show laneOf lane = none from oneBased_of_outside lane_outside]
  · cases lane_known : laneOf lane <;> simp only [takeLaneSetup, lane_known, modeOf_of_outside mode_outside]

end Sys2Proof.Machine
open Sys2Proof Sys2Proof.Machine

/-- Settles O28. -/
theorem laneSetupTakesAModeAtAnIdleLane : Obligations.LaneSetupTakesAModeAtAnIdleLane := by
  refine ⟨fun s free tag lane mode berth outside => exec_laneSetup_of_outside free tag outside,
    fun s free l tag berth b => ⟨exec_laneSetup free l .absent tag rfl, exec_laneSetup free l .closed tag rfl,
      exec_laneSetup free l (.entry b) tag ?_, exec_laneSetup free l .exit tag rfl⟩⟩
  exact congrArg (Option.map Mode.entry) (berthOf_number b)

/-- Settles O30: the ONLINE lanes of the berth show LAST CALL, each by itself. -/
theorem aQuietExpiryCallsLast : Obligations.AQuietExpiryCallsLast := by
  refine ⟨fun s b loaded boards => ⟨_, exec_quietTimerExpiry loaded boards, rfl, fun l => ?_⟩, fun s b idle => ?_⟩
  · exact State.lane_onLanes _ _ l
  · show Host.Outcome.next (if _ then _ else _) = _
    rw [if_neg]
    rintro ⟨loaded, boards⟩
    rcases idle with stopped | ⟨open_, full⟩
    · simp [stopped] at loaded
    · exact ((BerthState.takesPassengers_iff _).mp boards).elim open_ full
end

section
/-! Fields, the envelope, and the answers of the lane link (spec/11). -/

namespace Sys2Proof.Machine

/-! ### Fields -/

@[simp] theorem length_bytesBE (n v : Nat) : (bytesBE n v).length = n := by
  induction n with
  | zero => rfl
  | succ n ih => rw [bytesBE, List.length_cons, ih]

theorem foldl_bytesBE (n v a : Nat) :
    (bytesBE n v).foldl (fun a b => a * 256 + b.toNat) a = a * 256 ^ n + v % 256 ^ n := by
  induction n generalizing a with
  | zero => simp [bytesBE, Nat.mod_one]
  | succ n ih =>
    have digits : v % 256 ^ (n + 1) = v / 256 ^ n % 256 * 256 ^ n + v % 256 ^ n := by
      rw [Nat.pow_succ, Nat.mod_mul, Nat.add_comm, Nat.mul_comm]
    rw [bytesBE, List.foldl_cons, ih, BitVec.toNat_ofNat, digits]
    ring

/-- A number is read back from its bytes (spec/11). -/
theorem natBE_bytesBE (n v : Nat) : natBE (bytesBE n v) = v % 256 ^ n := by
  rw [natBE, foldl_bytesBE, Nat.zero_mul, Nat.zero_add]

theorem natBE_singleton (b : Byte) : natBE [b] = b.toNat := by simp [natBE]

@[simp] theorem field_bytesBE_append (n v : Nat) (bs : List Byte) : field (bytesBE n v ++ bs) 0 n = v % 256 ^ n := by
  rw [field, List.drop_zero, List.take_left' (length_bytesBE n v), natBE_bytesBE]

@[simp] theorem field_bytesBE (n v : Nat) : field (bytesBE n v) 0 n = v % 256 ^ n := by
  rw [← List.append_nil (bytesBE n v), field_bytesBE_append]

/-- A field behind the bytes of a number. -/
@[simp] theorem field_append_of_le {n v k m : Nat} (behind : n ≤ k) (bs : List Byte) :
    field (bytesBE n v ++ bs) k m = field bs (k - n) m := by
  rw [field, List.drop_append, List.drop_eq_nil_of_le ((length_bytesBE n v).trans_le behind), length_bytesBE,
    List.nil_append, field]

@[simp] theorem field_cons_zero (b : Byte) (bs : List Byte) : field (b :: bs) 0 1 = b.toNat := natBE_singleton b

/-- A field behind a byte. -/
@[simp] theorem field_cons_of_pos {k m : Nat} (behind : 1 ≤ k) (b : Byte) (bs : List Byte) :
    field (b :: bs) k m = field bs (k - 1) m := by
  obtain ⟨j, rfl⟩ := Nat.exists_eq_add_of_le' behind
  rfl

@[simp] theorem ofNat_toNat_byte (b : Byte) : BitVec.ofNat 8 b.toNat = b := by simp

/-- A word is read back from the bytes of its number. -/
@[simp] theorem ofNat_toNat_mod {w n : Nat} (x : BitVec w) (size : 2 ^ w = 256 ^ n := by norm_num) :
    BitVec.ofNat w (x.toNat % 256 ^ n) = x := by
  rw [← size, Nat.mod_eq_of_lt x.isLt]
  simp

theorem signed16_field {v : Int} (low : -32768 ≤ v) (high : v ≤ 32767) :
    signed16 ((BitVec.ofInt (8 * 2) v).toNat % 256 ^ 2) = v := by
  rw [signed16, show BitVec.ofNat 16 ((BitVec.ofInt (8 * 2) v).toNat % 256 ^ 2) = BitVec.ofInt 16 v from
    ofNat_toNat_mod _, BitVec.toInt_ofInt]
  have size : (((2 ^ 16 : Nat) : Int)) = 65536 := by norm_num
  simp only [Int.bmod, size]
  omega

/-! ### The envelope -/

/-- A frame that is not too long is read as it is written (spec/11). -/
theorem openEnvelope_bytes {e : Envelope} (fits : e.body.length < 65534) : openEnvelope e.bytes = some e := by
  obtain ⟨kind, tag, body⟩ := e
  have length : natBE (bytesBE 2 (body.length + 2)) = body.length + 2 := by
    rw [natBE_bytesBE]
    exact Nat.mod_eq_of_lt (show body.length + 2 < 65536 from Nat.add_lt_add_right fits 2)
  obtain ⟨high, low, spelled⟩ : ∃ high low, bytesBE 2 (body.length + 2) = [high, low] := ⟨_, _, rfl⟩
  set check := (frameCheck (high :: low :: kind :: tag :: body)) with checked
  have bytes : Envelope.bytes ⟨kind, tag, body⟩ = 0xA5#8 :: high :: low :: kind :: tag :: (body ++ bytesBE 2 check.toNat) := by
    simp [Envelope.bytes, Envelope.checked, spelled, checked]
  have number : natBE [high, low] = body.length + 2 := spelled ▸ length
  have sealed : check.toNat = natBE (bytesBE 2 check.toNat) := by
    rw [natBE_bytesBE]
    exact (Nat.mod_eq_of_lt check.isLt).symm
  rw [bytes, openEnvelope]
  simp [number, ← checked, ← sealed]

/-! ### Reports -/

theorem number_inj {l m : LaneId} (same : number l = number m) : l = m := by
  have left : (number l).toNat = l.val + 1 := by
    rw [number, BitVec.toNat_ofNat]
    exact Nat.mod_eq_of_lt (by omega)
  have right : (number m).toNat = m.val + 1 := by
    rw [number, BitVec.toNat_ofNat]
    exact Nat.mod_eq_of_lt (by omega)
  rw [same] at left
  exact Fin.ext (by omega)

theorem flagOf_boolByte (b : Bool) : flagOf (boolByte b) = some b := by cases b <;> rfl

theorem below_val {n : Nat} (i : Fin n) : below n i.val = some i := below_of_lt i.isLt

theorem tapImage_bytes {image : CardImage} (fits : image.inFrame = true) (lane : Byte) :
    tapImage (lane :: image.bytes) = some image := by
  simp only [CardImage.inFrame, Bool.and_eq_true, decide_eq_true_eq, and_assoc] at fits
  obtain ⟨low, high, trips, dayStamp, daySpend, lastMinute, lastPier, passExpiry⟩ := fits
  have product : image.product.val % 256 ^ 1 = image.product.val := Nat.mod_eq_of_lt (by omega)
  have cls : image.cls.val % 256 ^ 1 = image.cls.val := Nat.mod_eq_of_lt (by omega)
  have byte {n : Nat} (h : n ≤ 255) : n % 256 ^ 1 = n := Nat.mod_eq_of_lt (by omega)
  have half {n : Nat} (h : n ≤ 65535) : n % 256 ^ 2 = n := Nat.mod_eq_of_lt (by omega)
  have minute : image.lastMinute % 256 ^ 2 = image.lastMinute := half (by omega)
  simp only [tapImage, CardImage.bytes, bytesSigned, List.append_assoc, List.cons_append, List.nil_append, byteAt,
    field_cons_of_pos, field_append_of_le, field_bytesBE_append, field_bytesBE, field_cons_zero, Nat.reduceLeDiff,
    Nat.reduceSub, le_refl, ofNat_toNat_byte, product, cls, below_val, flagOf_boolByte, minute, lastMinute, if_true,
    byte trips, half dayStamp, half daySpend, byte lastPier, half passExpiry, signed16_field low high, ofNat_toNat_mod (w := 48) (n := 6),
    ofNat_toNat_mod (w := 16) (n := 2)]

theorem reportOf_bytes {r : Report} (fits : r.inFrame = true) (lane : Byte) :
    reportOf r.code (lane :: r.bytes) = some r := by
  cases r with
  | nothing => rfl
  | tap image =>
    have length : (lane :: image.bytes).length = 24 := by simp [CardImage.bytes, bytesSigned]
    show (if (lane :: image.bytes).length = 24 then (tapImage (lane :: image.bytes)).map Report.tap else none) = _
    rw [if_pos length, tapImage_bytes fits]
    rfl
  | writeResult tag card outcome =>
    have read : outcomeOf outcome.code = some outcome := by cases outcome <;> rfl
    have length : (lane :: tag :: (bytesBE 6 card.toNat ++ [outcome.code])).length = 9 := by simp
    show (if (lane :: tag :: (bytesBE 6 card.toNat ++ [outcome.code])).length = 9 then
      (outcomeOf (byteAt (lane :: tag :: (bytesBE 6 card.toNat ++ [outcome.code])) 8)).map (Report.writeResult
        (byteAt (lane :: tag :: (bytesBE 6 card.toNat ++ [outcome.code])) 1)
        (BitVec.ofNat 48 (field (lane :: tag :: (bytesBE 6 card.toNat ++ [outcome.code])) 2 6))) else none) = _
    simp only [if_pos length, byteAt, field_cons_of_pos, field_append_of_le, field_bytesBE_append, field_cons_zero,
      Nat.reduceLeDiff, Nat.reduceSub, le_refl, ofNat_toNat_byte, ofNat_toNat_mod (w := 48) (n := 6), read,
      Option.map_some]
  | passage inward outward =>
    have read (i : Fin 8) : below 8 (i.val % 256) = some i := by rw [Nat.mod_eq_of_lt (by omega), below_val]
    simp [reportOf, Report.code, Report.bytes, read]
  | status condition => cases condition <;> rfl

theorem length_reportBytes (r : Report) : r.bytes.length ≤ 23 := by
  cases r <;> simp [Report.bytes, CardImage.bytes, bytesSigned]

end Sys2Proof.Machine
open Sys2Proof Sys2Proof.Machine

/-- Settles O59: the envelope opens, its first byte names the lane, and each report is read from its fields. -/
theorem answersAreReadAsTheyAreWritten : Obligations.AnswersAreReadAsTheyAreWritten := by
  intro l m n r fits
  have opened : openEnvelope (answerBytes l n r) = some ⟨r.code, n, number l :: r.bytes⟩ :=
    openEnvelope_bytes (Nat.lt_of_le_of_lt (Nat.succ_le_succ (length_reportBytes r)) (by norm_num))
  have lane : byteAt (number l :: r.bytes) 0 = number l := by simp [byteAt]
  refine ⟨?_, fun other => ?_⟩
  · simp only [answerReport, opened, lane, if_true, reportOf_bytes fits, Option.map_some]
  · simp only [answerReport, opened, lane, if_neg fun same => other (number_inj same).symm]
end

section
/-! The requests of the depot link as they are written and read (spec/11). -/

namespace Sys2Proof.Machine

/-! ### The frame of a request -/

/-- A frame that is not too long stands for the request of its kind, where its body is long enough (R166, R177). -/
theorem depotCommand_of_request {kind tag : Byte} {body : List Byte} {k : RequestKind}
    (known : requestKindOf kind = some k) (fits : body.length < 65534) : depotCommand (Envelope.bytes ⟨kind, tag, body⟩) =
      if body.length < k.bodySize body then .depotBadFrame else requestOf tag body k := by
  rw [depotCommand, openEnvelope_bytes (by exact fits)]
  simp only [known]

theorem depotCommand_of_unknown {kind tag : Byte} {body : List Byte} (unknown : requestKindOf kind = none)
    (fits : body.length < 65534) : depotCommand (Envelope.bytes ⟨kind, tag, body⟩) =
      if body.length < otherBodySize kind body then .depotBadFrame else .depotUnknownFrame kind tag := by
  rw [depotCommand, openEnvelope_bytes (by exact fits)]
  simp only [unknown]

/-- A frame of exactly the size its kind requires is read. -/
theorem depotCommand_of_sized {kind tag : Byte} {body : List Byte} {k : RequestKind} {c : Instr}
    (known : requestKindOf kind = some k) (sized : body.length = k.bodySize body) (fits : body.length < 65534)
    (read : requestOf tag body k = c) : depotCommand (Envelope.bytes ⟨kind, tag, body⟩) = c := by
  rw [depotCommand_of_request known fits, if_neg (by omega), read]

/-! ### TABLE WRITE -/

theorem length_flatMap_of_length {ρ : Type} {spell : ρ → List Byte} {size : Nat} (sized : ∀ r, (spell r).length = size)
    (es : List ρ) : (es.flatMap spell).length = es.length * size := by
  rw [List.length_flatMap, funext sized]
  simp

/-- Entries of one size are read back one after another. -/
theorem entriesOf_flatMap {ρ : Type} {read : List Byte → ρ} {spell : ρ → List Byte} {size : Nat}
    (sized : ∀ r, (spell r).length = size) (back : ∀ r, read (spell r) = r) (es : List ρ) :
    entriesOf read size es.length (es.flatMap spell) = es := by
  induction es with
  | nil => rfl
  | cons e es ih =>
    rw [List.length_cons, entriesOf, List.flatMap_cons, List.take_left' (sized e), List.drop_left' (sized e), back, ih]

theorem rawCard_bytes (r : RawCard) : rawCard (rawCardBytes r) = r := by
  simp only [rawCard, rawCardBytes, byteAt, field_bytesBE_append, field_append_of_le, Nat.reduceLeDiff, Nat.reduceSub,
    field_cons_zero, ofNat_toNat_byte, ofNat_toNat_mod (w := 48) (n := 6)]

theorem rawProduct_bytes (r : RawProduct) : rawProduct (rawProductBytes r) = r := by
  simp only [rawProduct, rawProductBytes, byteAt, List.cons_append, List.nil_append, field_bytesBE_append,
    field_cons_of_pos, field_append_of_le, Nat.reduceLeDiff, Nat.reduceSub, le_refl, field_cons_zero, ofNat_toNat_byte,
    ofNat_toNat_mod (w := 16) (n := 2)]

theorem rawFare_bytes (r : Half) : rawFare (bytesBE 2 r.toNat) = r := by
  simp only [rawFare, field_bytesBE, ofNat_toNat_mod (w := 16) (n := 2)]

theorem rawClass_bytes (r : RawClass) : rawClass (rawClassBytes r) = r := by
  simp only [rawClass, rawClassBytes, byteAt, List.cons_append, field_bytesBE_append,
    field_cons_of_pos, field_append_of_le, Nat.reduceLeDiff, Nat.reduceSub, le_refl, field_cons_zero, ofNat_toNat_byte,
    ofNat_toNat_mod (w := 16) (n := 2)]

theorem rawBoundary_bytes (r : RawBoundary) : rawBoundary (rawBoundaryBytes r) = r := by
  simp only [rawBoundary, rawBoundaryBytes, byteAt, field_bytesBE_append, field_append_of_le, Nat.reduceSub, le_refl,
    field_cons_zero, ofNat_toNat_byte, ofNat_toNat_mod (w := 16) (n := 2)]

theorem length_rawCardBytes (r : RawCard) : (rawCardBytes r).length = 7 := by simp [rawCardBytes]
theorem length_rawProductBytes (r : RawProduct) : (rawProductBytes r).length = 7 := by simp [rawProductBytes]
theorem length_rawClassBytes (r : RawClass) : (rawClassBytes r).length = 4 := by simp [rawClassBytes]
theorem length_rawBoundaryBytes (r : RawBoundary) : (rawBoundaryBytes r).length = 3 := by simp [rawBoundaryBytes]

/-- A well-formed body is one that names no table, or 1 to 32 entries of one. -/
theorem TableBody.wellFormed_cases {body : TableBody} (wellFormed : body.wellFormed = true) :
    (∃ c, body = .outOfRange c) ∨ (1 ≤ body.count ∧ body.count ≤ 32) := by
  cases body with
  | outOfRange c => exact .inl ⟨c, rfl⟩
  | _ es => exact .inr (by simpa only [TableBody.wellFormed, Bool.and_eq_true, decide_eq_true_eq] using wellFormed)

/-- The entries of a body fill the size that its table and count require. -/
theorem length_tableEntries (body : TableBody) :
    (tableEntries body).length = body.count * (entrySize (tableCode body)).getD 0 := by
  cases body with
  | cards es => exact length_flatMap_of_length length_rawCardBytes es
  | products es => exact length_flatMap_of_length length_rawProductBytes es
  | fares es => exact length_flatMap_of_length (fun r => length_bytesBE 2 r.toNat) es
  | classes es => exact length_flatMap_of_length length_rawClassBytes es
  | timeBands es => exact length_flatMap_of_length length_rawBoundaryBytes es
  | outOfRange c => exact (Nat.mul_zero _).symm

theorem tableBodyOf_bytes {body : TableBody} (wellFormed : body.wellFormed = true) :
    tableBodyOf (tableCode body) (BitVec.ofNat 8 body.count) (tableEntries body) = body := by
  rcases TableBody.wellFormed_cases wellFormed with ⟨c, rfl⟩ | counted
  · simp [tableBodyOf, tableCode, TableBody.count]
  · have number : (BitVec.ofNat 8 body.count).toNat = body.count := by
      rw [BitVec.toNat_ofNat]
      exact Nat.mod_eq_of_lt (by omega)
    rw [tableBodyOf, number, if_pos counted]
    cases body with
    | cards es => exact congrArg _ (entriesOf_flatMap length_rawCardBytes rawCard_bytes es)
    | products es => exact congrArg _ (entriesOf_flatMap length_rawProductBytes rawProduct_bytes es)
    | fares es => exact congrArg _ (entriesOf_flatMap (fun r => length_bytesBE 2 r.toNat) rawFare_bytes es)
    | classes es => exact congrArg _ (entriesOf_flatMap length_rawClassBytes rawClass_bytes es)
    | timeBands es => exact congrArg _ (entriesOf_flatMap length_rawBoundaryBytes rawBoundary_bytes es)
    | outOfRange c => exact congrArg TableBody.outOfRange (ofNat_toNat_byte c)

/-- A TABLE WRITE is read as it is written, entries and all (R177). -/
theorem depotCommand_tableWrite (tag : Byte) (start : Half) {body : TableBody} (wellFormed : body.wellFormed = true) :
    depotCommand (Envelope.bytes ⟨0x80, tag,
      tableCode body :: bytesBE 2 start.toNat ++ bytesBE 1 body.count ++ tableEntries body⟩) =
        .tableWrite tag start body := by
  set bytes := tableCode body :: bytesBE 2 start.toNat ++ bytesBE 1 body.count ++ tableEntries body with spelled
  have few : body.count < 256 := by
    rcases TableBody.wellFormed_cases wellFormed with ⟨c, rfl⟩ | ⟨-, most⟩
    · exact c.isLt
    · omega
  have code : byteAt bytes 0 = tableCode body := by simp [spelled, byteAt]
  have count : field bytes 3 1 = body.count := by
    rw [spelled]
    simp only [List.cons_append, List.append_assoc, field_cons_of_pos, field_append_of_le, field_bytesBE_append,
      Nat.reduceLeDiff, Nat.reduceSub, le_refl]
    exact Nat.mod_eq_of_lt few
  have length : bytes.length = 4 + body.count * (entrySize (tableCode body)).getD 0 := by
    rw [spelled, List.length_append, length_tableEntries]
    simp
  refine depotCommand_of_sized (k := .tableWrite) rfl ?_ ?_ ?_
  · show _ = tableWriteSize bytes
    rw [tableWriteSize, code, count, length]
    rcases TableBody.wellFormed_cases wellFormed with ⟨c, rfl⟩ | counted
    · simp [tableCode, entrySize]
    · exact (if_pos counted).symm
  · have most : (entrySize (tableCode body)).getD 0 ≤ 7 := by cases body <;> simp [tableCode, entrySize]
    have bound := Nat.mul_le_mul few.le most
    omega
  · have read : halfAt bytes 1 = start := by
      rw [spelled]
      simp only [halfAt, List.cons_append, List.append_assoc, field_cons_of_pos, field_bytesBE_append, Nat.reduceSub,
        le_refl, ofNat_toNat_mod (w := 16) (n := 2)]
    have entries : bytes.drop 4 = tableEntries body := rfl
    rw [requestOf, read, code, byteAt, count, entries, tableBodyOf_bytes wellFormed]

end Sys2Proof.Machine
open Sys2Proof Sys2Proof.Machine

/-- Settles O60: each request's fields are read back from their bytes. -/
theorem requestsAreReadAsTheyAreWritten : Obligations.RequestsAreReadAsTheyAreWritten := by
  refine ⟨fun c wellFormed e spelled => ?_, fun kind tag body fits =>
    ⟨fun k known short => ?_, fun unknown => depotCommand_of_unknown unknown fits⟩⟩
  · cases c <;> simp only [requestEnvelope, reduceCtorEq, Option.some.injEq] at spelled <;> subst spelled
    case tableWrite tag start body => exact depotCommand_tableWrite tag start wellFormed
    all_goals
      refine depotCommand_of_sized rfl ?_ ?_ ?_
      · simp [RequestKind.bodySize, rawCardBytes]
      · simp [rawCardBytes]
      · simp only [requestOf, rawCard_bytes, halfAt, quadAt, byteAt, List.cons_append, List.append_assoc,
          field_bytesBE, field_bytesBE_append, field_cons_of_pos, field_append_of_le, Nat.reduceLeDiff, Nat.reduceSub,
          le_refl, field_cons_zero, ofNat_toNat_byte, ofNat_toNat_mod (w := 48) (n := 6),
          ofNat_toNat_mod (w := 32) (n := 4), ofNat_toNat_mod (w := 16) (n := 2)]
  · rw [depotCommand_of_request known fits, if_pos short]
end

section
/-! What the laws of admission say of one lane and its berth (R42, R106, R114, R117). -/

namespace Sys2Proof.Machine

/-- A berth whose state follows its room (R106). -/
def Berth.Settled (b : Berth) : Prop := b.follow = b

theorem Berth.settled_of_lawful {b : Berth} (lawful : b.lawful = true) : b.Settled := by
  unfold Berth.Settled Berth.follow
  unfold Berth.lawful at lawful
  cases state : b.state <;> simp only [state, Bool.and_eq_true, decide_eq_true_eq] at lawful
  case boarding => simp [BerthState.takesPassengers, Int.not_le.mpr lawful.2, ← state]
  case full => simp [BerthState.takesPassengers, lawful.2, ← state]
  all_goals simp [BerthState.takesPassengers]

theorem Berth.settled_follow (b : Berth) : b.follow.Settled := by
  have room (x : BerthState) : Berth.room { b with state := x } = b.room := rfl
  unfold Berth.Settled
  by_cases boards : b.state.takesPassengers = true
  · by_cases full : b.room ≤ 0
    · rw [show b.follow = { b with state := .full } by simp [Berth.follow, boards, full]]
      simp [Berth.follow, room, full, BerthState.takesPassengers]
    · rw [show b.follow = { b with state := .boarding } by simp [Berth.follow, boards, full]]
      simp [Berth.follow, room, full, BerthState.takesPassengers]
  · have same : b.follow = b := if_neg boards
    rw [same, same]

theorem Berth.Settled.counted {b : Berth} (settled : b.Settled) (f : Counts → Counts) : (b.counted f).Settled := by
  unfold Berth.counted
  split_ifs
  · exact settled
  · exact Berth.settled_follow _

theorem Berth.Settled.room_pos {b : Berth} (settled : b.Settled) (boarding : b.state = .boarding) : 0 < b.room := by
  by_contra full
  have state : b.follow.state = .full := by
    simp [Berth.follow, boarding, BerthState.takesPassengers, Int.not_lt.mp full]
  rw [show b.follow = b from settled, boarding] at state
  nomatch state

theorem Berth.Settled.room_le {b : Berth} (settled : b.Settled) (is_full : b.state = .full) : b.room ≤ 0 := by
  by_contra room
  have state : b.follow.state = .boarding := by
    simp [Berth.follow, is_full, BerthState.takesPassengers, room]
  rw [show b.follow = b from settled, is_full] at state
  nomatch state

/-! ### The state of a berth that holds or grants places -/

theorem Berth.state_of_held {b : Berth} (lawful : b.lawful = true) (held : 0 < b.counts.held) :
    b.state ≠ .idle ∧ b.state ≠ .alongside := by
  unfold Berth.lawful at lawful
  constructor
  all_goals
    intro state
    simp only [state, Bool.and_eq_true, beq_iff_eq, Counts.zero] at lawful
    simp_all

theorem Berth.state_of_granted {b : Berth} (lawful : b.lawful = true) (granted : 0 < b.counts.granted) :
    b.state ≠ .idle ∧ b.state ≠ .alongside := by
  unfold Berth.lawful at lawful
  constructor
  all_goals
    intro state
    simp only [state, Bool.and_eq_true, beq_iff_eq, Counts.zero] at lawful
    simp_all

/-- One lane's share of a sum over the lanes. -/
theorem le_sum_allLanes (f : LaneId → Nat) (l : LaneId) : f l ≤ (allLanes.map f).sum :=
  List.single_le_sum (fun _ _ => Nat.zero_le _) _ (List.mem_map_of_mem (mem_allLanes l))

theorem Lane.leaf_of_credits {x : Lane} (credits : x.credits ≠ 0) : x.leaf = .opened x.credits := by
  unfold Lane.credits at credits ⊢
  cases leaf : x.leaf <;> simp_all [Leaf.credits]

/-! ### The places of a lane -/

namespace State.placesSound

variable {s : State} (sound : s.placesSound)

include sound

theorem settled (b : BerthId) : (s.berth b).Settled := Berth.settled_of_lawful (sound.1 b).1

theorem lane_lawful (l : LaneId) : (s.lane l).lawful s.releaseActive = true := sound.2.1 l

/-- A lane with credits is an ENTRY lane outside release whose credits its berth has granted (R117, R162). -/
theorem of_opened {l : LaneId} {k : Nat} (opened : (s.lane l).leaf = .opened k) :
    1 ≤ k ∧ k ≤ 15 ∧ s.releaseActive = false ∧ (s.lane l).status = .online ∧ (s.lane l).holdTimer ≠ none ∧
      ∃ b, (s.lane l).mode = .entry b ∧ k ≤ (s.berth b).counts.granted ∧
        (s.berth b).state ≠ .idle ∧ (s.berth b).state ≠ .alongside := by
  have lawful := sound.lane_lawful l
  have credits : (s.lane l).credits = k := by rw [Lane.credits, opened]; rfl
  simp only [Lane.lawful, opened, credits, Bool.and_eq_true, decide_eq_true_eq, Bool.not_eq_true'] at lawful
  obtain ⟨⟨⟨⟨-, ⟨⟨some_credit, few⟩, entry⟩, outside⟩, timer⟩, link⟩, -⟩ := lawful
  have online : (s.lane l).status = .online := by
    rcases Bool.or_eq_true _ _ ▸ link with online | idle
    · exact eq_of_beq online
    · have none_left : k = 0 := eq_of_beq (Bool.and_eq_true _ _ ▸ idle).2
      omega
  have running : (s.lane l).holdTimer ≠ none := by
    rw [← Option.isSome_iff_ne_none, eq_of_beq timer]
    exact decide_eq_true (by omega)
  obtain ⟨b, mode⟩ : ∃ b, (s.lane l).mode = .entry b := by
    cases mode : (s.lane l).mode <;> simp_all [Mode.berth?]
  obtain ⟨berth, -, granted, -⟩ := sound.1 b
  have share : k ≤ (s.berth b).counts.granted := by
    rw [granted]
    calc k
      _ = (s.lane l).creditsAt b := by simp [Lane.creditsAt, mode, Lane.credits, opened, Leaf.credits]
      _ ≤ s.creditsFor b := le_sum_allLanes (fun l => (s.lane l).creditsAt b) l
  exact ⟨some_credit, few, outside, online, running, b, mode, share, Berth.state_of_granted berth (by omega)⟩

/-- The lane of a write that is not orphaned is an ONLINE ENTRY lane of its berth outside release, with room for the
riders, whose places the berth holds (R53, R114, R161). -/
theorem of_writing {l : LaneId} {image : CardImage} {w : CardWrite} (writing : (s.lane l).txn = .writing image w)
    (live : w.orphaned = false) : (s.lane l).mode = .entry w.berth ∧ (s.lane l).status = .online ∧
      s.releaseActive = false ∧ 1 ≤ w.riders ∧ (s.lane l).credits + w.riders ≤ 15 ∧
      w.riders ≤ (s.berth w.berth).counts.held ∧ (s.berth w.berth).state ≠ .idle ∧
      (s.berth w.berth).state ≠ .alongside := by
  have lawful := sound.lane_lawful l
  simp only [Lane.lawful, Lane.txnLawful, writing, live, Bool.and_eq_true, decide_eq_true_eq, Bool.not_eq_true',
    Bool.false_or, beq_iff_eq] at lawful
  obtain ⟨⟨⟨⟨⟨⟨-, riders⟩, ⟨mode, outside⟩, room⟩, -⟩, -⟩, online⟩, -⟩ := lawful
  have status : (s.lane l).status = .online := by simpa using online
  obtain ⟨berth, held, -, -⟩ := sound.1 w.berth
  have share : w.riders ≤ (s.berth w.berth).counts.held := by
    rw [held]
    calc w.riders
      _ = (s.lane l).txn.ridersAt w.berth := by simp [Transaction.ridersAt, writing, live]
      _ ≤ (allLanes.map fun l => (s.lane l).txn.ridersAt w.berth).sum :=
        le_sum_allLanes (fun l => (s.lane l).txn.ridersAt w.berth) l
      _ ≤ s.heldFor w.berth := Nat.le_add_right _ _
  exact ⟨mode, status, outside, riders, room, share, Berth.state_of_held berth (by omega)⟩

end State.placesSound
end Sys2Proof.Machine
end

section
/-! The requests of the blocks to each other where the laws of admission hold: a change of one berth, a record and a
change of one lane (spec/05, spec/06). -/

namespace Sys2Proof.Machine

/-! ### Berths -/

/-- The counts that take places (R106). -/
def Counts.taken (c : Counts) : Nat := c.committed + c.unpaid + c.tallied

theorem Berth.room_eq (b : Berth) : b.room = (b.effective : Int) - (b.counts.taken : Nat) := rfl

/-- The counts of a berth whose credits are forfeited (R117). -/
def Counts.forfeit (n : Nat) (c : Counts) : Counts :=
  { c with granted := c.granted - n, forfeited := min 65535 (c.forfeited + n) }

/-- The counts of a berth that converts places (R113). -/
def Counts.convert (n charge : Nat) (c : Counts) : Counts := { c with
  held := c.held - n
  granted := c.granted + n
  admissions := min 65535 (c.admissions + 1)
  revenue := min 4294967295 (c.revenue + charge) }

/-- A berth after places have been converted in BOARDING, FULL or CLOSED (R113, R122). -/
def Berth.converted (unit n charge : Nat) (b : Berth) : Berth :=
  if b.state = .closed then { b with counts := b.counts.convert n charge }
  else { b with
    counts := b.counts.convert n charge
    quietTimer := if unit = 0 then none else some (unit * 5), lastCall := false }

theorem Berth.state_converted (unit n charge : Nat) (b : Berth) : (b.converted unit n charge).state = b.state := by
  unfold Berth.converted
  split_ifs <;> rfl

theorem Counts.taken_convert {n : Nat} {c : Counts} (held : n ≤ c.held) (charge : Nat) :
    (c.convert n charge).taken = c.taken := by
  simp only [Counts.taken, Counts.committed, Counts.convert]
  omega

theorem Berth.room_converted {n : Nat} {b : Berth} (held : n ≤ b.counts.held) (unit charge : Nat) :
    (b.converted unit n charge).room = b.room := by
  unfold Berth.converted
  split_ifs <;> rw [Berth.room_eq, Berth.room_eq, ← Counts.taken_convert held charge]

/-- Converted places are taken as before, so a settled berth stays so. -/
theorem Berth.Settled.converted {n : Nat} {b : Berth} (settled : b.Settled) (held : n ≤ b.counts.held)
    (unit charge : Nat) : (b.converted unit n charge).Settled := by
  have room := b.room_converted held unit charge
  have state := b.state_converted unit n charge
  unfold Berth.Settled Berth.follow
  rw [state, room]
  split_ifs with boards full
  · rw [← show b.state = .full from ?_, ← state]
    rcases (BerthState.takesPassengers_iff _).mp boards with boarding | is_full
    · exact absurd (settled.room_pos boarding) (Int.not_lt.mpr full)
    · exact is_full
  · rw [← show b.state = .boarding from ?_, ← state]
    rcases (BerthState.takesPassengers_iff _).mp boards with boarding | is_full
    · exact boarding
    · exact absurd (settled.room_le is_full) full
  · rfl

namespace State

variable {s : State} {b : BerthId} {l : LaneId}

/-- A count request that is not applied in IDLE, with BERTH FULL where it fills the berth (R106, R111). -/
theorem atBerth_count (f : Counts → Counts) :
    (s.atBerth b fun x => if x.state = .idle then x else x.onCounts f) = { s.withBerth b ((s.berth b).counted f) with
      flags := s.flags ||| (if (s.berth b).state = .boarding ∧ ((s.berth b).counted f).state = .full then 0x10#16 else 0) } := by
  have state : (if (s.berth b).state = .idle then s.berth b else (s.berth b).onCounts f).state = (s.berth b).state := by
    split_ifs <;> rfl
  rw [atBerth_eq, Berth.follow_count, state]
  simp only [flagsIf, Bool.and_eq_true, beq_iff_eq]
  rfl

/-- A count request that takes no more places leaves a settled berth short of BERTH FULL. -/
theorem atBerth_count_of_lighter (settled : (s.berth b).Settled) {f : Counts → Counts}
    (lighter : (f (s.berth b).counts).taken ≤ (s.berth b).counts.taken) :
    (s.atBerth b fun x => if x.state = .idle then x else x.onCounts f) = s.withBerth b ((s.berth b).counted f) := by
  rw [atBerth_of_quiet, Berth.follow_count]
  intro boarding
  have state : (s.berth b).state = .boarding := by
    split_ifs at boarding <;> exact boarding
  have room := settled.room_pos state
  split_ifs with idle
  · exact room
  · rw [Berth.room_eq] at room ⊢
    simp only [Berth.onCounts] at room ⊢
    omega

theorem release_eq (settled : (s.berth b).Settled) (n : Nat) :
    s.release b n = s.withBerth b ((s.berth b).counted fun c => { c with held := c.held - n }) := by
  refine atBerth_count_of_lighter settled ?_
  simp only [Counts.taken, Counts.committed]
  omega

theorem forfeitPlaces_eq (settled : (s.berth b).Settled) (moored : (s.berth b).state ≠ .alongside) (n : Nat) :
    s.forfeitPlaces b n = s.withBerth b ((s.berth b).counted (.forfeit n)) := by
  have counts : s.forfeitPlaces b n =
      s.atBerth b fun x => if x.state = .idle then x else x.onCounts (.forfeit n) := by
    rw [forfeitPlaces, atBerth, atBerth]
    simp only [moored, or_false]
    rfl
  rw [counts, atBerth_count_of_lighter settled]
  simp only [Counts.taken, Counts.committed, Counts.forfeit]
  omega

theorem convert_eq (settled : (s.berth b).Settled) (sailing : (s.berth b).state ≠ .idle)
    (moored : (s.berth b).state ≠ .alongside) {n : Nat} (held : n ≤ (s.berth b).counts.held) (charge : Nat) :
    s.convert b n charge = s.withBerth b ((s.berth b).converted s.settings.quietUnit n charge) := by
  have changed : s.convert b n charge = s.atBerth b (.converted s.settings.quietUnit n charge) := by
    have boards : (s.berth b).state.takesPassengers = true ↔ (s.berth b).state ≠ .closed := by
      rw [BerthState.takesPassengers_iff]
      cases state : (s.berth b).state <;> simp_all
    rw [convert, atBerth, atBerth]
    simp only [if_neg sailing, boards, Berth.converted, Berth.loadQuiet, Berth.onCounts, Nat.mul_comm 5, ite_not]
    rfl
  rw [changed, atBerth_of_quiet, show Berth.follow _ = _ from settled.converted held _ _]
  intro boarding
  rw [Berth.state_converted] at boarding
  rw [Berth.room_converted held]
  exact settled.room_pos boarding

/-! ### Forfeits (R27) -/

end State

/-- The counter of a lane's forfeited credits raised (R27). -/
def Lane.countForfeit (n : Nat) (x : Lane) : Lane :=
  { x with counters := { x.counters with forfeited := min 65535 (x.counters.forfeited + n) } }

/-- A lane whose `k` credits are forfeited, its leaf SHUT and its hold timer stopped (R27). -/
def Lane.forfeitCredits (k : Nat) (x : Lane) : Lane := { x with
  leaf := .shut
  holdTimer := none
  counters := { x.counters with forfeited := min 65535 (x.counters.forfeited + k) } }

namespace State

variable {s : State} {b : BerthId} {l : LaneId}

theorem forfeit_eq (mode : (s.lane l).mode = .entry b) (settled : (s.berth b).Settled)
    (moored : (s.berth b).state ≠ .alongside) (n : Nat) (release : Bool) : s.forfeit l n release =
      ((s.withBerth b ((s.berth b).counted (.forfeit n))).record false (forfeitRecord l b n release)).onLane l
        (.countForfeit n) := by
  rw [forfeit, mode]
  dsimp only [Mode.berth?]
  rw [forfeitPlaces_eq settled moored, onCounters, record_onLane]
  rfl

theorem forfeitAll_of_none (none_left : (s.lane l).credits = 0) (release : Bool) : s.forfeitAll l release = s :=
  if_pos none_left

theorem forfeitAll_eq {k : Nat} (opened : (s.lane l).leaf = .opened k) (some_credit : 1 ≤ k)
    (mode : (s.lane l).mode = .entry b) (settled : (s.berth b).Settled) (moored : (s.berth b).state ≠ .alongside)
    (release : Bool) : s.forfeitAll l release =
      ((s.withBerth b ((s.berth b).counted (.forfeit k))).record false (forfeitRecord l b k release)).onLane l
        (.forfeitCredits k) := by
  have credits : (s.lane l).credits = k := by rw [Lane.credits, opened]; rfl
  rw [forfeitAll, if_neg (by omega), credits, forfeit_eq (b := b) (by rw [lane_onLane_self]; exact mode)
    (by exact settled) (by exact moored), berth_onLane, withBerth_onLane, record_onLane, onLane_onLane]
  rfl

end State
end Sys2Proof.Machine
end

section
/-! The gate order of a lane whose leaf changes, and the expiry of a hold timer (spec/02, R19, R26). -/

namespace Sys2Proof.Machine

namespace State

variable {s : State} {l : LaneId}

theorem onLane_eq_of_lane {f : Lane → Lane} {x : Lane} (same : f (s.lane l) = x) : s.onLane l f = s.withLane l x := by
  subst same
  rfl

theorem record_withBerth (s : State) (b : BerthId) (x : Berth) (reserved : Bool) (d : Draft) :
    (s.withBerth b x).record reserved d = (s.record reserved d).withBerth b x := by
  rw [record_eq, record_eq]
  rfl

@[simp] theorem carriedBy_record (s : State) (reserved : Bool) (d : Draft) :
    (s.record reserved d).carriedBy l = s.carriedBy l := by
  rw [record_eq]
  rfl

@[simp] theorem releaseActive_withBerth (s : State) (b : BerthId) (x : Berth) :
    (s.withBerth b x).releaseActive = s.releaseActive := rfl

@[simp] theorem carriedBy_withBerth (s : State) (b : BerthId) (x : Berth) :
    (s.withBerth b x).carriedBy l = s.carriedBy l := rfl

end State

/-! ### A gate order that changes -/

theorem Lane.reworked_of_same {x : Lane} {release : Bool}
    (same : wantedGateOrder release x.mode x.leaf = x.gateOrder) (carried : Bool) : x.reworked release carried = x :=
  if_pos same

theorem Lane.reworked_of_ne {x : Lane} {release : Bool} (online : x.status = .online) (present : x.mode ≠ .absent)
    (differ : wantedGateOrder release x.mode x.leaf ≠ x.gateOrder) (carried : Bool) : x.reworked release carried =
      { x with gateOrder := wantedGateOrder release x.mode x.leaf, link := x.link.placeGate carried } := by
  rw [Lane.reworked, if_neg differ, Lane.renewed, Lane.askingGate_of_online (by exact online) (by exact present)]
  rfl

theorem wantedGateOrder_entry (b : BerthId) (leaf : Leaf) : wantedGateOrder false (.entry b) leaf =
    match leaf with
    | .opened n => .opened n
    | _ => .shut := rfl

/-- A lane that loses its credits outside release shuts its gate (R19). -/
theorem Lane.reworked_of_opened {x : Lane} {b : BerthId} {k : Nat} (online : x.status = .online)
    (mode : x.mode = .entry b) (order : x.gateOrder = .opened k)
    (closed : x.leaf = .shut ∨ x.leaf = .fault) (carried : Bool) :
    x.reworked false carried = { x with gateOrder := .shut, link := x.link.placeGate carried } := by
  have shut : wantedGateOrder false x.mode x.leaf = .shut := by
    rw [mode, wantedGateOrder_entry]
    rcases closed with leaf | leaf <;> rw [leaf]
  rw [Lane.reworked_of_ne online (by rw [mode]; nofun) (by rw [shut, order]; nofun), shut]

/-- The gate of a lane with credits counts them (R19). -/
theorem State.gatesInOrder.of_opened {s : State} (gates : s.gatesInOrder) {l : LaneId} {b : BerthId} {k : Nat}
    (outside : s.releaseActive = false) (mode : (s.lane l).mode = .entry b) (opened : (s.lane l).leaf = .opened k) :
    (s.lane l).gateOrder = .opened k := by
  rw [gates l, State.wantedOrder, outside, mode, opened]
  rfl

/-- The expiry of a running hold timer (R26). -/
theorem exec_holdTimerExpiry {s : State} (sound : s.placesSound) (gates : s.gatesInOrder) {l : LaneId} {k : Nat}
    {b : BerthId} (opened : (s.lane l).leaf = .opened k) (mode : (s.lane l).mode = .entry b) :
    exec (.holdTimerExpiry l) s = .next (
      let x := s.lane l
      let r := s.record false (forfeitRecord l b k false)
      State.noticed s.flags ((r.withLane l { x with
          leaf := .shut
          gateOrder := .shut
          holdTimer := none
          counters := { x.counters with forfeited := min 65535 (x.counters.forfeited + k) }
          link := x.link.placeGate (s.carriedBy l) }).withBerth b ((s.berth b).counted (.forfeit k)))) := by
  obtain ⟨some_credit, -, outside, online, running, b', mode', -, -, moored⟩ := sound.of_opened opened
  obtain rfl : b = b' := by simpa [mode] using mode'
  obtain ⟨time, timer⟩ := Option.ne_none_iff_exists'.mp running
  have credits : (s.lane l).credits = k := by rw [Lane.credits, opened]; rfl
  show Host.Outcome.next (match (s.lane l).holdTimer with | some _ => _ | none => _) = _
  rw [timer]
  dsimp only
  rw [State.notify_eq_noticed]
  congr 2
  have forfeited := State.forfeitAll_eq (s := s.onLane l fun x => { x with holdTimer := none }) (l := l) (b := b) (k := k)
    (by rw [State.lane_onLane_self]; exact opened) some_credit (by rw [State.lane_onLane_self]; exact mode)
    (sound.settled b) moored false
  rw [forfeited, State.berth_onLane, State.withBerth_onLane, State.record_onLane, State.onLane_onLane,
    State.record_withBerth, State.reworkGate_eq, State.onLane_onLane]
  refine State.onLane_eq_of_lane ?_
  simp only [State.lane_withBerth, State.lane_record, State.onLane_releaseActive, State.carriedBy_onLane,
    State.releaseActive_withBerth, State.carriedBy_withBerth, State.record_releaseActive, State.carriedBy_record,
    Function.comp, outside]
  exact Lane.reworked_of_opened (x := .forfeitCredits k { s.lane l with holdTimer := none }) (k := k) online mode (gates.of_opened outside mode opened)
    (.inl rfl) _

end Sys2Proof.Machine
open Sys2Proof Sys2Proof.Machine

/-- Settles O29. -/
theorem aHoldExpiryForfeitsTheCredits : Obligations.AHoldExpiryForfeitsTheCredits := by
  refine ⟨fun s sound gates l k opened b mode => ?_, fun s l stopped => ?_⟩
  · exact exec_holdTimerExpiry sound gates opened mode
  · show Host.Outcome.next (match (s.lane l).holdTimer with | some _ => _ | none => _) = _
    rw [stopped]
end

section
/-! Answers that bring a new report, and the end of an event that leaves nothing more to serve (R7, R9, R42). -/

namespace Sys2Proof.Machine

theorem State.withLane_withLane (s : State) (l : LaneId) (x y : Lane) :
    (s.withLane l x).withLane l y = s.withLane l y :=
  s.onLane_onLane l (fun _ => x) (fun _ => y)

/-! ### Events that leave nothing more to serve -/

/-- An event that changes one lane, and does not make it WAITING, from a device at rest leaves nothing to serve. -/
theorem State.endEvent_withLane {s u v : State} {l : LaneId} {x : Lane} (taken : v = u.withLane l x) (rest : s.atRest)
    (engine : u.engine = s.engine) (active : u.active = s.active) (request : u.request = s.request)
    (lanes : u.lanes = s.lanes) (calm : x.txn.isWaiting = true → (s.lane l).txn.isWaiting = true) (before : Half) :
    v.endEvent before = (u.withLane l x).noticed before := by
  subst taken
  refine State.endEvent_of_atRest ⟨fun free m => ?_, fun waits => ?_⟩ before
  · have idle := rest.1 (engine.symm.trans free)
    by_cases same : m = l
    · subst same
      rw [State.lane_withLane]
      exact Bool.eq_false_iff.mpr fun waits => Bool.eq_false_iff.mp (idle m) (calm waits)
    · rw [State.withLane_eq_onLane, State.lane_onLane_of_ne _ same, State.lane_congr lanes]
      exact idle m
  · have locked : (u.withLane l x).readLocked = s.readLocked := by
      simp only [State.readLocked, State.referencedBank, State.shadow, State.withLane_eq_onLane, State.onLane_engine,
        State.onLane_active, engine, active]
    rw [locked]
    exact rest.2 (by rw [← request]; exact waits)

/-- An event of a turn's end that changes its lane alone, and sets no flag, from a device at rest. -/
theorem State.endEvent_of_turn {s v : State} {l : LaneId} {x : Lane}
    (taken : v = State.withLane { s with turn := none } l x) (rest : s.atRest)
    (calm : x.txn.isWaiting = true → (s.lane l).txn.isWaiting = true) :
    v.endEvent s.flags = { s.withLane l x with turn := none } :=
  (State.endEvent_withLane taken rest rfl rfl rfl rfl calm s.flags).trans (State.noticed_of_flags rfl)

/-! ### Answers -/

/-- The device when the turn in progress has ended in a good answer with the report number `n` (R7, R9, R11). -/
def State.answeredAt (s : State) (t : Turn) (n : Byte) : State :=
  ({ s with turn := none }).onLane t.lane (·.answeredBy t.carried n)

/-- A good answer that brings a new report hands it to its lane, which was ONLINE throughout (R9, R10). -/
theorem exec_answer_of_new {s : State} {t : Turn} (turning : s.turn = some t) (stayed : t.absented = false)
    (present : (s.lane t.lane).mode ≠ .absent) (online : (s.lane t.lane).status = .online) {r : Report}
    {bytes : List Byte} {n : Byte} (good : answerReport t.lane bytes = some (n, r)) (some_report : r ≠ .nothing)
    (fresh : (s.lane t.lane).link.acked ≠ some n) :
    exec (.answer bytes) s = .next (((s.answeredAt t n).takeReport t.lane r).endEvent s.flags) := by
  show Host.Outcome.next (match s.turn with | some t => _ | none => _) = _
  rw [turning]
  dsimp only
  rw [State.endTurn, good]
  have heard : State.lane { s with turn := none } t.lane = s.lane t.lane := rfl
  have stays : State.leftDuring { s with turn := none } t = false := by simp [State.leftDuring, stayed, heard, present]
  have is_new : reportIsNew (s.lane t.lane).link.acked n r = true := by simp [reportIsNew, some_report, fresh]
  have answered : (State.acknowledge { s with turn := none } t.lane t.carried).noteReport t.lane n = s.answeredAt t n := by
    rw [State.answeredAt, State.acknowledge, State.noteReport, State.onLink, State.onLink, State.onLane_onLane]
    rfl
  simp only [State.goodAnswer, stays, heard, is_new, online, reduceCtorEq, if_true, if_false, Bool.false_eq_true, answered]

@[simp] theorem State.lane_answeredAt (s : State) (t : Turn) (n : Byte) :
    (s.answeredAt t n).lane t.lane = (s.lane t.lane).answeredBy t.carried n := State.lane_onLane_self _ _ _

end Sys2Proof.Machine
end

section
/-! Leaf faults and leaf clears (spec/02, R35, R36). -/

namespace Sys2Proof.Machine

variable {s : State} {t : Turn} {n : Byte}

theorem Lane.txn_gated (x : Lane) (release : Bool) : (x.gated release).txn = x.txn := by
  unfold Lane.gated
  split_ifs <;> rfl

/-- A LEAF FAULT at a SHUT leaf (R35). -/
theorem answer_leafFault_of_shut (rest : s.atRest) (gates : s.gatesInOrder) (shut : (s.lane t.lane).leaf = .shut) :
    ((s.answeredAt t n).takeLeafFault t.lane).endEvent s.flags = State.noticed s.flags
      { s.withLane t.lane { (s.lane t.lane).answeredBy t.carried n with leaf := .fault } with
        turn := none, flags := s.flags ||| 4#16 } := by
  have leaf : ((s.answeredAt t n).lane t.lane).leaf = .shut := by rw [State.lane_answeredAt]; exact shut
  have same (release carried : Bool) (order : (s.lane t.lane).gateOrder = wantedGateOrder release (s.lane t.lane).mode .shut) :
      Lane.reworked { (s.lane t.lane).answeredBy t.carried n with leaf := .fault } release carried =
        { (s.lane t.lane).answeredBy t.carried n with leaf := .fault } :=
    Lane.reworked_of_same order.symm carried
  have taken : (s.answeredAt t n).takeLeafFault t.lane = State.withLane { s with
      turn := none, flags := s.flags ||| 4#16 } t.lane { (s.lane t.lane).answeredBy t.carried n with leaf := .fault } := by
    rw [State.takeLeafFault, if_neg (by rw [leaf]; nofun), State.forfeitAll_of_none (by rw [Lane.credits, leaf]; rfl),
      State.reworkGate_eq, State.raise_onLane, State.answeredAt, State.raise_onLane, State.onLane_onLane,
      State.onLane_onLane]
    exact State.onLane_eq_of_lane (same _ _ (by rw [gates t.lane, State.wantedOrder, shut]; rfl))
  exact State.endEvent_withLane taken rest rfl rfl rfl rfl id _

/-- A LEAF FAULT at a lane with credits (R27, R35). -/
theorem answer_leafFault_of_opened (rest : s.atRest) (sound : s.placesSound) (gates : s.gatesInOrder) {k : Nat}
    {b : BerthId} (opened : (s.lane t.lane).leaf = .opened k) (mode : (s.lane t.lane).mode = .entry b) :
    ((s.answeredAt t n).takeLeafFault t.lane).endEvent s.flags = (
        let x := (s.lane t.lane).answeredBy t.carried n
        let r := s.record false (forfeitRecord t.lane b k false)
        State.noticed s.flags { (r.withLane t.lane { x with
            leaf := .fault
            gateOrder := .shut
            holdTimer := none
            counters := { x.counters with forfeited := min 65535 (x.counters.forfeited + k) }
            link := x.link.placeGate false }).withBerth b ((s.berth b).counted (.forfeit k)) with
          turn := none
          flags := r.flags ||| 4#16 }) := by
  obtain ⟨some_credit, -, outside, online, -, b', mode', -, -, moored⟩ := sound.of_opened opened
  obtain rfl : b = b' := by simpa [mode] using mode'
  have leaf : ((s.answeredAt t n).lane t.lane).leaf = .opened k := by rw [State.lane_answeredAt]; exact opened
  have forfeited := State.forfeitAll_eq (s := s.answeredAt t n) leaf some_credit (by rw [State.lane_answeredAt]; exact mode)
    (sound.settled b) moored false
  have shuts := Lane.reworked_of_opened
    (x := { ((s.lane t.lane).answeredBy t.carried n).forfeitCredits k with leaf := .fault }) (k := k) online mode
    (gates.of_opened outside mode opened) (.inr rfl) false
  have taken : (s.answeredAt t n).takeLeafFault t.lane = State.withLane
      { (s.record false (forfeitRecord t.lane b k false)).withBerth b ((s.berth b).counted (.forfeit k)) with
        turn := none, flags := (s.record false (forfeitRecord t.lane b k false)).flags ||| 4#16 } t.lane
      { ((s.lane t.lane).answeredBy t.carried n).forfeitCredits k with
        leaf := .fault, gateOrder := .shut, link := ((s.lane t.lane).answeredBy t.carried n).link.placeGate false } := by
    rw [State.takeLeafFault, if_neg (by rw [leaf]; nofun), forfeited, State.reworkGate_eq, State.raise_onLane,
      State.raise_onLane, State.answeredAt, State.withBerth_onLane, State.record_onLane, State.raise_onLane,
      State.onLane_onLane, State.onLane_onLane, State.onLane_onLane]
    simp only [State.onLane_releaseActive, State.raise_releaseActive,
      State.releaseActive_withBerth, outside, State.record_eq]
    exact State.onLane_eq_of_lane shuts
  exact State.endEvent_withLane taken rest (State.record_engine ..) (State.record_active ..)
    (State.record_request ..) (State.record_lanes ..) id _

/-- A LEAF FAULT at a leaf that is FAULT already, and a LEAF CLEAR at any other leaf, change nothing more. -/
theorem endEvent_answeredAt (rest : s.atRest) : (s.answeredAt t n).endEvent s.flags =
    { s.withLane t.lane ((s.lane t.lane).answeredBy t.carried n) with turn := none } :=
  State.endEvent_of_turn rfl rest id

/-- A LEAF CLEAR at a faulted leaf (R36). -/
theorem answer_leafClear_of_fault (rest : s.atRest) (fault : (s.lane t.lane).leaf = .fault) :
    ((s.answeredAt t n).takeLeafClear t.lane).endEvent s.flags = { s.withLane t.lane
      (Lane.gated { (s.lane t.lane).answeredBy t.carried n with leaf := .shut } s.releaseActive) with turn := none } := by
  have taken : (s.answeredAt t n).takeLeafClear t.lane = State.withLane { s with turn := none } t.lane
      (Lane.gated { (s.lane t.lane).answeredBy t.carried n with leaf := .shut } s.releaseActive) := by
    rw [State.takeLeafClear, if_pos (by rw [State.lane_answeredAt]; exact fault), State.renewGate_eq, State.answeredAt,
      State.onLane_onLane, State.onLane_onLane, ← Lane.renewed_of_free]
    rfl
  exact State.endEvent_of_turn taken rest (by rw [Lane.txn_gated]; exact id)

end Sys2Proof.Machine
open Sys2Proof Sys2Proof.Machine

/-- Settles O26. -/
theorem leafFaultsForfeitAndLeafClearsReopen : Obligations.LeafFaultsForfeitAndLeafClearsReopen := by
  intro s rest sound gates t turning stayed present online
  refine ⟨fun bytes n good fresh => ⟨fun fault => ?_, fun shut => ?_, fun k opened b mode => ?_⟩,
    fun bytes n good fresh => ?_⟩
  all_goals rw [exec_answer_of_new turning stayed present online good (by nofun) fresh]
  · rw [State.takeReport, State.takeStatus, State.takeLeafFault, if_pos (by rw [State.lane_answeredAt]; exact fault),
      endEvent_answeredAt rest]
  · exact congrArg _ (answer_leafFault_of_shut rest gates shut)
  · exact congrArg _ (answer_leafFault_of_opened rest sound gates opened mode)
  · by_cases fault : (s.lane t.lane).leaf = .fault
    · dsimp only
      rw [if_pos (by exact fault)]
      exact congrArg _ (answer_leafClear_of_fault rest fault)
    · dsimp only
      rw [if_neg (by exact fault), State.takeReport, State.takeStatus, State.takeLeafClear,
        if_neg (by rw [State.lane_answeredAt]; exact fault), endEvent_answeredAt rest]
end

section
/-! Taps (spec/02, R20, R21). -/

namespace Sys2Proof.Machine

variable {s : State} {t : Turn} {n : Byte}

/-- A tap counted (R20, R21). -/
def Lane.tapped (x : Lane) : Lane := { x with counters := { x.counters with taps := min 65535 (x.counters.taps + 1) } }

/-- A tap latched: the lane WAITING, with its tag advanced (R20). -/
def Lane.latched (image : CardImage) (x : Lane) : Lane :=
  { x.tapped with txn := .waiting image, link := { x.link with tag := x.link.tag + 1 } }

theorem State.takeTap_of_latched {u : State} {l : LaneId} (latches : u.latches l = true) (image : CardImage) :
    u.takeTap l image = u.onLane l (.latched image) := by
  rw [State.takeTap, if_pos latches, State.onCounters, State.onLane_onLane]
  rfl

/-- A tap with a code of R21 is one that is not latched. -/
theorem untakenCode_cases {u : State} {l : LaneId} {code : DisplayCode}
    (untaken : (u.lane l).untakenCode u.releaseActive = some code) :
    u.latches l = false ∧ untakenTapCode u.releaseActive (u.lane l) = code := by
  unfold Lane.untakenCode at untaken
  unfold State.latches untakenTapCode
  cases mode : (u.lane l).mode with
  | absent => simp [mode] at untaken
  | closed =>
    simp only [mode] at untaken
    refine ⟨rfl, ?_⟩
    split_ifs at untaken ⊢ <;> simpa using untaken
  | entry b =>
    simp only [mode] at untaken
    cases release : u.releaseActive <;> simp only [release] at untaken
    · by_cases idle : (u.lane l).txn = .none
      · by_cases fault : (u.lane l).leaf = .fault
        · simp_all
        · simp [idle, fault] at untaken
      · simp_all
    · simp_all
  | exit => exact ⟨rfl, by simpa [mode] using untaken⟩

theorem State.takeTap_of_untaken {u : State} {l : LaneId} {code : DisplayCode}
    (untaken : (u.lane l).untakenCode u.releaseActive = some code) (online : (u.lane l).status = .online)
    (image : CardImage) : u.takeTap l image = u.onLane l fun x => x.tapped.showing code := by
  have present : (u.lane l).mode ≠ .absent := fun absent => by simp [Lane.untakenCode, absent] at untaken
  obtain ⟨unlatched, coded⟩ := untakenCode_cases untaken
  have taken : u.takeTap l image = (u.onLane l .tapped).askShow l (untakenTapCode u.releaseActive (u.lane l)) := by
    rw [State.takeTap, unlatched]
    rfl
  rw [taken, coded, State.askShow_eq, State.onLane_onLane]
  exact State.onLane_congr (Lane.askingShow_of_online (x := (u.lane l).tapped) online present code)

/-- A latched tap waits while the engine is BUSY (R42). -/
theorem answer_tap_of_busy (image : CardImage) (busy : s.engine ≠ none)
    (lock : s.request.any TableJob.waits = true → s.readLocked = true) :
    (State.withLane { s with turn := none } t.lane (((s.lane t.lane).answeredBy t.carried n).latched image)).endEvent
      s.flags = { s.withLane t.lane (((s.lane t.lane).answeredBy t.carried n).latched image) with turn := none } :=
  (State.endEvent_of_atRest (s := State.withLane { s with turn := none } _ _) ⟨fun free => absurd free busy, lock⟩
    _).trans (State.noticed_of_flags rfl)

/-- With the engine FREE a latched tap is granted at the end of its event (R42, R43). -/
theorem answer_tap_of_free (rest : s.atRest) {b : BerthId} (image : CardImage) (free : s.engine = none)
    (mode : (s.lane t.lane).mode = .entry b) :
    (State.withLane { s with turn := none } t.lane (((s.lane t.lane).answeredBy t.carried n).latched image)).endEvent
      s.flags = { s.withLane t.lane
        { ((s.lane t.lane).answeredBy t.carried n).latched image with txn := .validating image } with
          turn := none
          lastGranted := t.lane
          engine := some ⟨t.lane, b, image, s.clock.day, s.clock.secs, s.clock.isSet, s.active, .service, none, false,
            none, none, none⟩ } := by
  set y := ((s.lane t.lane).answeredBy t.carried n).latched image with latched
  set u : State := State.withLane { s with turn := none } t.lane y with state
  have waits : (u.lane t.lane).txn = .waiting image := by rw [state, State.lane_withLane]; rfl
  have here : (u.lane t.lane).mode = .entry b := by rw [state, State.lane_withLane]; exact mode
  have first : u.firstWaiting t.lane := by
    intro m sooner
    have other : m ≠ t.lane := fun same => by subst same; exact absurd sooner (lt_irrefl _)
    rw [state, State.withLane_eq_onLane, State.lane_onLane_of_ne _ other]
    exact rest.1 free m
  have granted := State.arbitrate_of_firstWaiting (s := u) free waits here first
  rw [State.endEvent, State.takeWaiting_of_atRest (by exact rest.2), granted, State.notify_eq_noticed,
    State.noticed_of_flags (by rfl)]
  have lane : u.lane t.lane = y := State.lane_withLane _ _ _
  have twice : u.withLane t.lane { y with txn := .validating image } =
      State.withLane { s with turn := none } t.lane { y with txn := .validating image } :=
    State.withLane_withLane ..
  rw [State.send_nil, State.grantedTo, lane, twice]
  rfl

end Sys2Proof.Machine
open Sys2Proof Sys2Proof.Machine

/-- Settles O20. -/
theorem aTapIsLatchedOrShowsItsCode : Obligations.ATapIsLatchedOrShowsItsCode := by
  refine ⟨fun s rest outside t turning stayed b mode online idle sound image bytes n good fresh => ?_,
    fun s rest t turning stayed online code untaken image bytes n good fresh => ?_⟩
  · rw [exec_answer_of_new turning stayed (by rw [mode]; nofun) online good (by nofun) fresh, State.takeReport,
      State.takeTap_of_latched ?latches image, State.answeredAt, State.onLane_onLane]
    case latches =>
      simp only [State.latches, State.lane_answeredAt]
      simp [Lane.answeredBy, mode, Mode.berth?, idle, sound, State.answeredAt, outside]
    by_cases free : s.engine = none
    · dsimp only
      rw [if_pos free]
      exact congrArg _ (answer_tap_of_free rest image free mode)
    · dsimp only
      rw [if_neg free]
      exact congrArg _ (answer_tap_of_busy image free rest.2)
  · have present : (s.lane t.lane).mode ≠ .absent := fun absent => by simp [Lane.untakenCode, absent] at untaken
    rw [exec_answer_of_new turning stayed present online good (by nofun) fresh, State.takeReport,
      State.takeTap_of_untaken (code := code) (by rw [State.lane_answeredAt]; exact untaken)
        (by rw [State.lane_answeredAt]; exact online), State.answeredAt, State.onLane_onLane]
    exact congrArg _ (State.endEvent_of_turn rfl rest id)
end

section
/-! The recovery list where the laws of admission hold, and the ends of a card write (spec/05, R85 to R96). -/

namespace Sys2Proof.Machine

/-! ### Entries closed and made -/

namespace State

variable {s : State} {l : LaneId}

/-- The entry of a card in a list of distinct cards is the one to leave it. -/
theorem eraseP_card {es : List RecoveryEntry} (distinct : (es.map (·.card)).Nodup) (card : CardNo) :
    es.eraseP (·.card == card) = es.filter (·.card != card) := by
  induction es with
  | nil => rfl
  | cons e es ih =>
    obtain ⟨fresh, distinct⟩ := List.nodup_cons.mp distinct
    by_cases same : e.card = card
    · have others : es.filter (·.card != card) = es := by
        rw [List.filter_eq_self]
        intro o later
        exact bne_iff_ne.mpr fun other => fresh (List.mem_map.mpr ⟨o, later, other.trans same.symm⟩)
      simp [same, others]
    · simp [same, ih distinct]

/-- A card of a list of distinct cards has one entry. -/
theorem find?_card {es : List RecoveryEntry} (distinct : (es.map (·.card)).Nodup) {e : RecoveryEntry}
    (listed : e ∈ es) : es.find? (·.card == e.card) = some e := by
  induction es with
  | nil => nomatch listed
  | cons x xs ih =>
    obtain ⟨fresh, distinct⟩ := List.nodup_cons.mp distinct
    rcases List.mem_cons.mp listed with rfl | later
    · exact List.find?_cons_of_pos (by simp)
    · rw [List.find?_cons_of_neg (by simpa using fun same => fresh (List.mem_map.mpr ⟨e, later, same.symm⟩))]
      exact ih distinct later

/-- An entry is closed UNRESOLVED (R92). -/
theorem closeEntry_eq (distinct : (s.recovery.map (·.card)).Nodup) {e : RecoveryEntry}
    (settled : (s.berth e.berth).Settled) : s.closeEntry false e = s.unresolved e := by
  rw [closeEntry, release_eq settled, unresolved, removeEntry]
  have kept : (((s.withBerth e.berth ((s.berth e.berth).counted fun c => { c with held := c.held - e.riders })).record
      e.reservation (entryDraft .unresolved e.lane false e)).raise .recoveryUnresolved).recovery = s.recovery := by
    simp [withBerth]
  rw [kept, eraseP_card distinct, record_eq, record_eq]
  rfl

theorem unresolved_onLane (f : Lane → Lane) (e : RecoveryEntry) :
    (s.onLane l f).unresolved e = (s.unresolved e).onLane l f := by
  rw [unresolved, unresolved, record_onLane]
  rfl

/-- The entry that has to go for a new one of a card: the card's own, or the oldest of eight (R94, R95). -/
def closingFor (s : State) (card : CardNo) : Option RecoveryEntry :=
  match s.recovery.find? (·.card == card) with
  | some e => some e
  | none => if s.recovery.length = 8 then s.recovery.head? else none

/-- An uncertain write becomes the newest entry (R93, R94, R95). -/
theorem handOver_eq (few : s.recovery.length ≤ 8) (distinct : (s.recovery.map (·.card)).Nodup)
    (settled : ∀ b, (s.berth b).Settled) (l : LaneId) (card : CardNo) (w : CardWrite) : s.handOver l card w =
      let r := ((s.closingFor card).map s.unresolved).getD s
      { r with recovery := r.recovery ++ [w.entry l card s.settings.recoveryTime] } := by
  have way : s.makeWay card = ((s.closingFor card).map s.unresolved).getD s := by
    have full : (8 ≤ s.recovery.length) ↔ s.recovery.length = 8 := by omega
    unfold makeWay closingFor entryFor
    cases s.recovery.find? (·.card == card) with
    | some e => exact closeEntry_eq distinct (settled _)
    | none =>
      simp only [show Config.maxRecovery = 8 from rfl, full]
      split_ifs
      · cases s.recovery.head? with
        | some e => exact closeEntry_eq distinct (settled _)
        | none => rfl
      · rfl
  rw [handOver, way]
  rfl

theorem closingFor_of_mem (distinct : (s.recovery.map (·.card)).Nodup) {e : RecoveryEntry} (listed : e ∈ s.recovery)
    {card : CardNo} (closes : e.card = card ∨
      (s.recovery.length = 8 ∧ s.recovery.head? = some e ∧ ∀ o ∈ s.recovery, o.card ≠ card)) :
    s.closingFor card = some e := by
  unfold closingFor
  rcases closes with rfl | ⟨full, oldest, fresh⟩
  · rw [find?_card distinct listed]
  · have absent : s.recovery.find? (·.card == card) = none :=
      List.find?_eq_none.mpr fun o listed => by simpa using fresh o listed
    rw [absent]
    exact (if_pos full).trans oldest

/-- A list with room and no entry for the card takes the new one (R93). -/
theorem handOver_of_room {card : CardNo} (fresh : ∀ e ∈ s.recovery, e.card ≠ card) (room : s.recovery.length < 8)
    (l : LaneId) (w : CardWrite) : s.handOver l card w =
      { s with recovery := s.recovery ++ [w.entry l card s.settings.recoveryTime] } := by
  have absent : s.entryFor card = none := List.find?_eq_none.mpr fun e listed => by simpa using fresh e listed
  have way : s.makeWay card = s := by
    rw [makeWay, absent]
    exact if_neg (by simpa [Config.maxRecovery] using room)
  rw [handOver, way]
  rfl

/-- The entry that has to go is closed before the new one is made (R94, R95). -/
theorem handOver_of_closing (few : s.recovery.length ≤ 8) (distinct : (s.recovery.map (·.card)).Nodup)
    (settled : ∀ b, (s.berth b).Settled) {e : RecoveryEntry} {card : CardNo}
    (closes : s.closingFor card = some e) (l : LaneId) (w : CardWrite) : s.handOver l card w = { s.unresolved e with
      recovery := (s.unresolved e).recovery ++ [w.entry l card s.settings.recoveryTime] } := by
  rw [handOver_eq few distinct settled, closes]
  rfl

/-! ### The ends of a write -/

theorem writeDone_of_orphan {image : CardImage} {w : CardWrite} (orphan : w.orphaned = true) :
    s.writeDone l image w = (s.record w.reservation (cardDraft (if w.retry then .recoveredRetry else .admission)
      ⟨w.watch, true, false⟩ l w.berth image.card w.product w.cls w.riders w.charge w.image.balance w.version)).onLane l
        fun x => { x with txn := .none } := by
  rw [writeDone, if_pos orphan, writeDraft, orphan]
  rfl

theorem writeFailed_of_orphan {image : CardImage} {w : CardWrite} (orphan : w.orphaned = true) :
    s.writeFailed l image w = (s.record w.reservation (cardDraft .fail ⟨w.watch, true, false⟩ l w.berth image.card
      w.product w.cls w.riders 0 image.balance w.version)).onLane l fun x => { x with txn := .none } := by
  rw [writeFailed, if_pos orphan, writeDraft, orphan]
  rfl

theorem writeUncertain_of_orphan {image : CardImage} {w : CardWrite} (orphan : w.orphaned = true) :
    s.writeUncertain l image w = (s.record w.reservation (cardDraft .unresolved ⟨w.watch, true, false⟩ l w.berth
      image.card w.product w.cls w.riders w.charge w.image.balance w.version)).onLane l
        fun x => { x with txn := .none } := by
  rw [writeUncertain, if_pos orphan, unresolvedWrite, writeDraft, orphan]
  rfl

theorem writeFailed_of_live {image : CardImage} {w : CardWrite} (live : w.orphaned = false)
    (settled : (s.berth w.berth).Settled) : s.writeFailed l image w = ((s.record w.reservation
      (cardDraft .fail ⟨w.watch, false, false⟩ l w.berth image.card w.product w.cls w.riders 0 image.balance
        w.version)).withBerth w.berth ((s.berth w.berth).counted fun c => { c with held := c.held - w.riders })).onLane l
          fun x => Lane.askingShow { x with txn := .none } .cardRefused := by
  rw [writeFailed, if_neg (by simp [live]), release_eq settled, record_withBerth, endTransaction, askShow_eq,
    onLane_onLane, writeDraft, live]
  rfl

theorem writeUncertain_of_live {image : CardImage} {w : CardWrite} (live : w.orphaned = false) :
    s.writeUncertain l image w = (s.handOver l image.card w).onLane l
      fun x => Lane.askingShow { x with txn := .none } .cardRefused := by
  rw [writeUncertain, if_neg (by simp [live]), endTransaction, askShow_eq, onLane_onLane]
  rfl

end State

theorem Link.tag_acknowledge (k : Link) (c : Carried) : (k.acknowledge c).tag = k.tag := by
  unfold Link.acknowledge
  split
  · split
    · split_ifs <;> rfl
    · rfl
  · split
    · split_ifs <;> rfl
    · rfl
  · rfl

end Sys2Proof.Machine
end

section
/-! Write results that end without credits, and writes of unknown outcome (spec/05). -/

namespace Sys2Proof.Machine

variable {s : State} {t : Turn} {n : Byte} {image : CardImage} {w : CardWrite}

/-- The end of a write by its outcome (R86, R87, R88). -/
def State.writeEnds (u : State) (l : LaneId) (image : CardImage) (w : CardWrite) : WriteOutcome → State
  | .done => u.writeDone l image w
  | .failed => u.writeFailed l image w
  | .uncertain => u.writeUncertain l image w

/-- The lane of an answer keeps its transaction and its tag. -/
theorem State.takeWriteResult_of_match (writing : (s.lane t.lane).txn = .writing image w) (outcome : WriteOutcome) :
    (s.answeredAt t n).takeReport t.lane (.writeResult (s.lane t.lane).link.tag image.card outcome) =
      (s.answeredAt t n).writeEnds t.lane image w outcome := by
  have kept : ((s.answeredAt t n).lane t.lane).txn = .writing image w := by rw [State.lane_answeredAt]; exact writing
  have tag : ((s.answeredAt t n).lane t.lane).link.tag = (s.lane t.lane).link.tag := by
    rw [State.lane_answeredAt]
    exact Link.tag_acknowledge _ _
  rw [State.takeReport, State.takeWriteResult, kept]
  simp only [tag, and_self, if_true]
  cases outcome <;> rfl

theorem State.takeWriteResult_of_mismatch {tag : Byte} {card : CardNo} (outcome : WriteOutcome)
    (mismatch : ∀ image w, (s.lane t.lane).txn = .writing image w → tag ≠ (s.lane t.lane).link.tag ∨ card ≠ image.card) :
    (s.answeredAt t n).takeReport t.lane (.writeResult tag card outcome) = s.answeredAt t n := by
  have kept : ((s.answeredAt t n).lane t.lane).txn = (s.lane t.lane).txn := by rw [State.lane_answeredAt]; rfl
  have same : ((s.answeredAt t n).lane t.lane).link.tag = (s.lane t.lane).link.tag := by
    rw [State.lane_answeredAt]
    exact Link.tag_acknowledge _ _
  rw [State.takeReport, State.takeWriteResult]
  split
  · next image w writing =>
    rw [if_neg]
    rintro ⟨tagged, carded⟩
    rcases mismatch image w (kept.symm.trans writing) with other | other
    · exact other (tagged.trans same)
    · exact other carded
  · rfl

theorem exec_answer_failed (rest : s.atRest) (sound : s.placesSound) (turning : s.turn = some t)
    (stayed : t.absented = false) (writing : (s.lane t.lane).txn = .writing image w) (live : w.orphaned = false)
    {bytes : List Byte}
    (good : answerReport t.lane bytes = some (n, .writeResult (s.lane t.lane).link.tag image.card .failed))
    (fresh : (s.lane t.lane).link.acked ≠ some n) : exec (.answer bytes) s = .next (
      let r := s.record w.reservation (cardDraft .fail ⟨w.watch, false, false⟩ t.lane w.berth image.card w.product
        w.cls w.riders 0 image.balance w.version)
      State.noticed s.flags { (r.withLane t.lane (Lane.showing
          { (s.lane t.lane).answeredBy t.carried n with txn := .none } .cardRefused)).withBerth w.berth
        ((s.berth w.berth).counted fun c => { c with held := c.held - w.riders }) with turn := none }) := by
  obtain ⟨mode, online, -, -, -, -, -, -⟩ := sound.of_writing writing live
  have present : (s.lane t.lane).mode ≠ .absent := by rw [mode]; nofun
  rw [exec_answer_of_new turning stayed present online good (by nofun) fresh, State.takeWriteResult_of_match writing]
  dsimp only [State.writeEnds]
  have taken : (s.answeredAt t n).writeFailed t.lane image w = State.withLane
      { (s.record w.reservation (cardDraft .fail ⟨w.watch, false, false⟩ t.lane w.berth image.card w.product
        w.cls w.riders 0 image.balance w.version)).withBerth w.berth
          ((s.berth w.berth).counted fun c => { c with held := c.held - w.riders }) with turn := none } t.lane
        (Lane.showing { (s.lane t.lane).answeredBy t.carried n with txn := .none } .cardRefused) := by
    rw [State.writeFailed_of_live (s := s.answeredAt t n) live (sound.settled w.berth), State.answeredAt, State.record_onLane,
      State.withBerth_onLane, State.onLane_onLane, State.record_eq, State.record_eq]
    exact State.onLane_eq_of_lane (Lane.askingShow_of_online
      (x := { (s.lane t.lane).answeredBy t.carried n with txn := .none }) online present _)
  exact congrArg _ (State.endEvent_withLane taken rest (State.record_engine ..) (State.record_active ..)
    (State.record_request ..) (State.record_lanes ..) (by nofun) _)

/-- The one record of an orphaned write that ends (R87, R88, R90). -/
def CardWrite.orphanDraft (w : CardWrite) (l : LaneId) (image : CardImage) : WriteOutcome → Draft
  | .done => cardDraft (if w.retry then .recoveredRetry else .admission) ⟨w.watch, true, false⟩ l w.berth
      image.card w.product w.cls w.riders w.charge w.image.balance w.version
  | .failed => cardDraft .fail ⟨w.watch, true, false⟩ l w.berth image.card w.product w.cls w.riders 0
      image.balance w.version
  | .uncertain => cardDraft .unresolved ⟨w.watch, true, false⟩ l w.berth image.card w.product w.cls w.riders
      w.charge w.image.balance w.version

theorem exec_answer_of_orphan (rest : s.atRest) (turning : s.turn = some t)
    (stayed : t.absented = false) (present : (s.lane t.lane).mode ≠ .absent) (online : (s.lane t.lane).status = .online)
    (writing : (s.lane t.lane).txn = .writing image w) (orphan : w.orphaned = true) (outcome : WriteOutcome)
    {bytes : List Byte}
    (good : answerReport t.lane bytes = some (n, .writeResult (s.lane t.lane).link.tag image.card outcome))
    (fresh : (s.lane t.lane).link.acked ≠ some n) : exec (.answer bytes) s = .next (
      let r := s.record w.reservation (w.orphanDraft t.lane image outcome)
      State.noticed s.flags { r.withLane t.lane
        { (s.lane t.lane).answeredBy t.carried n with txn := .none } with turn := none }) := by
  rw [exec_answer_of_new turning stayed present online good (by nofun) fresh, State.takeWriteResult_of_match writing]
  have ended (d : Draft) : (((s.answeredAt t n).record w.reservation d).onLane t.lane fun x =>
      { x with txn := .none }).endEvent s.flags = State.noticed s.flags { (s.record w.reservation d).withLane t.lane
        { (s.lane t.lane).answeredBy t.carried n with txn := .none } with turn := none } := by
    have taken : (((s.answeredAt t n).record w.reservation d).onLane t.lane fun x => { x with txn := .none }) =
        State.withLane { s.record w.reservation d with turn := none } t.lane
          { (s.lane t.lane).answeredBy t.carried n with txn := .none } := by
      rw [State.answeredAt, State.record_onLane, State.onLane_onLane, State.record_eq, State.record_eq]
      rfl
    exact State.endEvent_withLane taken rest (State.record_engine ..) (State.record_active ..)
      (State.record_request ..) (State.record_lanes ..) (by nofun) _
  cases outcome with
  | done => exact congrArg _ ((congrArg (State.endEvent · _) (State.writeDone_of_orphan orphan)).trans (ended _))
  | failed => exact congrArg _ ((congrArg (State.endEvent · _) (State.writeFailed_of_orphan orphan)).trans (ended _))
  | uncertain => exact congrArg _ ((congrArg (State.endEvent · _) (State.writeUncertain_of_orphan orphan)).trans (ended _))

end Sys2Proof.Machine
open Sys2Proof Sys2Proof.Machine

/-- Settles O22. -/
theorem writesThatEndWithoutCredits : Obligations.WritesThatEndWithoutCredits := by
  refine ⟨fun s rest sound t turning stayed image w writing live bytes n good fresh =>
      exec_answer_failed rest sound turning stayed writing live good fresh,
    fun s rest t turning stayed present online image w writing orphan outcome bytes n good fresh =>
      (exec_answer_of_orphan rest turning stayed present online writing orphan outcome good fresh).trans
        (by cases outcome <;> rfl),
    fun s rest t turning stayed present online tag card outcome bytes n good fresh mismatch => ?_⟩
  rw [exec_answer_of_new turning stayed present online good (by nofun) fresh,
    State.takeWriteResult_of_mismatch outcome mismatch, endEvent_answeredAt rest]
end

section
/-! Writes of unknown outcome, and the entries that close for them (spec/05, R88 to R96). -/

namespace Sys2Proof.Machine

variable {s : State} {t : Turn} {n : Byte} {l : LaneId} {image : CardImage} {w : CardWrite}

theorem exec_writeTimerExpiry (writing : (s.lane l).txn = .writing image w) :
    exec (.writeTimerExpiry l) s = .next (State.noticed s.flags (s.writeUncertain l image w)) := by
  show Host.Outcome.next (match (s.lane l).txn with | .writing image w => _ | _ => _) = _
  rw [writing, ← State.notify_eq_noticed]

theorem exec_writeTimerExpiry_of_none (idle : ∀ image w, (s.lane l).txn ≠ .writing image w) :
    exec (.writeTimerExpiry l) s = .next s := by
  show Host.Outcome.next (match (s.lane l).txn with | .writing image w => _ | _ => _) = _
  split
  · next image w writing => exact absurd writing (idle image w)
  · rfl

/-- What a write of unknown outcome leaves, at an ONLINE lane and with the list as `listed` (R88). -/
theorem State.writeUncertain_eq {u : State} {recovery : List RecoveryEntry} (live : w.orphaned = false)
    (handed : s.handOver l image.card w = { u with recovery := recovery }) (lanes : u.lanes = s.lanes)
    (online : (s.lane l).status = .online) (present : (s.lane l).mode ≠ .absent) : s.writeUncertain l image w =
      { u.withLane l (Lane.showing { s.lane l with txn := .none } .cardRefused) with recovery := recovery } := by
  have lane : u.lane l = s.lane l := State.lane_congr lanes l
  rw [State.writeUncertain_of_live live, handed]
  refine (State.onLane_eq_of_lane (Lane.askingShow_of_online
    (x := { u.lane l with txn := .none }) (by rw [lane]; exact online) (by rw [lane]; exact present) _)).trans ?_
  rw [lane]
  rfl

theorem State.unresolved_answeredAt (s : State) (t : Turn) (n : Byte) (e : RecoveryEntry) :
    (s.answeredAt t n).unresolved e =
      { (s.unresolved e).withLane t.lane ((s.lane t.lane).answeredBy t.carried n) with turn := none } := by
  rw [State.answeredAt, State.unresolved_onLane, State.unresolved, State.unresolved, State.record_eq, State.record_eq]
  rfl

/-- The same by a report, on the lane as the answer leaves it (R88). -/
theorem exec_answer_uncertain {u : State} {recovery : List RecoveryEntry} (rest : s.atRest) (turning : s.turn = some t)
    (stayed : t.absented = false) (present : (s.lane t.lane).mode ≠ .absent) (online : (s.lane t.lane).status = .online)
    (writing : (s.lane t.lane).txn = .writing image w) (live : w.orphaned = false) {bytes : List Byte}
    (good : answerReport t.lane bytes = some (n, .writeResult (s.lane t.lane).link.tag image.card .uncertain))
    (fresh : (s.lane t.lane).link.acked ≠ some n)
    (handed : (s.answeredAt t n).handOver t.lane image.card w =
      { u.withLane t.lane ((s.lane t.lane).answeredBy t.carried n) with turn := none, recovery := recovery })
    (engine : u.engine = s.engine) (active : u.active = s.active) (request : u.request = s.request)
    (lanes : u.lanes = s.lanes) :
    exec (.answer bytes) s = .next (State.noticed s.flags { u.withLane t.lane (Lane.showing
        { (s.lane t.lane).answeredBy t.carried n with txn := .none } .cardRefused) with
      turn := none, recovery := recovery }) := by
  rw [exec_answer_of_new turning stayed present online good (by nofun) fresh, State.takeWriteResult_of_match writing,
    State.writeEnds]
  have taken : (s.answeredAt t n).writeUncertain t.lane image w =
      State.withLane { u with turn := none, recovery := recovery } t.lane (Lane.showing
        { (s.lane t.lane).answeredBy t.carried n with txn := .none } .cardRefused) := by
    rw [State.writeUncertain_of_live live, handed]
    have shown := Lane.askingShow_of_online (x := { (s.lane t.lane).answeredBy t.carried n with txn := .none })
      online present .cardRefused
    refine (State.onLane_eq_of_lane (x := Lane.showing
      { (s.lane t.lane).answeredBy t.carried n with txn := .none } .cardRefused) ?_).trans ?_
    · show Lane.askingShow { (u.withLane t.lane _).lane t.lane with txn := .none } _ = _
      rw [State.lane_withLane, shown]
    · exact State.withLane_withLane { u with turn := none, recovery := recovery } _ _ _
  exact congrArg _ (State.endEvent_withLane taken rest engine active request lanes (by nofun) _)

end Sys2Proof.Machine
open Sys2Proof Sys2Proof.Machine

/-- Settles O23. -/
theorem anUncertainWriteBecomesAnEntry : Obligations.AnUncertainWriteBecomesAnEntry := by
  refine ⟨fun s rest t turning stayed present online image w writing live fresh_card room bytes n good fresh => ?_,
    fun s l image w writing live present online fresh_card room => ?_, fun s l image w writing orphan => ?_,
    fun s l idle => exec_writeTimerExpiry_of_none idle⟩
  · rw [exec_answer_uncertain (u := s) rest turning stayed present online writing live good fresh
      (State.handOver_of_room (s := s.answeredAt t n) fresh_card room _ _) rfl rfl rfl rfl]
    exact congrArg _ (State.noticed_of_flags rfl)
  · rw [exec_writeTimerExpiry writing, State.writeUncertain_eq (u := s) live (State.handOver_of_room fresh_card room _ _) rfl
      online present]
    exact congrArg _ (State.noticed_of_flags rfl)
  · rw [exec_writeTimerExpiry writing, State.writeUncertain_of_orphan orphan]
    exact congrArg (Host.Outcome.next ∘ State.noticed s.flags) (State.onLane_eq_of_lane (by rw [State.lane_record]))

/-- Settles O24. -/
theorem entriesAreClosedAtExpiryReplacementAndEviction :
    Obligations.EntriesAreClosedAtExpiryReplacementAndEviction := by
  refine ⟨fun s sound e listed => ?_, fun s card unlisted => ?_,
    fun s sound l image w writing live e listed closes => ?_,
    fun s rest sound t turning stayed image w writing live e listed closes bytes n good fresh => ?_⟩
  · obtain ⟨-, -, -, -, distinct, -⟩ := id sound
    have found : s.entryFor e.card = some e := State.find?_card distinct listed
    show Host.Outcome.next (match s.entryFor e.card with | some e => _ | none => _) = _
    rw [found, ← State.closeEntry_eq distinct (sound.settled e.berth), ← State.notify_eq_noticed]
  · have absent : s.entryFor card = none := List.find?_eq_none.mpr fun e listed => by simpa using unlisted e listed
    show Host.Outcome.next (match s.entryFor card with | some e => _ | none => _) = _
    rw [absent]
  · obtain ⟨mode, online, -⟩ := sound.of_writing writing live
    obtain ⟨-, -, -, few, distinct, -⟩ := id sound
    rw [exec_writeTimerExpiry writing, State.writeUncertain_eq (u := s.unresolved e) live
      (State.handOver_of_closing few distinct sound.settled (State.closingFor_of_mem distinct listed closes) _ _)
      (State.record_lanes ..) online (by rw [mode]; nofun)]
  · obtain ⟨mode, online, -⟩ := sound.of_writing writing live
    obtain ⟨-, -, -, few, distinct, -⟩ := id sound
    have handed := State.handOver_of_closing (s := s.answeredAt t n) few distinct sound.settled
      (State.closingFor_of_mem distinct listed closes) t.lane w
    rw [State.unresolved_answeredAt] at handed
    exact exec_answer_uncertain (u := s.unresolved e) rest turning stayed (by rw [mode]; nofun) online writing live good
      fresh handed (State.record_engine ..) (State.record_active ..) (State.record_request ..) (State.record_lanes ..)
end

section
/-! Confirmed writes and the credits they grant (spec/02, R25, R86). -/

namespace Sys2Proof.Machine

/-- An admission counted at its lane (R25). -/
def Lane.countAdmission (x : Lane) : Lane :=
  { x with counters := { x.counters with admissions := min 65535 (x.counters.admissions + 1) } }

/-- A lane outside release when `n` riders have become credits there: the leaf OPEN, the hold timer loaded, the gate
counting them, GO shown and a GATE asked for; `carried` says whether the turn in progress carries its command slot (R25). -/
def Lane.granted (n holdTime : Nat) (carried : Bool) (x : Lane) : Lane := Lane.showing { x.countAdmission with
  leaf := .opened (x.credits + n)
  gateOrder := .opened (x.credits + n)
  holdTimer := some holdTime
  link := x.link.placeGate carried } .go

/-- The display slot is no matter of a GATE. -/
theorem Link.placeGate_showing (k : Link) (carried : Bool) (d : Option DisplaySlot) :
    ({ k with display := d }).placeGate carried = { k.placeGate carried with display := d } := by
  obtain ⟨command, waiting, display, misses, tag, acked⟩ := k
  unfold Link.placeGate
  cases command with
  | some c =>
    obtain ⟨frame, sent, stale⟩ := c
    cases frame with
    | gate => cases carried <;> cases sent <;> rfl
    | cardWrite => rfl
  | none => rcases waiting with _ | _ | _ <;> rfl

namespace State

variable {s : State} {l : LaneId} {b : BerthId} {n : Nat}

/-- Credits granted at a lane whose leaf is not FAULT (R25). -/
theorem grantCredits_of_sound (leaf : (s.lane l).leaf ≠ .fault) (outside : s.releaseActive = false)
    (order : (s.lane l).gateOrder = wantedGateOrder false (.entry b) (s.lane l).leaf)
    (mode : (s.lane l).mode = .entry b) (online : (s.lane l).status = .online) (some_rider : 1 ≤ n) :
    s.grantCredits l n = s.onLane l (.granted n s.settings.holdTime (s.carriedBy l)) := by
  have opens : s.grantCredits l n = (((s.onLane l .countAdmission).onLane l fun x => { x with
      leaf := .opened ((s.lane l).credits + n), holdTimer := some s.settings.holdTime }).askShow l .go).reworkGate l := by
    unfold grantCredits Lane.credits
    cases leaf_is : (s.lane l).leaf with
    | fault => exact absurd leaf_is leaf
    | _ => rfl
  have present : (s.lane l).mode ≠ .absent := by rw [mode]; nofun
  have differ : wantedGateOrder false (s.lane l).mode (.opened ((s.lane l).credits + n)) ≠ (s.lane l).gateOrder := by
    rw [mode, order, Lane.credits, wantedGateOrder_entry, wantedGateOrder_entry]
    cases leaf_is : (s.lane l).leaf with
    | fault => nofun
    | shut => nofun
    | opened c =>
      intro same
      injection same with counts
      exact absurd counts (show c + n ≠ c by omega)
  rw [opens, askShow_eq, reworkGate_eq, onLane_onLane, onLane_onLane, onLane_onLane]
  simp only [onLane_releaseActive, carriedBy_onLane, outside]
  refine onLane_congr ?_
  simp only [Function.comp]
  rw [Lane.askingShow_of_online (by exact online) (by exact present),
    Lane.reworked_of_ne (by exact online) (by exact present) (by exact differ)]
  simp only [Lane.granted, Lane.showing, Link.placeGate_showing, Lane.countAdmission]
  rw [mode]
  rfl

/-- Credits granted at a faulted leaf are forfeited at once (R25, R27). -/
theorem grantCredits_of_fault (leaf : (s.lane l).leaf = .fault) (mode : (s.lane l).mode = .entry b)
    (settled : (s.berth b).Settled) (moored : (s.berth b).state ≠ .alongside) : s.grantCredits l n =
      ((s.withBerth b ((s.berth b).counted (.forfeit n))).record false (forfeitRecord l b n false)).onLane l
        fun x => x.countAdmission.countForfeit n := by
  have forfeits : s.grantCredits l n = (s.onLane l .countAdmission).forfeit l n false := by
    unfold grantCredits
    rw [leaf]
    rfl
  rw [forfeits, forfeit_eq (b := b) (by rw [lane_onLane_self]; exact mode) (by exact settled) (by exact moored),
    berth_onLane, withBerth_onLane, record_onLane, onLane_onLane]
  rfl

end State
end Sys2Proof.Machine
end

section
/-! The event of a confirmed write (spec/05, R86). -/

namespace Sys2Proof.Machine

theorem State.withBerth_withBerth (s : State) (b : BerthId) (x y : Berth) :
    (s.withBerth b x).withBerth b y = s.withBerth b y := by
  simp [State.withBerth]

@[simp] theorem State.berth_withBerth (s : State) (b : BerthId) (x : Berth) : (s.withBerth b x).berth b = x := by
  simp [State.withBerth, State.berth]

/-- The draft of a confirmed write that is not orphaned (R86). -/
def CardWrite.confirmedDraft (w : CardWrite) (l : LaneId) (image : CardImage) : Draft :=
  cardDraft (if w.retry then .recoveredRetry else .admission) ⟨w.watch, false, false⟩ l w.berth image.card w.product
    w.cls w.riders w.charge w.image.balance w.version

variable {s : State} {l : LaneId} {image : CardImage} {w : CardWrite}

/-- What a confirmed write leaves before its credits are granted: the places converted, the record, and the transaction
ended (R86). -/
theorem State.writeDone_of_live (live : w.orphaned = false) (settled : (s.berth w.berth).Settled)
    (sailing : (s.berth w.berth).state ≠ .idle) (moored : (s.berth w.berth).state ≠ .alongside)
    (held : w.riders ≤ (s.berth w.berth).counts.held) : s.writeDone l image w = State.grantCredits
      (((s.record w.reservation (w.confirmedDraft l image)).withBerth w.berth
        ((s.berth w.berth).converted s.settings.quietUnit w.riders w.charge)).onLane l fun x => { x with txn := .none })
      l w.riders := by
  rw [writeDone, if_neg (by simp [live]), convert_eq settled sailing moored held, record_withBerth, writeDraft, live]
  rfl

variable {t : Turn} {n : Byte}

theorem State.record_turn_none (reserved : Bool) (d : Draft) :
    State.record { s with turn := none } reserved d = { s.record reserved d with turn := none } := by
  rw [State.record_eq, State.record_eq]

/-- The answer of a confirmed write, before its credits are granted. -/
theorem State.writeDone_answeredAt (sound : s.placesSound) (writing : (s.lane t.lane).txn = .writing image w)
    (live : w.orphaned = false) : (s.answeredAt t n).writeDone t.lane image w = State.grantCredits
      (State.withLane { (s.record w.reservation (w.confirmedDraft t.lane image)).withBerth w.berth
        ((s.berth w.berth).converted s.settings.quietUnit w.riders w.charge) with turn := none } t.lane
          { (s.lane t.lane).answeredBy t.carried n with txn := .none }) t.lane w.riders := by
  obtain ⟨-, -, -, -, -, held, sailing, moored⟩ := sound.of_writing writing live
  rw [State.writeDone_of_live (s := s.answeredAt t n) live (sound.settled w.berth) sailing moored held,
    State.answeredAt, State.record_onLane, State.withBerth_onLane, State.onLane_onLane, State.record_turn_none]
  refine congrArg (State.grantCredits · t.lane w.riders) (State.onLane_eq_of_lane ?_)
  have lane : State.lane { (s.record w.reservation (w.confirmedDraft t.lane image)).withBerth w.berth
      ((s.berth w.berth).converted s.settings.quietUnit w.riders w.charge) with turn := none } t.lane = s.lane t.lane :=
    State.lane_record ..
  exact congrArg (fun x : Lane => { x.answeredBy t.carried n with txn := .none }) lane

end Sys2Proof.Machine
open Sys2Proof Sys2Proof.Machine

/-- Settles O21. -/
theorem aConfirmedWriteGrantsItsCredits : Obligations.AConfirmedWriteGrantsItsCredits := by
  intro s rest sound gates t turning stayed image w writing live bytes n good fresh
  obtain ⟨mode, online, outside, some_rider, -, held, sailing, moored⟩ := sound.of_writing writing live
  have present : (s.lane t.lane).mode ≠ .absent := by rw [mode]; nofun
  rw [exec_answer_of_new turning stayed present online good (by nofun) fresh, State.takeWriteResult_of_match writing,
    State.writeEnds]
  rw [State.writeDone_answeredAt sound writing live]
  set u : State := State.withLane { (s.record w.reservation (w.confirmedDraft t.lane image)).withBerth w.berth
        ((s.berth w.berth).converted s.settings.quietUnit w.riders w.charge) with turn := none } t.lane
          { (s.lane t.lane).answeredBy t.carried n with txn := .none } with ended
  have lane : u.lane t.lane = { (s.lane t.lane).answeredBy t.carried n with txn := .none } := State.lane_withLane ..
  congr 1
  by_cases fault : (s.lane t.lane).leaf = .fault
  · rw [if_pos (by exact fault)]
    set r := s.record w.reservation (w.confirmedDraft t.lane image) with recorded
    set c := (s.berth w.berth).converted s.settings.quietUnit w.riders w.charge with converted
    have berth : u.berth w.berth = c := State.berth_withBerth ..
    have forfeited := State.grantCredits_of_fault (s := u) (l := t.lane) (b := w.berth) (n := w.riders)
      (by rw [lane]; exact fault) (by rw [lane]; exact mode)
      (by rw [berth]; exact (sound.settled w.berth).converted held _ _)
      (by rw [berth, converted, Berth.state_converted]; exact moored)
    have taken : u.grantCredits t.lane w.riders = State.withLane
        { (r.record false (forfeitRecord t.lane w.berth w.riders false)).withBerth w.berth
          (c.counted (.forfeit w.riders)) with turn := none } t.lane
        (Lane.countForfeit w.riders (Lane.countAdmission
          { (s.lane t.lane).answeredBy t.carried n with txn := .none })) := by
      have twice : State.withBerth { r.withBerth w.berth c with turn := none } w.berth (c.counted (.forfeit w.riders)) =
          { r.withBerth w.berth (c.counted (.forfeit w.riders)) with turn := none } :=
        congrArg (fun v : State => { v with turn := none }) (State.withBerth_withBerth ..)
      rw [forfeited, berth, ended, State.withLane_eq_onLane, State.withBerth_onLane, State.record_onLane,
        State.onLane_onLane, twice, State.record_turn_none, State.record_withBerth]
      rfl
    exact State.endEvent_withLane taken rest ((State.record_engine ..).trans (State.record_engine ..))
      ((State.record_active ..).trans (State.record_active ..)) ((State.record_request ..).trans (State.record_request ..))
      ((State.record_lanes ..).trans (State.record_lanes ..)) (by nofun) _
  · rw [if_neg (by exact fault)]
    have release : u.releaseActive = false := (State.record_releaseActive ..).trans outside
    have granted := State.grantCredits_of_sound (s := u) (l := t.lane) (b := w.berth) (n := w.riders)
      (by rw [lane]; exact fault) release
      (by rw [lane]; exact (gates t.lane).trans (by rw [State.wantedOrder, outside, mode]; rfl))
      (by rw [lane]; exact mode) (by rw [lane]; exact online) some_rider
    have taken : u.grantCredits t.lane w.riders = State.withLane
        { (s.record w.reservation (w.confirmedDraft t.lane image)).withBerth w.berth
          ((s.berth w.berth).converted s.settings.quietUnit w.riders w.charge) with turn := none } t.lane
        (Lane.granted w.riders s.settings.holdTime false
          { (s.lane t.lane).answeredBy t.carried n with txn := .none }) := by
      have time : u.settings.holdTime = s.settings.holdTime :=
        congrArg Settings.holdTime (State.record_settings s w.reservation _)
      have uncarried : u.carriedBy t.lane = false := rfl
      rw [granted, State.onLane_eq_of_lane (congrArg _ lane), time, uncarried, ended, State.withLane_withLane]
    exact State.endEvent_withLane taken rest (State.record_engine ..) (State.record_active ..)
      (State.record_request ..) (State.record_lanes ..) (by nofun) _
end

section
/-! Passages one after another (spec/02, R28 to R30, R34). -/

namespace Sys2Proof.Machine

/-! ### Counts raised one after another -/

theorem raised_succ (top n k : Nat) : min top (raised top n k + 1) = raised top n (k + 1) := by
  rw [raised, raised, if_neg k.succ_ne_zero]
  split_ifs <;> omega

/-- A berth whose counts change twice. -/
theorem Berth.counted_counted (b : Berth) (f g : Counts → Counts) : (b.counted f).counted g = b.counted (g ∘ f) := by
  unfold Berth.counted
  by_cases idle : b.state = .idle
  · simp [idle]
  · have sailing : (Berth.follow { b with counts := f b.counts }).state ≠ .idle := by
      unfold Berth.follow
      split_ifs <;> simp [idle]
    rw [if_neg idle, if_neg idle, if_neg sailing]
    have counts : (Berth.follow { b with counts := f b.counts }).counts = f b.counts := Berth.counts_follow _
    have again (x : BerthState) (boards : b.state.takesPassengers = true) (boards' : x.takesPassengers = true)
        (c : Counts) : Berth.follow { b with state := x, counts := c } = Berth.follow { b with counts := c } := by
      simp only [Berth.follow, boards, boards', if_true]
      rfl
    rw [counts]
    by_cases boards : b.state.takesPassengers = true
    · simp only [Berth.follow.eq_1 { b with counts := f b.counts }, boards, if_true]
      exact again _ boards (by split_ifs <;> rfl) _
    · have same : Berth.follow { b with counts := f b.counts } = { b with counts := f b.counts } := if_neg boards
      rw [same]
      rfl

theorem Berth.Settled.counted_id {b : Berth} (settled : b.Settled) {f : Counts → Counts} (same : f b.counts = b.counts) :
    b.counted f = b := by
  unfold Berth.counted
  split_ifs
  · rfl
  · rw [same]
    exact settled

theorem Berth.counted_congr {b : Berth} {f g : Counts → Counts} (same : f b.counts = g b.counts) :
    b.counted f = b.counted g := by
  rw [Berth.counted, same, Berth.counted]

theorem Berth.counts_counted {b : Berth} (sailing : b.state ≠ .idle) (f : Counts → Counts) :
    (b.counted f).counts = f b.counts := by
  rw [Berth.counted, if_neg sailing, Berth.counts_follow]

/-! ### Passages at a berth -/

/-- Counts after `k` paid passages (R115). -/
def Counts.pass (k : Nat) (c : Counts) : Counts := { c with granted := c.granted - k, passed := c.passed + k }
/-- Counts after `k` unpaid passages (R116). -/
def Counts.unpay (k : Nat) (c : Counts) : Counts := { c with unpaid := raised 65535 c.unpaid k }
/-- Counts after `k` reverse passages (R115, R116). -/
def Counts.back (k : Nat) (c : Counts) : Counts := { c with passed := c.passed - k, reverse := raised 65535 c.reverse k }

/-- A lane after `k` of its `c` credits have been used (R29). -/
def Lane.used (c holdTime k : Nat) (x : Lane) : Lane :=
  if k = 0 then x else { x with
    leaf := if c - k = 0 then .shut else .opened (c - k)
    holdTimer := if c - k = 0 then none else some holdTime }

theorem Lane.credits_used {x : Lane} {c : Nat} (credits : x.credits = c) (holdTime k : Nat) :
    (x.used c holdTime k).credits = c - k := by
  unfold Lane.used
  split_ifs with none_used gone
  · rw [credits, none_used]; rfl
  · exact gone.symm
  · rfl

theorem Lane.mode_used (x : Lane) (c holdTime k : Nat) : (x.used c holdTime k).mode = x.mode := by
  unfold Lane.used
  split_ifs <;> rfl

theorem Lane.useCredit_used {x : Lane} {c k : Nat} (credits : x.credits = c) (enough : k + 1 ≤ c) (holdTime : Nat) :
    (x.used c holdTime k).useCredit holdTime = x.used c holdTime (k + 1) := by
  have left := Lane.credits_used credits holdTime k
  have last : c - k ≤ 1 ↔ c - (k + 1) = 0 := by omega
  rw [Lane.useCredit, left]
  simp only [last, Lane.used, Nat.succ_ne_zero, if_false, Nat.sub_sub]
  by_cases none_used : k = 0
  · simp only [none_used, if_true]
    split_ifs <;> rfl
  · simp only [none_used, if_false]
    split_ifs <;> rfl

/-- A lane after `k` unpaid passages have been counted (R29, R34). -/
def Lane.countUnpaid (k : Nat) (x : Lane) : Lane :=
  { x with counters := { x.counters with unpaid := raised 65535 x.counters.unpaid k } }

theorem Lane.countUnpaid_countUnpaid (x : Lane) (k : Nat) :
    (x.countUnpaid k).countUnpaid 1 = x.countUnpaid (k + 1) :=
  congrArg (fun n => { x with counters := { x.counters with unpaid := n } }) (raised_succ _ _ k)

theorem Berth.state_counted_of_boards {b : Berth} (boards : b.state.takesPassengers = true) (f : Counts → Counts) :
    (b.counted f).state = if (b.effective : Int) - ((f b.counts).taken : Nat) ≤ 0 then .full else .boarding := by
  have sailing : b.state ≠ .idle := fun idle => by simp [idle, BerthState.takesPassengers] at boards
  rw [Berth.counted, if_neg sailing, Berth.follow, if_pos boards]
  rfl

theorem Berth.state_counted_of_not_boards {b : Berth} (stays : b.state.takesPassengers = false) (f : Counts → Counts) :
    (b.counted f).state = b.state := by
  unfold Berth.counted
  split_ifs
  · rfl
  · rw [Berth.follow_of_not_takesPassengers (by exact stays)]

/-- The flags of `k` unpaid passages at an ENTRY lane of a berth (R29, R106). -/
def unpaidFlags (x : Berth) (k : Nat) : Half := (if k = 0 then 0 else 1#16) |||
  (if x.state = .boarding ∧ (x.counted (.unpay k)).state = .full then 0x10#16 else 0)

theorem unpaidFlags_zero {x : Berth} (settled : x.Settled) : unpaidFlags x 0 = 0 := by
  have same : x.counted (.unpay 0) = x := settled.counted_id rfl
  rw [unpaidFlags, same, if_pos rfl, if_neg (fun ⟨boarding, full⟩ => by rw [boarding] at full; nomatch full)]
  rfl

/-- Between the first unpaid passages of an event and the last, room never grows, so a berth fills once. -/
theorem full_of_unpay {x : Berth} (settled : x.Settled) (boards : x.state.takesPassengers = true) {k : Nat}
    (some_before : k ≠ 0) :
    ((x.counted (.unpay k)).state = .full → (x.counted (.unpay (k + 1))).state = .full) ∧
    ((x.counted (.unpay k)).state = .boarding → (x.counted (.unpay (k + 1))).state = .full → x.state = .boarding) := by
  have taken (j : Nat) : (x.counts.unpay j).taken = x.counts.committed + raised 65535 x.counts.unpaid j + x.counts.tallied :=
    rfl
  have before : raised 65535 x.counts.unpaid k = min 65535 (x.counts.unpaid + k) := if_neg some_before
  have after : raised 65535 x.counts.unpaid (k + 1) = min 65535 (x.counts.unpaid + (k + 1)) := if_neg k.succ_ne_zero
  rw [Berth.state_counted_of_boards boards, Berth.state_counted_of_boards boards, taken, taken, before, after]
  refine ⟨fun full => ?_, fun boarding full => ?_⟩
  · split_ifs at full with filled
    rw [if_pos (by omega)]
  · split_ifs at boarding with room
    split_ifs at full with filled
    rcases (BerthState.takesPassengers_iff _).mp boards with boarding | was_full
    · exact boarding
    · have none_left := settled.room_le was_full
      rw [Berth.room_eq, Counts.taken] at none_left
      omega

theorem unpaidFlags_succ {x : Berth} (settled : x.Settled) (k : Nat) : unpaidFlags x (k + 1) =
    unpaidFlags x k ||| (if (x.counted (.unpay k)).state = .boarding ∧ (x.counted (.unpay (k + 1))).state = .full
      then 0x10#16 else 0) ||| 1#16 := by
  by_cases first : k = 0
  · subst first
    rw [unpaidFlags_zero settled, show x.counted (.unpay 0) = x from settled.counted_id rfl, unpaidFlags,
      if_neg (Nat.succ_ne_zero 0)]
    split_ifs <;> decide
  unfold unpaidFlags
  rw [if_neg k.succ_ne_zero, if_neg first]
  by_cases boards : x.state.takesPassengers = true
  · obtain ⟨stays_full, was_boarding⟩ := full_of_unpay settled boards first
    have either : (x.counted (.unpay k)).state = .full ∨ (x.counted (.unpay k)).state = .boarding := by
      rw [Berth.state_counted_of_boards boards]
      split_ifs
      · exact .inl rfl
      · exact .inr rfl
    rcases either with full | boarding
    · simp only [full, stays_full full, and_true, reduceCtorEq, if_false]
      split_ifs <;> decide
    · by_cases fills : (x.counted (.unpay (k + 1))).state = .full
      · simp [fills, boarding, was_boarding boarding fills]
      · simp [fills, boarding]
  · have stays : x.state.takesPassengers = false := Bool.eq_false_of_not_eq_true boards
    have still (f : Counts → Counts) : (x.counted f).state ≠ .full := by
      rw [Berth.state_counted_of_not_boards stays]
      exact fun full => boards ((BerthState.takesPassengers_iff _).mpr (.inr full))
    simp only [still, and_false, if_false]
    decide

namespace State

variable {s : State} {b : BerthId} {l : LaneId}

theorem pass_eq (settled : (s.berth b).Settled) (granted : 1 ≤ (s.berth b).counts.granted) :
    s.pass b = s.withBerth b ((s.berth b).counted (.pass 1)) := by
  refine atBerth_count_of_lighter (f := .pass 1) settled ?_
  simp only [Counts.taken, Counts.committed, Counts.pass]
  omega

theorem reverse_eq (settled : (s.berth b).Settled) : s.reverse b = s.withBerth b ((s.berth b).counted (.back 1)) := by
  refine atBerth_count_of_lighter (f := .back 1) settled ?_
  simp only [Counts.taken, Counts.committed, Counts.back]
  omega

theorem unpaid_eq : s.unpaid b = { s.withBerth b ((s.berth b).counted (.unpay 1)) with
    flags := s.flags ||| (if (s.berth b).state = .boarding ∧ ((s.berth b).counted (.unpay 1)).state = .full
      then 0x10#16 else 0) } :=
  atBerth_count (.unpay 1)

/-- `k` OUT passages at an ENTRY lane (R30). -/
theorem iterate_passOutward (mode : (s.lane l).mode = .entry b) (settled : (s.berth b).Settled) (k : Nat) :
    (State.passOutward · l)^[k] s = s.withBerth b ((s.berth b).counted (.back k)) := by
  induction k with
  | zero =>
    rw [settled.counted_id (f := .back 0) rfl]
    simp [withBerth, berth]
  | succ k ih =>
    rw [Function.iterate_succ_apply', ih, passOutward, lane_withBerth, mode]
    dsimp only
    rw [reverse_eq (by rw [berth_withBerth]; exact settled.counted _), berth_withBerth, withBerth_withBerth,
      Berth.counted_counted]
    refine congrArg (s.withBerth b) (Berth.counted_congr ?_)
    simp only [Function.comp, Counts.back, Nat.sub_sub]
    congr 1
    exact raised_succ _ _ _

/-- `k` IN passages that use credits at an ENTRY lane with `c` of them (R29). -/
theorem iterate_passInward_paid {c k : Nat} (mode : (s.lane l).mode = .entry b) (credits : (s.lane l).credits = c)
    (settled : (s.berth b).Settled) (sailing : k ≠ 0 → (s.berth b).state ≠ .idle) (granted : k ≤ (s.berth b).counts.granted)
    (enough : k ≤ c) : (State.passInward · l)^[k] s =
      (s.withBerth b ((s.berth b).counted (.pass k))).onLane l (.used c s.settings.holdTime k) := by
  induction k with
  | zero =>
    rw [settled.counted_id (f := .pass 0) rfl, onLane_of_eq (f := .used c s.settings.holdTime 0) rfl]
    simp [withBerth, berth]
  | succ k ih =>
    have left := Lane.credits_used credits s.settings.holdTime k
    have here := (Lane.mode_used (s.lane l) c s.settings.holdTime k).trans mode
    rw [Function.iterate_succ_apply', ih (fun _ => sailing k.succ_ne_zero) (by omega) (by omega), passInward, lane_onLane_self, lane_withBerth, here]
    dsimp only
    rw [if_neg (by rw [left]; omega), onLane_onLane, pass_eq
      (by rw [berth_onLane, berth_withBerth]; exact settled.counted _)
      (by rw [berth_onLane, berth_withBerth, Berth.counts_counted (sailing k.succ_ne_zero)]; exact (show 1 ≤ _ - k by omega)),
      berth_onLane, berth_withBerth, withBerth_onLane, withBerth_withBerth, Berth.counted_counted]
    have counts : (s.berth b).counted (Counts.pass 1 ∘ Counts.pass k) = (s.berth b).counted (.pass (k + 1)) := rfl
    rw [counts]
    exact onLane_congr (Lane.useCredit_used credits enough _)

/-- The UNPAID record of an ENTRY lane (R29). -/
def recordUnpaid (l : LaneId) (b : BerthId) (u : State) : State := u.record false (unpaidDraft l b)

/-- A device with a berth, a lane and flags of its events so far. -/
def amid (u : State) (b : BerthId) (y : Berth) (m : Half) (l : LaneId) (f : Lane → Lane) : State :=
  ({ u.withBerth b y with flags := u.flags ||| m }).onLane l f

/-- One unpaid passage amid others (R29, R116). -/
theorem passInward_amid {u : State} {y : Berth} {m : Half} {f : Lane → Lane} (mode : (f (u.lane l)).mode = .entry b)
    (credits : (f (u.lane l)).credits = 0) : (u.amid b y m l f).passInward l =
      (recordUnpaid l b u).amid b (y.counted (.unpay 1))
        (m ||| (if y.state = .boarding ∧ (y.counted (.unpay 1)).state = .full then 0x10#16 else 0) ||| 1#16) l
        (.countUnpaid 1 ∘ f) := by
  have lane : (u.amid b y m l f).lane l = f (u.lane l) := lane_onLane_self ..
  have berth : (u.amid b y m l f).berth b = y := berth_withBerth u b y
  rw [passInward, lane, mode]
  dsimp only
  rw [if_pos credits, unpaid_eq, berth]
  generalize (if y.state = .boarding ∧ (y.counted (.unpay 1)).state = .full then 0x10#16 else 0) = fills
  have told : { (u.amid b y m l f).withBerth b (y.counted (.unpay 1)) with
      flags := (u.amid b y m l f).flags ||| fills } =
        u.amid b (y.counted (.unpay 1)) (m ||| fills) l f := by
    rw [amid, withBerth_onLane]
    have twice := congrArg (fun v : State => State.onLane { v with flags := u.flags ||| (m ||| fills) } l f)
      (withBerth_withBerth u b y (y.counted (.unpay 1)))
    refine Eq.trans ?_ twice
    rw [← BitVec.or_assoc]
    rfl
  have counted : (u.amid b (y.counted (.unpay 1)) (m ||| fills) l f).countUnpaid l =
      u.amid b (y.counted (.unpay 1)) (m ||| fills ||| 1#16) l (.countUnpaid 1 ∘ f) := by
    rw [amid, countUnpaid, onCounters, onLane_onLane, raise_onLane]
    exact congrArg (fun g => State.onLane { u.withBerth b (y.counted (.unpay 1)) with flags := g } l
      (.countUnpaid 1 ∘ f)) (BitVec.or_assoc u.flags (m ||| fills) 1#16)
  rw [told, counted, amid, record_onLane, amid, recordUnpaid, record_eq, record_eq]
  refine congrArg (fun g => State.onLane { u.withBerth b (y.counted (.unpay 1)) with
    journal := u.journal.recorded u.clock u.settings.journalBatch false (unpaidDraft l b), flags := g } l
      (.countUnpaid 1 ∘ f)) ?_
  show u.flags ||| _ ||| _ = u.flags ||| _ ||| _
  ac_rfl

/-- `k` IN passages at an ENTRY lane without credits (R29, R116). -/
theorem iterate_passInward_unpaid {k : Nat} (mode : (s.lane l).mode = .entry b)
    (credits : k ≠ 0 → (s.lane l).credits = 0) (settled : (s.berth b).Settled) : (State.passInward · l)^[k] s =
      ((recordUnpaid l b)^[k] s).amid b ((s.berth b).counted (.unpay k)) (unpaidFlags (s.berth b) k) l
        (.countUnpaid k) := by
  have kept (j : Nat) : ((recordUnpaid l b)^[j] s).lane l = s.lane l := by
    induction j with
    | zero => rfl
    | succ j ih => rw [Function.iterate_succ_apply', recordUnpaid, lane_record, ih]
  induction k with
  | zero =>
    rw [unpaidFlags_zero settled, settled.counted_id (f := .unpay 0) rfl, amid, onLane_of_eq (f := .countUnpaid 0) rfl]
    simp [withBerth, berth]
  | succ k ih =>
    rw [Function.iterate_succ_apply', ih fun _ => credits k.succ_ne_zero, passInward_amid (by rw [kept]; exact mode)
      (by rw [kept]; exact credits k.succ_ne_zero),
      Function.iterate_succ_apply', Berth.counted_counted]
    have counts : (s.berth b).counted (Counts.unpay 1 ∘ Counts.unpay k) = (s.berth b).counted (.unpay (k + 1)) :=
      Berth.counted_congr (congrArg (fun n => { (s.berth b).counts with unpaid := n }) (raised_succ _ _ k))
    rw [counts, ← unpaidFlags_succ settled]
    exact congrArg (State.amid _ _ _ _ _) (funext fun x => Lane.countUnpaid_countUnpaid x k)

end State
end Sys2Proof.Machine
end

section
/-! PASSAGE reports (spec/02, R28 to R30, R34). -/

namespace Sys2Proof.Machine

variable {s : State} {l : LaneId}

/-! ### Passages at EXIT and CLOSED lanes (R34) -/

/-- `k` unpaid passages counted at a lane and by `g` at the pier (R34). -/
theorem State.iterate_passInward_pier {g : PierCounts → PierCounts}
    (step : ∀ u : State, (u.lane l).mode = (s.lane l).mode → u.passInward l = ({ u with pier := g u.pier }).countUnpaid l)
    (k : Nat) : (State.passInward · l)^[k] s = State.onLane { s with
      pier := g^[k] s.pier, flags := if k = 0 then s.flags else s.flags ||| 1#16 } l (.countUnpaid k) := by
  induction k with
  | zero => exact (State.onLane_of_eq rfl).symm
  | succ k ih =>
    rw [Function.iterate_succ_apply', ih, step _ (by rw [State.lane_onLane_self]; rfl), State.countUnpaid, State.onCounters,
      if_neg k.succ_ne_zero, Function.iterate_succ_apply']
    have flags : (if k = 0 then s.flags else s.flags ||| 1#16) ||| 1#16 = s.flags ||| 1#16 := by
      split_ifs
      · rfl
      · rw [BitVec.or_assoc, BitVec.or_self]
    refine (congrArg (·.raise .unpaidPassage) (State.onLane_onLane { s with
      pier := g (g^[k] s.pier), flags := if k = 0 then s.flags else s.flags ||| 1#16 } l (.countUnpaid k)
        (.countUnpaid 1))).trans ?_
    rw [State.raise_onLane]
    exact (congrArg (State.onLane _ l) (funext fun x => Lane.countUnpaid_countUnpaid x k)).trans
      (congrArg (fun m => State.onLane { s with pier := g (g^[k] s.pier), flags := m } l (.countUnpaid (k + 1))) flags)

theorem PierCounts.iterate_wrongWay (p : PierCounts) (k : Nat) :
    (fun p : PierCounts => { p with wrongWay := saturate top32 p.wrongWay 1 })^[k] p =
      { p with wrongWay := raised 4294967295 p.wrongWay k } := by
  induction k with
  | zero => rfl
  | succ k ih =>
    rw [Function.iterate_succ_apply', ih]
    exact congrArg (fun n => { p with wrongWay := n }) (raised_succ _ _ k)

theorem PierCounts.iterate_unpaid (p : PierCounts) (k : Nat) :
    (fun p : PierCounts => { p with unpaid := saturate top32 p.unpaid 1 })^[k] p =
      { p with unpaid := raised 4294967295 p.unpaid k } := by
  induction k with
  | zero => rfl
  | succ k ih =>
    rw [Function.iterate_succ_apply', ih]
    exact congrArg (fun n => { p with unpaid := n }) (raised_succ _ _ k)

/-- `k` exits at an EXIT or a CLOSED lane (R34). -/
theorem State.iterate_passOutward_pier (mode : (s.lane l).mode = .exit ∨ (s.lane l).mode = .closed) (k : Nat) :
    (State.passOutward · l)^[k] s = { s with pier := { s.pier with exits := raised 4294967295 s.pier.exits k } } := by
  induction k with
  | zero => rfl
  | succ k ih =>
    rw [Function.iterate_succ_apply', ih, State.passOutward]
    have here : State.lane { s with pier := { s.pier with exits := raised 4294967295 s.pier.exits k } } l = s.lane l := rfl
    rw [here]
    have counts := congrArg (fun n => { s with pier := { s.pier with exits := n } }) (raised_succ 4294967295 s.pier.exits k)
    rcases mode with mode | mode
    all_goals
      rw [mode]
      exact counts

/-! ### The report -/

/-- A lane after the report of `i` IN and `o` OUT passages has been counted (R28). -/
def Lane.countPassages (i o : Nat) (x : Lane) : Lane :=
  { x with counters := { x.counters with
    inward := min 65535 (x.counters.inward + i), outward := min 65535 (x.counters.outward + o) } }

theorem State.takePassage_eq (i o : Nat) : s.takePassage l i o =
    if s.releaseActive then s.onLane l (.countPassages i o)
    else ((State.passOutward · l)^[o] ((State.passInward · l)^[i] (s.onLane l (.countPassages i o)))).reworkGate l := rfl

variable {t : Turn} {n : Byte}

/-- A PASSAGE report at a lane that counts at the pier, outside release (R34). -/
theorem answer_passage_of_pier (rest : s.atRest) (gates : s.gatesInOrder) (outside : s.releaseActive = false)
    (mode : (s.lane t.lane).mode = .exit ∨ (s.lane t.lane).mode = .closed) {g : PierCounts → PierCounts}
    (step : ∀ u : State, (u.lane t.lane).mode = (s.lane t.lane).mode →
      u.passInward t.lane = ({ u with pier := g u.pier }).countUnpaid t.lane) (i o : Nat) :
    ((s.answeredAt t n).takePassage t.lane i o).endEvent s.flags = State.noticed s.flags { s.withLane t.lane
      ((((s.lane t.lane).answeredBy t.carried n).countPassages i o).countUnpaid i) with
        turn := none
        pier := { g^[i] s.pier with exits := raised 4294967295 (g^[i] s.pier).exits o }
        flags := if i = 0 then s.flags else s.flags ||| 1#16 } := by
  set u : State := { s with
    turn := none
    pier := { g^[i] s.pier with exits := raised 4294967295 (g^[i] s.pier).exits o }
    flags := if i = 0 then s.flags else s.flags ||| 1#16 } with counted
  have taken : (s.answeredAt t n).takePassage t.lane i o = u.withLane t.lane
      ((((s.lane t.lane).answeredBy t.carried n).countPassages i o).countUnpaid i) := by
    have outside' : (s.answeredAt t n).releaseActive = false := outside
    have start : (s.answeredAt t n).onLane t.lane (.countPassages i o) = State.withLane { s with turn := none } t.lane
        (((s.lane t.lane).answeredBy t.carried n).countPassages i o) := by
      rw [State.answeredAt, State.onLane_onLane]
      rfl
    set y := ((s.lane t.lane).answeredBy t.carried n).countPassages i o with passed
    have lane : (State.withLane { s with turn := none } t.lane y).lane t.lane = y := State.lane_withLane ..
    have here : ((State.withLane { s with turn := none } t.lane y).lane t.lane).mode = .exit ∨
        ((State.withLane { s with turn := none } t.lane y).lane t.lane).mode = .closed := by rw [lane]; exact mode
    have same := Lane.reworked_of_same (x := y.countUnpaid i) (release := false)
      (by rw [show (y.countUnpaid i).gateOrder = s.wantedOrder t.lane from gates t.lane, State.wantedOrder, outside]; rfl) false
    have inward : (State.passInward · t.lane)^[i] (State.withLane { s with turn := none } t.lane y) = State.withLane
        { s with turn := none, pier := g^[i] s.pier, flags := if i = 0 then s.flags else s.flags ||| 1#16 } t.lane
        (y.countUnpaid i) :=
      (State.iterate_passInward_pier (g := g) (by rw [lane]; exact step) i).trans (State.onLane_onLane
        { s with turn := none, pier := g^[i] s.pier, flags := if i = 0 then s.flags else s.flags ||| 1#16 } t.lane
        (fun _ => y) (.countUnpaid i))
    rw [State.takePassage_eq, outside', if_neg (by decide), start, inward,
      State.iterate_passOutward_pier (by rw [State.lane_withLane]; exact mode), State.reworkGate_eq]
    refine (State.onLane_onLane u t.lane (fun _ => y.countUnpaid i) _).trans (State.onLane_eq_of_lane ?_)
    show (y.countUnpaid i).reworked s.releaseActive false = _
    rw [outside, same]
  exact State.endEvent_withLane taken rest rfl rfl rfl rfl id _

/-! ### Passages at ENTRY lanes -/

/-- The gate of a lane whose credits have been used (R19, R29). -/
theorem Lane.reworked_used {x : Lane} {b : BerthId} {c k : Nat} (holdTime : Nat) (mode : x.mode = .entry b)
    (online : x.status = .online) (order : x.gateOrder = wantedGateOrder false x.mode x.leaf)
    (credits : x.credits = c) (enough : k ≤ c) : (x.used c holdTime k).reworked false false =
      if k = 0 then x else { x with
        leaf := if c - k = 0 then .shut else .opened (c - k)
        holdTimer := if c - k = 0 then none else some holdTime
        gateOrder := if c - k = 0 then .shut else .opened (c - k)
        link := x.link.placeGate false } := by
  by_cases none_used : k = 0
  · rw [if_pos none_used, Lane.used, if_pos none_used]
    exact Lane.reworked_of_same order.symm _
  · rw [if_neg none_used, Lane.used, if_neg none_used]
    have opened : x.leaf = .opened c := credits ▸ Lane.leaf_of_credits (by rw [credits]; omega)
    have order' : x.gateOrder = .opened c := by rw [order, mode, opened]; rfl
    by_cases gone : c - k = 0
    · simp only [gone, if_true]
      exact Lane.reworked_of_opened (x := { x with leaf := .shut, holdTimer := none }) online mode order' (.inl rfl) _
    · simp only [gone, if_false]
      rw [Lane.reworked_of_ne (by exact online) (by rw [show _ = _ from mode]; nofun) ?_]
      · rw [mode]
        rfl
      · rw [show _ = _ from mode, show _ = _ from order']
        intro same
        injection same with counts
        omega

theorem State.recordUnpaid_onLane (b : BerthId) (m : LaneId) (f : Lane → Lane) (j : Nat) (u : State) :
    (State.recordUnpaid l b)^[j] (u.onLane m f) = ((State.recordUnpaid l b)^[j] u).onLane m f :=
  Function.Commute.iterate_left (f := State.recordUnpaid l b) (g := (·.onLane m f))
    (fun u => State.record_onLane u m f _ _) j u

theorem State.recordUnpaid_withBerth (b b' : BerthId) (x : Berth) (j : Nat) (u : State) :
    (State.recordUnpaid l b)^[j] (u.withBerth b' x) = ((State.recordUnpaid l b)^[j] u).withBerth b' x :=
  Function.Commute.iterate_left (f := State.recordUnpaid l b) (g := (·.withBerth b' x))
    (fun u => State.record_withBerth u b' x _ _) j u

theorem State.recordUnpaid_turn_none (b : BerthId) (j : Nat) (u : State) :
    (State.recordUnpaid l b)^[j] { u with turn := none } = { (State.recordUnpaid l b)^[j] u with turn := none } :=
  Function.Commute.iterate_left (f := State.recordUnpaid l b) (g := fun u => { u with turn := none })
    (fun _ => State.record_turn_none _ _) j u

/-- What UNPAID records leave alone. -/
theorem State.recordUnpaid_kept (b : BerthId) (j : Nat) (u : State) :
    ((State.recordUnpaid l b)^[j] u).engine = u.engine ∧ ((State.recordUnpaid l b)^[j] u).active = u.active ∧
      ((State.recordUnpaid l b)^[j] u).request = u.request ∧ ((State.recordUnpaid l b)^[j] u).lanes = u.lanes ∧
      ((State.recordUnpaid l b)^[j] u).releaseActive = u.releaseActive := by
  induction j with
  | zero => exact ⟨rfl, rfl, rfl, rfl, rfl⟩
  | succ j ih =>
    rw [Function.iterate_succ_apply', State.recordUnpaid]
    simpa using ih

/-- Passages that take no more places leave the state of a settled berth. -/
theorem Berth.Settled.state_counted {x : Berth} (settled : x.Settled) {f : Counts → Counts}
    (same : (f x.counts).taken = x.counts.taken) : (x.counted f).state = x.state := by
  by_cases boards : x.state.takesPassengers = true
  · rw [Berth.state_counted_of_boards boards, same, ← Berth.room_eq]
    rcases (BerthState.takesPassengers_iff _).mp boards with boarding | full
    · rw [if_neg (Int.not_le.mpr (settled.room_pos boarding)), boarding]
    · rw [if_pos (settled.room_le full), full]
  · exact Berth.state_counted_of_not_boards (Bool.eq_false_of_not_eq_true boards) f

/-- The berth of an ENTRY lane after `paid` and `unpaid` IN passages (R115, R116). -/
def Berth.entered (x : Berth) (paid unpaid : Nat) : Berth := x.counted fun c => { c with
  granted := c.granted - paid, passed := c.passed + paid, unpaid := raised 65535 c.unpaid unpaid }

namespace State

theorem amid_onLane (u : State) (b : BerthId) (x y : Berth) (m : Half) (f g : Lane → Lane) :
    ((u.withBerth b x).onLane l g).amid b y m l f = u.amid b y m l (f ∘ g) := by
  rw [amid, withBerth_onLane, withBerth_withBerth]
  exact onLane_onLane { u.withBerth b y with flags := u.flags ||| m } l g f

theorem berth_amid (u : State) (b : BerthId) (y : Berth) (m : Half) (f : Lane → Lane) :
    (u.amid b y m l f).berth b = y := berth_withBerth u b y

theorem withBerth_amid (u : State) (b : BerthId) (x y : Berth) (m : Half) (f : Lane → Lane) :
    (u.amid b x m l f).withBerth b y = u.amid b y m l f :=
  congrArg (fun v : State => State.onLane { v with flags := u.flags ||| m } l f) (withBerth_withBerth u b x y)

end State

/-- `paid` and then `unpaid` IN passages at an ENTRY lane, and `o` OUT passages (R29, R30). -/
theorem State.passages_at_entry {u : State} {b : BerthId} {c paid unpaid : Nat} (mode : (u.lane l).mode = .entry b)
    (credits : (u.lane l).credits = c) (settled : (u.berth b).Settled) (sailing : c ≠ 0 → (u.berth b).state ≠ .idle)
    (granted : paid ≤ (u.berth b).counts.granted) (enough : paid ≤ c) (spent : unpaid ≠ 0 → paid = c) (o : Nat) :
    (State.passOutward · l)^[o] ((State.passInward · l)^[unpaid] ((State.passInward · l)^[paid] u)) =
      ({ ((State.recordUnpaid l b)^[unpaid] u).withBerth b (((u.berth b).entered paid unpaid).counted (.back o)) with
        flags := ((State.recordUnpaid l b)^[unpaid] u).flags ||| ((if unpaid = 0 then 0 else 1#16) |||
          (if (u.berth b).state = BerthState.boarding ∧ ((u.berth b).entered paid unpaid).state = BerthState.full
            then 0x10#16 else 0)) }).onLane
            l (.countUnpaid unpaid ∘ .used c u.settings.holdTime paid) := by
  have inside : ((u.berth b).counted (.pass paid)).counted (.unpay unpaid) = (u.berth b).entered paid unpaid :=
    Berth.counted_counted ..
  have state : ((u.berth b).counted (.pass paid)).state = (u.berth b).state := by
    refine settled.state_counted ?_
    simp only [Counts.taken, Counts.committed, Counts.pass]
    omega
  rw [State.iterate_passInward_paid mode credits settled (fun used => sailing (by omega)) granted enough]
  set v := (u.withBerth b ((u.berth b).counted (.pass paid))).onLane l (.used c u.settings.holdTime paid) with entering
  have lane : v.lane l = (u.lane l).used c u.settings.holdTime paid := State.lane_onLane_self ..
  have berth : v.berth b = (u.berth b).counted (.pass paid) := State.berth_withBerth ..
  rw [State.iterate_passInward_unpaid (b := b) (by rw [lane, Lane.mode_used]; exact mode)
    (fun some_unpaid => by rw [lane, Lane.credits_used credits, spent some_unpaid, Nat.sub_self])
    (by rw [berth]; exact settled.counted _), berth, inside, entering, State.recordUnpaid_onLane,
    State.recordUnpaid_withBerth, State.amid_onLane]
  have kept := (State.recordUnpaid_kept (l := l) b unpaid u).2.2.2.1
  have mode' : (((State.recordUnpaid l b)^[unpaid] u).lane l).mode = .entry b := by
    rw [State.lane_congr kept]
    exact mode
  rw [State.iterate_passOutward (b := b)
    (by rw [State.amid, State.lane_onLane_self]; exact (Lane.mode_used ..).trans mode')
    (by rw [State.berth_amid]; exact settled.counted _), State.berth_amid, State.withBerth_amid, unpaidFlags, state, inside]
  rfl

/-- A PASSAGE report at an ENTRY lane outside release (R29, R30). -/
theorem answer_passage_of_entry (rest : s.atRest) (sound : s.placesSound) (gates : s.gatesInOrder)
    (outside : s.releaseActive = false) {b : BerthId} (mode : (s.lane t.lane).mode = .entry b)
    (online : (s.lane t.lane).status = .online) {i c paid unpaid : Nat} (o : Nat) (credits : (s.lane t.lane).credits = c)
    (paid_is : paid = min i c) (unpaid_is : unpaid = i - paid) :
    ((s.answeredAt t n).takePassage t.lane i o).endEvent s.flags = State.noticed s.flags
      { (((State.recordUnpaid t.lane b)^[unpaid] s).withLane t.lane
          (let y := (((s.lane t.lane).answeredBy t.carried n).countPassages i o).countUnpaid unpaid
          if paid = 0 then y else { y with
            leaf := if c - paid = 0 then .shut else .opened (c - paid)
            holdTimer := if c - paid = 0 then none else some s.settings.holdTime
            gateOrder := if c - paid = 0 then .shut else .opened (c - paid)
            link := y.link.placeGate false })).withBerth b (((s.berth b).entered paid unpaid).counted (.back o)) with
        turn := none
        flags := ((State.recordUnpaid t.lane b)^[unpaid] s).flags ||| ((if unpaid = 0 then 0 else 1#16) |||
          (if (s.berth b).state = BerthState.boarding ∧ ((s.berth b).entered paid unpaid).state = BerthState.full
            then 0x10#16 else 0)) } := by
  have berth : c ≠ 0 → c ≤ (s.berth b).counts.granted ∧ (s.berth b).state ≠ .idle := by
    intro some_credit
    have opened : (s.lane t.lane).leaf = .opened c := credits ▸ Lane.leaf_of_credits (by rw [credits]; exact some_credit)
    obtain ⟨-, -, -, -, -, b', mode', granted, sailing, -⟩ := sound.of_opened opened
    obtain rfl : b = b' := by simpa [mode] using mode'
    exact ⟨granted, sailing⟩
  set y := (((s.lane t.lane).answeredBy t.carried n).countPassages i o) with passed
  have lane : (State.withLane { s with turn := none } t.lane y).lane t.lane = y := State.lane_withLane ..
  have start : (s.answeredAt t n).onLane t.lane (.countPassages i o) = State.withLane { s with turn := none } t.lane y := by
    rw [State.answeredAt, State.onLane_onLane]
    rfl
  have passages := State.passages_at_entry (l := t.lane) (u := State.withLane { s with turn := none } t.lane y) (b := b)
    (c := c) (paid := paid) (unpaid := unpaid) (by rw [lane]; exact mode) (by rw [lane]; exact credits)
    (sound.settled b) (fun some_credit => (berth some_credit).2)
    (by
      by_cases none_left : c = 0
      · omega
      · exact le_trans (by omega) (berth none_left).1)
    (by omega) (by omega) o
  have recorded : (State.recordUnpaid t.lane b)^[unpaid] (State.withLane { s with turn := none } t.lane y) =
      State.withLane { (State.recordUnpaid t.lane b)^[unpaid] s with turn := none } t.lane y := by
    rw [State.withLane_eq_onLane, State.recordUnpaid_onLane, State.recordUnpaid_turn_none]
    rfl
  have all_inward (u : State) : (State.passInward · t.lane)^[i] u =
      (State.passInward · t.lane)^[unpaid] ((State.passInward · t.lane)^[paid] u) := by
    rw [← Function.iterate_add_apply, show unpaid + paid = i by omega]
  obtain ⟨engine, active, request, lanes, release⟩ := State.recordUnpaid_kept (l := t.lane) b unpaid s
  set device : State := { ((State.recordUnpaid t.lane b)^[unpaid] s).withBerth b
      (((s.berth b).entered paid unpaid).counted (.back o)) with
    turn := none
    flags := ((State.recordUnpaid t.lane b)^[unpaid] s).flags ||| ((if unpaid = 0 then 0 else 1#16) |||
      (if (s.berth b).state = BerthState.boarding ∧ ((s.berth b).entered paid unpaid).state = BerthState.full
        then 0x10#16 else 0)) } with passed_by
  have gated := Lane.reworked_used (x := y.countUnpaid unpaid) (b := b) (c := c) (k := paid) s.settings.holdTime mode online
    ((gates t.lane).trans (by rw [State.wantedOrder, outside]; rfl)) credits (by omega)
  have taken : (s.answeredAt t n).takePassage t.lane i o =
      device.withLane t.lane ((y.countUnpaid unpaid |>.used c s.settings.holdTime paid).reworked false false) := by
    have passed_all : (State.passOutward · t.lane)^[o] ((State.passInward · t.lane)^[unpaid]
        ((State.passInward · t.lane)^[paid] (State.withLane { s with turn := none } t.lane y))) =
          device.withLane t.lane (y.countUnpaid unpaid |>.used c s.settings.holdTime paid) := by
      rw [passages, recorded]
      refine (State.onLane_onLane device t.lane (fun _ => y) _).trans (State.onLane_eq_of_lane ?_)
      show Lane.countUnpaid unpaid (Lane.used c s.settings.holdTime paid y) = _
      unfold Lane.used
      split_ifs <;> rfl
    rw [State.takePassage_eq, show (s.answeredAt t n).releaseActive = false from outside, if_neg (by decide), start,
      all_inward, passed_all, State.reworkGate_eq]
    refine (State.onLane_onLane device t.lane (fun _ => _) _).trans (State.onLane_eq_of_lane ?_)
    show Lane.reworked _ ((State.recordUnpaid t.lane b)^[unpaid] s).releaseActive false = _
    rw [release, outside]
  rw [gated] at taken
  exact State.endEvent_withLane taken rest engine active request lanes (by split_ifs <;> exact id) _

end Sys2Proof.Machine
open Sys2Proof Sys2Proof.Machine

/-- Settles O25. -/
theorem passagesAreCountedByTheLanesMode : Obligations.PassagesAreCountedByTheLanesMode := by
  refine ⟨fun s rest gates t turning stayed present online i o bytes n good fresh => ?_,
    fun s rest sound gates outside t turning stayed b mode online i o bytes n good fresh => ?_⟩
  · refine ⟨fun release => ?_, fun outside mode => ?_, fun outside mode => ?_⟩
    all_goals rw [exec_answer_of_new turning stayed present online good (by nofun) fresh, State.takeReport]
    · rw [State.takePassage_eq, show (s.answeredAt t n).releaseActive = true from release, if_pos rfl, State.answeredAt,
        State.onLane_onLane]
      exact congrArg _ (State.endEvent_of_turn rfl rest id)
    · have step (u : State) (same : (u.lane t.lane).mode = (s.lane t.lane).mode) : u.passInward t.lane =
          ({ u with pier := { u.pier with wrongWay := saturate top32 u.pier.wrongWay 1 } }).countUnpaid t.lane := by
        rw [State.passInward, same, show (s.lane t.lane).mode = .exit from mode]
      have answered := answer_passage_of_pier (t := t) (n := n) rest gates outside (.inl mode)
        (g := fun p => { p with wrongWay := saturate top32 p.wrongWay 1 }) step i.val o.val
      rw [PierCounts.iterate_wrongWay] at answered
      exact congrArg _ answered
    · have step (u : State) (same : (u.lane t.lane).mode = (s.lane t.lane).mode) : u.passInward t.lane =
          ({ u with pier := { u.pier with unpaid := saturate top32 u.pier.unpaid 1 } }).countUnpaid t.lane := by
        rw [State.passInward, same, show (s.lane t.lane).mode = .closed from mode]
      have answered := answer_passage_of_pier (t := t) (n := n) rest gates outside (.inr mode)
        (g := fun p => { p with unpaid := saturate top32 p.unpaid 1 }) step i.val o.val
      rw [PierCounts.iterate_unpaid] at answered
      exact congrArg _ answered
  · rw [exec_answer_of_new turning stayed (by rw [mode]; nofun) online good (by nofun) fresh, State.takeReport,
      answer_passage_of_entry rest sound gates outside mode online o.val rfl rfl rfl, ← BitVec.or_assoc]
    rfl
end

section
/-! A lane reset as a change of the device and one of the lane (spec/02, R38). -/

namespace Sys2Proof.Machine

/-- A lane without a CARD WRITE or a GATE in flight takes a GATE the same way in every turn. -/
theorem Link.placeGate_of_none {k : Link} (empty : k.command = none) (carried : Bool) :
    k.placeGate carried = k.placeGate false := by
  unfold Link.placeGate
  rw [empty]

/-- A lane whose slots have been emptied (R38). -/
theorem Lane.renewed_of_empty {x : Lane} (empty : x.link.command = none) (release carried : Bool) :
    x.renewed release carried = x.gated release := by
  rw [← Lane.renewed_of_free, Lane.renewed, Lane.renewed, Lane.askingGate, Lane.askingGate,
    Link.placeGate_of_none (by exact empty)]

/-- The lane after a reset, from the lane with its credits taken (R27, R38, R162). -/
theorem Lane.resetFor_eq {x y : Lane} {release : Bool} {reason : ResetReason}
    (taken : y = { x with
      txn := .none, leaf := y.leaf, holdTimer := y.holdTimer
      counters := { x.counters with forfeited := raised 65535 x.counters.forfeited x.credits } })
    (leaf : y.leaf = .fault ↔ x.leaf = .fault) :
    ((y.afterReset reason).gated release).freed release = x.resetFor release reason := by
  have after : y.afterReset reason = { x with
      txn := .none
      leaf := if x.leaf = .fault then .fault else .shut
      holdTimer := none
      lastReset := reason
      counters := { x.counters with forfeited := raised 65535 x.counters.forfeited x.credits }
      link := { x.link with command := none, waiting := none, display := none } } := by
    rw [Lane.afterReset, taken]
    simp only [leaf]
    rfl
  rw [after]
  rfl

namespace State

/-- What a lane reset makes of the credits of lane `l`, which it finds as `x` (R27, R117). -/
def creditsReset (r : State) (l : LaneId) (x : Lane) : State :=
  match x.mode with
  | .entry b => if x.credits = 0 then r.recordAll (x.forfeitRecords l false)
    else (r.recordAll (x.forfeitRecords l false)).withBerth b
      (((r.recordAll (x.forfeitRecords l false)).berth b).counted (.forfeit x.credits))
  | _ => r.recordAll (x.forfeitRecords l false)

theorem laneResetTo_eq (s : State) (l : LaneId) (x : Lane) (reason : ResetReason) : s.laneResetTo l x reason =
    ((s.transactionReset l x).creditsReset l x).withLane l (x.resetFor s.releaseActive reason) := by
  unfold laneResetTo creditsReset
  cases x.mode <;> rfl

variable {s : State} {l : LaneId}

theorem creditsReset_of_none {x : Lane} (none_left : x.credits = 0) (r : State) : r.creditsReset l x = r := by
  have no_record : x.forfeitRecords l false = [] := by
    unfold Lane.forfeitRecords
    split
    · exact if_pos none_left
    · rfl
  unfold creditsReset
  rw [no_record]
  split
  · exact if_pos none_left
  · rfl

theorem creditsReset_of_opened {x : Lane} {b : BerthId} (credits : x.credits ≠ 0) (mode : x.mode = .entry b) (r : State) :
    r.creditsReset l x = (r.record false (forfeitRecord l b x.credits false)).withBerth b
      ((r.berth b).counted (.forfeit x.credits)) := by
  have records : x.forfeitRecords l false = [(false, forfeitRecord l b x.credits false)] := by
    rw [Lane.forfeitRecords, mode]
    exact if_neg credits
  have berth : (r.record false (forfeitRecord l b x.credits false)).berth b = r.berth b :=
    berth_congr (by rw [record_eq]) b
  rw [creditsReset, mode]
  dsimp only
  rw [if_neg credits, records]
  show (r.record false _).withBerth b (((r.record false _).berth b).counted _) = _
  rw [berth]

/-- The steps of a lane reset behind the forfeit of the credits, at a device and a lane that stand as that leaves them
(R38, R162). -/
theorem reset_withLane {d : State} {y : Lane} (release : d.releaseActive = s.releaseActive)
    (taken : y = { s.lane l with
      txn := .none, leaf := y.leaf, holdTimer := y.holdTimer
      counters := { (s.lane l).counters with
        forfeited := raised 65535 (s.lane l).counters.forfeited (s.lane l).credits } })
    (leaf : y.leaf = .fault ↔ (s.lane l).leaf = .fault) (reason : ResetReason) :
    (((d.withLane l y).onLane l (.afterReset reason)).renewGate l).showFreeExit l =
      d.withLane l ((s.lane l).resetFor s.releaseActive reason) := by
  rw [renewGate_eq, showFreeExit_eq, withLane_eq_onLane, onLane_onLane, onLane_onLane, onLane_onLane]
  refine onLane_eq_of_lane ?_
  show ((y.afterReset reason).renewed d.releaseActive _).freed d.releaseActive = _
  rw [Lane.renewed_of_empty rfl, release, Lane.resetFor_eq taken leaf]

/-- The end of a lane reset, once its transaction has been dealt with (R27, R38, R162). -/
theorem laneReset_lane (sound : (s.lane l).credits ≠ 0 → ∃ b, (s.lane l).mode = .entry b ∧
      (s.berth b).Settled ∧ (s.berth b).state ≠ .alongside) (reason : ResetReason) :
    ((((s.endTransaction l).forfeitAll l false).onLane l (.afterReset reason)).renewGate l).showFreeExit l =
      (s.creditsReset l (s.lane l)).withLane l ((s.lane l).resetFor s.releaseActive reason) := by
  by_cases none_left : (s.lane l).credits = 0
  · have same : (s.endTransaction l).forfeitAll l false = s.withLane l { s.lane l with txn := .none } :=
      forfeitAll_of_none (by rw [endTransaction, lane_onLane_self]; exact none_left) false
    rw [same, creditsReset_of_none none_left]
    exact reset_withLane (s := s) (y := { s.lane l with txn := .none }) rfl (by rw [none_left]; rfl) Iff.rfl reason
  · have opened := Lane.leaf_of_credits none_left
    obtain ⟨b, mode, settled, moored⟩ := sound none_left
    have forfeited := forfeitAll_eq (s := s.endTransaction l) (l := l) (b := b) (k := (s.lane l).credits)
      (by rw [endTransaction, lane_onLane_self]; exact opened) (Nat.one_le_iff_ne_zero.mpr none_left)
      (by rw [endTransaction, lane_onLane_self]; exact mode) settled moored false
    have device : (s.endTransaction l).forfeitAll l false =
        (s.creditsReset l (s.lane l)).withLane l (Lane.forfeitCredits (s.lane l).credits { s.lane l with txn := .none }) := by
      rw [forfeited, creditsReset_of_opened none_left mode, endTransaction, withBerth_onLane, record_onLane, onLane_onLane,
        record_withBerth]
      exact onLane_eq_of_lane (by rw [lane_withBerth, lane_record]; rfl)
    rw [device]
    refine reset_withLane (s := s) (l := l) ?_ ?_ ?_ reason
    · rw [creditsReset_of_opened none_left mode]
      exact record_releaseActive ..
    · rw [raised, if_neg none_left]
      rfl
    · rw [opened]
      simp [Lane.forfeitCredits]

/-- What a lane reset needs of the device: the credits of the lane stand at its berth, a validation of the lane is the one
in flight, and the recovery list is sound. -/
structure ResetSound (s : State) (l : LaneId) : Prop where
  settled : ∀ b, (s.berth b).Settled
  few : s.recovery.length ≤ 8
  distinct : (s.recovery.map (·.card)).Nodup
  credits : (s.lane l).credits ≠ 0 → ∃ b, (s.lane l).mode = .entry b ∧ (s.berth b).state ≠ .alongside
  validating : ∀ image, (s.lane l).txn = .validating image → ∀ v, s.engine = some v → v.lane = l

theorem abandon_of_own (own : ∀ v, s.engine = some v → v.lane = l) : s.abandon l = { s with engine := none } := by
  unfold abandon
  split
  · next v engine => exact if_pos (own v engine)
  · next engine => rw [← engine]

theorem resetTransaction_eq (sound : s.ResetSound l) {reason : ResetReason} (lane_only : reason ≠ .controlReset) :
    s.resetTransaction l reason = s.transactionReset l (s.lane l) := by
  unfold resetTransaction transactionReset
  cases txn : (s.lane l).txn with
  | none => rfl
  | waiting image => rfl
  | validating image => exact abandon_of_own (sound.validating image txn)
  | writing image w =>
    dsimp only
    by_cases orphan : w.orphaned = true
    · rw [if_pos orphan, if_pos orphan]
      rfl
    · rw [if_neg orphan, if_neg orphan, if_neg lane_only]
      exact handOver_eq sound.few sound.distinct sound.settled l image.card w

theorem transactionReset_of_live {x : Lane} {image : CardImage} {w : CardWrite} (writing : x.txn = .writing image w)
    (live : w.orphaned = false) : s.transactionReset l x =
      let r := ((s.closingFor image.card).map s.unresolved).getD s
      { r with recovery := r.recovery ++ [w.entry l image.card s.settings.recoveryTime] } := by
  unfold transactionReset
  rw [writing]
  exact if_neg (by simp [live])

/-- A berth as it was, or with its counts changed in an event that works room out afresh. -/
def Counted (old new : Berth) : Prop := new = old ∨ ∃ f, new = old.counted f

theorem Counted.settled {old new : Berth} (counted : Counted old new) (settled : old.Settled) : new.Settled := by
  rcases counted with rfl | ⟨f, rfl⟩
  · exact settled
  · exact settled.counted f

theorem Counted.moored {old new : Berth} (counted : Counted old new) (moored : old.state ≠ .alongside) :
    new.state ≠ .alongside := by
  rcases counted with rfl | ⟨f, rfl⟩
  · exact moored
  · by_cases boards : old.state.takesPassengers = true
    · rw [Berth.state_counted_of_boards boards]
      split_ifs <;> nofun
    · rw [Berth.state_counted_of_not_boards (Bool.eq_false_of_not_eq_true boards)]
      exact moored

theorem unresolved_kept (s : State) (e : RecoveryEntry) : (s.unresolved e).lanes = s.lanes ∧
    (s.unresolved e).releaseActive = s.releaseActive ∧ ∀ b, Counted (s.berth b) ((s.unresolved e).berth b) := by
  refine ⟨record_lanes .., record_releaseActive .., fun b => ?_⟩
  by_cases same : b = e.berth
  · subst same
    exact .inr ⟨_, berth_withBerth ..⟩
  · refine .inl ?_
    have apart : (e.berth : Nat) ≠ b := fun h => same (Fin.ext h.symm)
    simp [unresolved, withBerth, berth, Vector.getElem_set_ne, apart]

/-- What dealing with the transaction leaves alone. -/
theorem transactionReset_kept (s : State) (l : LaneId) (x : Lane) : (s.transactionReset l x).lanes = s.lanes ∧
    (s.transactionReset l x).releaseActive = s.releaseActive ∧
    ∀ b, Counted (s.berth b) ((s.transactionReset l x).berth b) := by
  cases txn : x.txn with
  | none => unfold transactionReset; rw [txn]; exact ⟨rfl, rfl, fun _ => .inl rfl⟩
  | waiting image => unfold transactionReset; rw [txn]; exact ⟨rfl, rfl, fun _ => .inl rfl⟩
  | validating image => unfold transactionReset; rw [txn]; exact ⟨rfl, rfl, fun _ => .inl rfl⟩
  | writing image w =>
    by_cases orphan : w.orphaned = true
    · unfold transactionReset
      rw [txn]
      dsimp only
      rw [if_pos orphan]
      exact ⟨record_lanes .., record_releaseActive .., fun b => .inl (berth_congr (record_berths ..) b)⟩
    · rw [transactionReset_of_live txn (Bool.eq_false_of_not_eq_true orphan)]
      cases s.closingFor image.card with
      | none => exact ⟨rfl, rfl, fun _ => .inl rfl⟩
      | some e => exact s.unresolved_kept e

/-- A lane reset as the statements give it (R38). -/
theorem laneReset_eq (sound : s.ResetSound l) {reason : ResetReason} (lane_only : reason ≠ .controlReset) :
    s.laneReset l reason = s.laneResetTo l (s.lane l) reason := by
  obtain ⟨lanes, release, berths⟩ := s.transactionReset_kept l (s.lane l)
  have lane : (s.transactionReset l (s.lane l)).lane l = s.lane l := lane_congr lanes l
  rw [laneReset, resetTransaction_eq sound lane_only, laneReset_lane, laneResetTo_eq, lane, release]
  intro credits
  rw [lane] at credits ⊢
  obtain ⟨b, mode, moored⟩ := sound.credits credits
  exact ⟨b, mode, (berths b).settled (sound.settled b), (berths b).moored moored⟩

end State
end Sys2Proof.Machine
end

section
/-! Lane resets in the middle of an event: what the reset leaves alone, and when the laws of admission bear it (R38). -/

namespace Sys2Proof.Machine
namespace State

/-- `s` with the lanes, the turn and what the depot link holds taken from `f`: none of these matters to a record, a berth
or the recovery list. -/
def framed (s f : State) : State := { s with
  lanes := f.lanes, turn := f.turn, depotLost := f.depotLost, silenceTimer := f.silenceTimer, depotOut := f.depotOut
  request := f.request }

variable {s : State} {l : LaneId}

theorem record_framed (s f : State) (reserved : Bool) (d : Draft) :
    (s.framed f).record reserved d = (s.record reserved d).framed f := by
  rw [record_eq, record_eq]
  rfl

theorem unresolved_framed (s f : State) (e : RecoveryEntry) : (s.framed f).unresolved e = (s.unresolved e).framed f := by
  rw [unresolved, unresolved, record_framed]
  rfl

theorem transactionReset_framed (s f : State) (l : LaneId) (x : Lane) :
    (s.framed f).transactionReset l x = (s.transactionReset l x).framed f := by
  cases txn : x.txn with
  | none => unfold transactionReset; rw [txn]
  | waiting image => unfold transactionReset; rw [txn]
  | validating image => unfold transactionReset; rw [txn]; rfl
  | writing image w =>
    by_cases orphan : w.orphaned = true
    · unfold transactionReset
      rw [txn]
      dsimp only
      rw [if_pos orphan, if_pos orphan]
      exact record_framed ..
    · have live := Bool.eq_false_of_not_eq_true orphan
      rw [transactionReset_of_live txn live, transactionReset_of_live txn live,
        show (s.framed f).closingFor image.card = s.closingFor image.card from rfl]
      cases s.closingFor image.card with
      | none => rfl
      | some e =>
        dsimp only [Option.map_some, Option.getD_some]
        rw [unresolved_framed]
        rfl

theorem creditsReset_framed (s f : State) (l : LaneId) (x : Lane) :
    (s.framed f).creditsReset l x = (s.creditsReset l x).framed f := by
  by_cases none_left : x.credits = 0
  · rw [creditsReset_of_none none_left, creditsReset_of_none none_left]
  · cases mode : x.mode with
    | entry b =>
      rw [creditsReset_of_opened none_left mode, creditsReset_of_opened none_left mode, record_framed]
      rfl
    | _ =>
      have no_record : x.forfeitRecords l false = [] := by rw [Lane.forfeitRecords, mode]
      unfold creditsReset
      rw [mode, no_record]
      rfl

/-- A lane reset of a lane that the event has changed, and amid a turn or a frame of the depot. -/
theorem laneResetTo_framed (s f : State) (x : Lane) (reason : ResetReason) :
    (s.framed f).laneResetTo l x reason =
      ((s.transactionReset l x).creditsReset l x |>.framed f).withLane l (x.resetFor s.releaseActive reason) := by
  rw [laneResetTo_eq, transactionReset_framed, creditsReset_framed]
  rfl

theorem laneResetTo_withLane (s : State) (x y : Lane) (reason : ResetReason) :
    (s.withLane l y).laneResetTo l x reason = s.laneResetTo l x reason := by
  have set := s.laneResetTo_framed (l := l) (s.withLane l y) x reason
  have base := s.laneResetTo_framed (l := l) s x reason
  rw [show s.framed (s.withLane l y) = s.withLane l y from rfl] at set
  rw [show s.framed s = s from rfl] at base
  rw [set, base]
  exact withLane_withLane ((s.transactionReset l x).creditsReset l x |>.framed s) l y _

theorem placesSound.resetSound {u : State} (sound : s.placesSound) (berths : u.berths = s.berths)
    (recovery : u.recovery = s.recovery) (engine : u.engine = s.engine) (leaf : (u.lane l).leaf = (s.lane l).leaf)
    (mode : (u.lane l).mode = (s.lane l).mode) (txn : (u.lane l).txn = (s.lane l).txn) : u.ResetSound l := by
  obtain ⟨-, -, in_flight, few, distinct, -⟩ := id sound
  refine ⟨fun b => ?_, recovery ▸ few, recovery ▸ distinct, fun credits => ?_, fun image validating v flying => ?_⟩
  · rw [berth_congr berths]
    exact sound.settled b
  · obtain ⟨-, -, -, -, -, b, mode', -, -, moored⟩ := sound.of_opened (leaf.symm.trans (Lane.leaf_of_credits credits))
    exact ⟨b, mode.trans mode', by rw [berth_congr berths]; exact moored⟩
  · rw [engine] at flying
    simp only [engineSound, flying, Bool.and_eq_true, List.all_eq_true] at in_flight
    obtain ⟨⟨-, alone⟩, -⟩ := in_flight
    have here := alone l (mem_allLanes l)
    rw [← txn, validating] at here
    exact (show l = v.lane by simpa using here).symm

end State

/-- A reset of a lane with neither transaction nor credits (R38). -/
theorem Lane.resetFor_of_idle {x : Lane} (idle : x.txn = .none) (none_left : x.credits = 0) (release : Bool)
    (reason : ResetReason) : x.resetFor release reason = Lane.freed (Lane.gated { x with
      leaf := if x.leaf = .fault then .fault else .shut
      holdTimer := none
      lastReset := reason
      link := { x.link with command := none, waiting := none, display := none } } release) release := by
  rw [Lane.resetFor, none_left, ← idle]
  rfl

/-- A reset of such a lane changes nothing but the lane. -/
theorem State.laneReset_of_idle {s : State} {l : LaneId} (idle : (s.lane l).txn = .none)
    (none_left : (s.lane l).credits = 0) (reason : ResetReason) : s.laneReset l reason =
      s.withLane l ((s.lane l).resetFor s.releaseActive reason) := by
  have quiet : s.resetTransaction l reason = s := by rw [State.resetTransaction, idle]
  rw [State.laneReset, quiet, State.laneReset_lane (fun credits => absurd none_left credits),
    State.creditsReset_of_none none_left]

end Sys2Proof.Machine
end

section
/-! LANE RESET and HEAD RESTART (spec/02, R37, R38). -/

namespace Sys2Proof.Machine

theorem Lane.txn_freed (x : Lane) (release : Bool) : (x.freed release).txn = x.txn := by
  unfold Lane.freed
  split_ifs <;> rfl

/-- A reset leaves no transaction. -/
theorem Lane.txn_resetFor (x : Lane) (release : Bool) (reason : ResetReason) : (x.resetFor release reason).txn = .none := by
  rw [Lane.resetFor, Lane.txn_freed, Lane.txn_gated]

namespace State

variable {s : State} {l : LaneId} {t : Turn} {n : Byte}

theorem withDepot_arbitrate (s t : State) : (s.withDepot t).arbitrate = s.arbitrate.withDepot t := by
  unfold arbitrate
  rw [show (s.withDepot t).engine = s.engine from rfl, show (s.withDepot t).nextWaiting = s.nextWaiting from rfl]
  split
  · next l _ _ =>
    unfold grant
    rw [show (s.withDepot t).lane l = s.lane l from rfl]
    split <;> rfl
  · rfl

theorem laneResetTo_withDepot (s t : State) (x : Lane) (reason : ResetReason) :
    (s.withDepot t).laneResetTo l x reason = (s.laneResetTo l x reason).withDepot t :=
  (laneResetTo_framed s (s.withDepot t) x reason).trans
    (congrArg (·.withDepot t) (laneResetTo_framed s s x reason).symm)

theorem sameDepot_laneResetTo (s : State) (x : Lane) (reason : ResetReason) : s.SameDepot (s.laneResetTo l x reason) := by
  have whole : s.laneResetTo l x reason = _ := laneResetTo_framed s s x reason
  rw [whole]
  exact ⟨rfl, rfl, rfl, rfl⟩

/-- The search of the arbiter and the NOTICE end an event that finds no request in progress. -/
theorem endEvent_of_no_request (free : s.request = none) (before : Half) : s.endEvent before = s.arbitrate.noticed before := by
  rw [endEvent_eq, takeWaiting_of_atRest (by rw [free]; nofun), send_nil]

/-- LANE RESET (R37). -/
theorem exec_laneReset (free : s.request = none) (sound : s.placesSound) (tag : Byte) :
    exec (.laneReset tag (number l)) s = .next (
      let ended := (s.laneResetTo l (s.lane l) .depot).endEvent s.flags
      { ended with
        depotLost := false
        silenceTimer := s.silenceLoaded
        depotOut := ended.depotOut ++ [.reply .laneReset tag (.plain .done)] }) := by
  have depot := (sameDepot_laneResetTo (l := l) s (s.lane l) .depot).trans (sameDepot_arbitrate _)
  have still := (sameDepot_laneResetTo (l := l) s (s.lane l) .depot).request.trans free
  rw [exec, execLaneReset, laneOf_number, inRange_some, answer_eq_replied (u := (s.laneResetTo l (s.lane l) .depot).arbitrate)
    free (depot.request.trans free) ?taken, endEvent_of_no_request still]
  case taken =>
    have bears : (s.withDepot s.goodFrame).ResetSound l := sound.resetSound rfl rfl rfl rfl rfl rfl
    rw [takeLaneReset, laneReset_eq bears (by nofun), laneResetTo_withDepot, withDepot_arbitrate]
    rfl
  rw [replied, answered, noticed, depot.depotOut, ← List.append_assoc]

/-- HEAD RESTART (R37). -/
theorem takeStatus_headRestart (sound : s.placesSound) : (s.answeredAt t n).takeStatus t.lane .headRestart =
    State.laneResetTo { s with turn := none } t.lane ((s.lane t.lane).answeredBy t.carried n) .headRestart := by
  have bears : (s.answeredAt t n).ResetSound t.lane := by
    refine sound.resetSound rfl rfl rfl ?_ ?_ ?_
    all_goals rw [lane_answeredAt]; rfl
  rw [takeStatus, laneReset_eq bears (by nofun), lane_answeredAt]
  exact laneResetTo_withLane { s with turn := none } _ _ _

end State
end Sys2Proof.Machine
open Sys2Proof Sys2Proof.Machine

/-- Settles O27. -/
theorem aLaneResetEndsTheLanesWork : Obligations.ALaneResetEndsTheLanesWork := by
  refine ⟨fun s free tag lane outside => ?_, fun s free rest l tag idle none_left => ?_,
    fun s free sound l tag => State.exec_laneReset free sound tag,
    fun s sound t turning stayed present online bytes n good fresh => ?_,
    fun s rest t turning stayed present online idle none_left bytes n good fresh => ?_⟩
  · rw [exec, execLaneReset, show laneOf lane = none from oneBased_of_outside outside]
    exact congrArg _ (State.answer_out_of_range free _)
  · rw [exec, execLaneReset, laneOf_number, inRange_some, ← Lane.resetFor_of_idle idle none_left]
    refine congrArg _ (State.answer_eq_replied free free ?_)
    rw [takeLaneReset, State.laneReset_of_idle (by exact idle) (by exact none_left), State.arbitrate_of_atRest]
    · rfl
    · intro engine m
      have calm := rest.1 engine m
      by_cases same : m = l
      · subst same
        rw [State.lane_withLane, Lane.txn_resetFor]
        rfl
      · rw [State.withLane_eq_onLane, State.lane_onLane_of_ne _ same]
        exact calm
  · rw [exec_answer_of_new turning stayed present online good (by nofun) fresh, State.takeReport,
      State.takeStatus_headRestart sound]
  · rw [exec_answer_of_new turning stayed present online good (by nofun) fresh, State.takeReport, State.takeStatus,
      State.laneReset_of_idle (by rw [State.lane_answeredAt]; exact idle) (by rw [State.lane_answeredAt]; exact none_left),
      State.lane_answeredAt]
    refine congrArg _ ((State.endEvent_of_turn (l := t.lane) (State.withLane_withLane _ _ _ _) rest ?_).trans ?_)
    · rw [Lane.txn_resetFor]
      nofun
    · rw [Lane.resetFor_of_idle (by exact idle) (by exact none_left)]
      rfl
end

section
/-! Missed turns and the offline reset (spec/01, R8, R11, R12, R16). -/

namespace Sys2Proof.Machine

theorem State.FlagsKept.flagSet {s t : State} (kept : s.FlagsKept t) {x : NoticeFlag} (set : s.flagSet x = true) :
    t.flagSet x = true := by
  have bit := congrArg (·.getLsbD x.number) kept
  unfold State.flagSet at *
  have small : x.number < 16 := by cases x <;> decide
  simpa [set, small] using bit

namespace State

variable {s : State} {l : LaneId}

/-! ### A lane reset in any state, as the lane and the engine see it -/

/-- What an event that is none of the lanes' leaves as it was. -/
structure Beside (s d : State) : Prop where
  lanes : d.lanes = s.lanes
  engine : d.engine = s.engine
  release : d.releaseActive = s.releaseActive

theorem Beside.trans {s d e : State} (h : s.Beside d) (k : d.Beside e) : s.Beside e :=
  ⟨k.lanes.trans h.lanes, k.engine.trans h.engine, k.release.trans h.release⟩

theorem beside_record (s : State) (reserved : Bool) (d : Draft) : s.Beside (s.record reserved d) :=
  ⟨record_lanes .., record_engine .., record_releaseActive ..⟩

theorem beside_atBerth (s : State) (b : BerthId) (f : Berth → Berth) : s.Beside (s.atBerth b f) := by
  rw [atBerth_shape]
  exact ⟨rfl, rfl, rfl⟩

theorem beside_closeEntry (s : State) (release : Bool) (e : RecoveryEntry) : s.Beside (s.closeEntry release e) := by
  rw [closeEntry_shape]
  exact ⟨rfl, rfl, rfl⟩

theorem beside_handOver (s : State) (l : LaneId) (card : CardNo) (w : CardWrite) : s.Beside (s.handOver l card w) := by
  have way : s.Beside (s.makeWay card) := by
    unfold makeWay
    split
    · exact s.beside_closeEntry false _
    · split_ifs
      · split
        · exact s.beside_closeEntry false _
        · exact ⟨rfl, rfl, rfl⟩
      · exact ⟨rfl, rfl, rfl⟩
  exact way.trans ⟨rfl, rfl, rfl⟩

/-- A device that differs from `s` in its lane `l`, and else beside the lanes. -/
theorem Beside.eq_withLane {d : State} {f : Lane → Lane} (beside : (s.onLane l f).Beside d) :
    ∃ e, s.Beside e ∧ d = e.withLane l (f (s.lane l)) := by
  refine ⟨{ d with lanes := s.lanes }, ⟨rfl, beside.engine, beside.release⟩, ?_⟩
  have lanes : d.lanes = s.lanes.set l (f (s.lane l)) := beside.lanes
  rw [withLane, ← lanes]

theorem forfeit_device (s : State) (l : LaneId) (n : Nat) (release : Bool) : ∃ d, s.Beside d ∧
    s.forfeit l n release = d.onLane l (.countForfeit n) := by
  unfold forfeit
  dsimp only
  split
  · next b _ =>
    exact ⟨_, (s.beside_atBerth b _).trans (beside_record _ false _), by rw [onCounters, record_onLane]; rfl⟩
  · exact ⟨_, s.beside_record false _, by rw [onCounters, record_onLane]; rfl⟩

/-- A forfeit of all credits of a lane, at any berth or none (R27). -/
theorem forfeitAll_device (s : State) (l : LaneId) (release : Bool) : ∃ d y, s.Beside d ∧
    s.forfeitAll l release = d.withLane l y ∧
    y = { s.lane l with
      leaf := y.leaf, holdTimer := y.holdTimer
      counters := { (s.lane l).counters with
        forfeited := raised 65535 (s.lane l).counters.forfeited (s.lane l).credits } } ∧
    (y.leaf = .fault ↔ (s.lane l).leaf = .fault) := by
  by_cases none_left : (s.lane l).credits = 0
  · refine ⟨s, s.lane l, ⟨rfl, rfl, rfl⟩, ?_, ?_, .rfl⟩
    · rw [forfeitAll_of_none none_left, withLane_self]
    · rw [none_left]
      rfl
  · obtain ⟨d, beside, counted⟩ :=
      (s.onLane l fun x => { x with leaf := .shut, holdTimer := none }).forfeit_device l (s.lane l).credits release
    obtain ⟨e, besides, rfl⟩ := beside.eq_withLane
    refine ⟨e, Lane.countForfeit (s.lane l).credits { s.lane l with leaf := .shut, holdTimer := none }, besides, ?_, ?_, ?_⟩
    · rw [forfeitAll, if_neg none_left, counted, withLane_eq_onLane, onLane_onLane]
      rfl
    · rw [raised, if_neg none_left]
      rfl
    · rw [Lane.leaf_of_credits none_left]
      exact iff_of_false nofun nofun

/-- A validation in flight of lane `l` is the one that the lane's transaction waits for (R42). -/
def OwnsEngine (s : State) (l : LaneId) : Prop :=
  ∀ v, s.engine = some v → v.lane = l → ∃ image, (s.lane l).txn = .validating image

/-- What a lane reset in any state does with the lane's transaction leaves every lane; of the engine it keeps a
validation of another lane alone (R58). -/
theorem resetTransaction_lanes (s : State) (l : LaneId) {reason : ResetReason} :
    (s.resetTransaction l reason).lanes = s.lanes ∧ (s.resetTransaction l reason).releaseActive = s.releaseActive ∧
    (s.OwnsEngine l →
      ∀ v, (s.resetTransaction l reason).engine = some v → v.lane ≠ l) := by
  have apart {d : State} (beside : s.Beside d) (txn : ∀ image, (s.lane l).txn ≠ .validating image) :
      d.lanes = s.lanes ∧ d.releaseActive = s.releaseActive ∧
      (s.OwnsEngine l →
        ∀ v, d.engine = some v → v.lane ≠ l) := by
    refine ⟨beside.lanes, beside.release, fun sound v busy own => ?_⟩
    obtain ⟨image, validating⟩ := sound v (beside.engine.symm.trans busy) own
    exact txn image validating
  unfold resetTransaction
  cases txn : (s.lane l).txn with
  | none => exact apart ⟨rfl, rfl, rfl⟩ (by rw [txn]; nofun)
  | waiting image => exact apart ⟨rfl, rfl, rfl⟩ (by rw [txn]; nofun)
  | validating image =>
    dsimp only
    unfold abandon
    split
    · next v busy =>
      split_ifs with own
      · exact ⟨rfl, rfl, fun _ _ => nofun⟩
      · exact ⟨rfl, rfl, fun _ u flying same => own (by rw [busy] at flying; cases flying; exact same)⟩
    · next free => exact ⟨rfl, rfl, fun _ u flying => by rw [free] at flying; cases flying⟩
  | writing image w =>
    dsimp only
    split_ifs
    · exact apart (s.beside_record _ _) (by rw [txn]; nofun)
    · exact apart ((s.beside_atBerth _ _).trans (beside_record _ _ _)) (by rw [txn]; nofun)
    · exact apart (s.beside_handOver _ _ _) (by rw [txn]; nofun)

/-- A lane reset in any state (R38, R58, R162). -/
theorem laneReset_device (s : State) (l : LaneId) (reason : ResetReason) : ∃ d : State, d.lanes = s.lanes ∧
    (s.OwnsEngine l →
      ∀ v, d.engine = some v → v.lane ≠ l) ∧
    s.laneReset l reason = d.withLane l ((s.lane l).resetFor s.releaseActive reason) := by
  obtain ⟨lanes, release, engine⟩ := s.resetTransaction_lanes l (reason := reason)
  obtain ⟨d, y, beside, forfeited, taken, leaf⟩ :=
    ((s.resetTransaction l reason).endTransaction l).forfeitAll_device l false
  obtain ⟨e, besides, device⟩ := beside.eq_withLane
  have lane : (s.resetTransaction l reason).lane l = s.lane l := lane_congr lanes l
  have found : ((s.resetTransaction l reason).endTransaction l).lane l = { s.lane l with txn := .none } := by
    rw [endTransaction, lane_onLane_self, lane]
  rw [found] at taken leaf
  refine ⟨e, besides.lanes.trans lanes, fun sound v busy => engine sound v (besides.engine.symm.trans busy), ?_⟩
  rw [laneReset, forfeited, device, withLane_withLane]
  exact reset_withLane (s := s) (besides.release.trans release) taken leaf reason

/-- The validation in flight is its lane's (R42). -/
theorem validating_of_engineSound (sound : s.engineSound = true) {v : Validation} (busy : s.engine = some v) :
    (s.lane v.lane).txn = .validating v.image := by
  simp only [engineSound, busy, Bool.and_eq_true, beq_iff_eq] at sound
  exact sound.1.1.1

/-! ### The end of an event, as a lane and the engine see it -/

theorem takeWaiting_kept (s : State) : s.takeWaiting.1.lanes = s.lanes ∧ s.takeWaiting.1.engine = s.engine ∧
    s.takeWaiting.1.turn = s.turn := by
  have turn (r : TableRequest) : (s.takeTable r).1.turn = s.turn := by rw [takeTable_shape]
  rcases s.takeWaiting_cases with same | ⟨j, -, -, -, ⟨-, taken⟩ | ⟨-, taken⟩⟩
  · rw [same]
    exact ⟨rfl, rfl, rfl⟩
  all_goals
    rw [taken]
    exact ⟨takeTable_lanes .., takeTable_engine .., turn _⟩

/-- The arbiter grants a WAITING lane, or nothing (R42). -/
theorem arbitrate_cases (s : State) : s.arbitrate = s ∨ ∃ l image, (s.lane l).txn = .waiting image ∧
    s.arbitrate = { s.onLane l fun x => { x with txn := .validating image } with
      engine := some (s.newValidation l image), lastGranted := l } := by
  unfold arbitrate
  split
  · next l _ _ =>
    unfold grant
    split
    · next image waits => exact .inr ⟨l, image, waits, rfl⟩
    · exact .inl rfl
  · exact .inl rfl

/-- The end of an event leaves a lane that does not wait, and the turn, as they are, and grants no such lane. -/
theorem endEvent_calm (calm : (s.lane l).txn.isWaiting = false) (before : Half) :
    (s.endEvent before).lane l = s.lane l ∧ (s.endEvent before).turn = s.turn ∧
    ∀ v, (s.endEvent before).engine = some v → v.lane = l → s.engine = some v := by
  obtain ⟨lanes, engine, turn⟩ := s.takeWaiting_kept
  rw [endEvent_eq]
  show s.takeWaiting.1.arbitrate.lane l = _ ∧ s.takeWaiting.1.arbitrate.turn = _ ∧
    ∀ v, s.takeWaiting.1.arbitrate.engine = some v → _
  rcases s.takeWaiting.1.arbitrate_cases with same | ⟨m, image, waits, granted⟩
  · rw [same, engine]
    exact ⟨lane_congr lanes l, turn, fun _ busy _ => busy⟩
  · have other : l ≠ m := by
      rintro rfl
      rw [lane_congr lanes] at waits
      rw [waits] at calm
      cases calm
    rw [granted]
    refine ⟨((lane_congr (by rfl) l).trans (lane_onLane_of_ne _ other fun x => { x with txn := .validating image })).trans
      (lane_congr lanes l), turn, fun v busy own => ?_⟩
    cases busy
    exact absurd own.symm other

theorem flagsKept_endEvent (s : State) (before : Half) : s.FlagsKept (s.endEvent before) :=
  Deeds.flagsKept (s.deeds_endEvent before)

/-! ### Missed turns -/

variable {t : Turn}

/-- A turn that ends in a miss, by its window or by a bad answer (R2, R8). -/
theorem exec_miss (turning : s.turn = some t) {u : State}
    (missed : (State.missedTurn { s with turn := none } t).endEvent s.flags = u) :
    (t.answering = false → exec .answerWindowExpiry s = .next u) ∧
    ∀ bytes : List Byte, answerReport t.lane bytes = none → exec (.answer bytes) s = .next u := by
  refine ⟨fun silent => ?_, fun bytes bad => ?_⟩
  · show Host.Outcome.next (match s.turn with | some t => _ | none => _) = _
    rw [turning]
    dsimp only
    rw [silent, missed]
    rfl
  · show Host.Outcome.next (match s.turn with | some t => _ | none => _) = _
    rw [turning]
    dsimp only
    rw [endTurn, bad, missed]

theorem missedTurn_of_left {u : State} (left : u.leftDuring t = true) : u.missedTurn t = u := by
  unfold missedTurn
  exact if_pos left

theorem leftDuring_iff {u : State} :
    u.leftDuring t = true ↔ t.absented = true ∨ (u.lane t.lane).mode = .absent := by
  rw [leftDuring, Bool.or_eq_true, beq_iff_eq]

/-- A miss that is counted, and no more (R8, R11, R12). -/
theorem missedTurn_of_counted {u : State} (stayed : u.leftDuring t = false)
    (counted : (u.lane t.lane).status = .offline ∨ min 8 ((u.lane t.lane).link.misses + 1) < u.settings.missLimit) :
    u.missedTurn t = u.withLane t.lane (u.lane t.lane).missed := by
  unfold missedTurn
  dsimp only
  rw [if_neg (by rw [stayed]; decide), if_neg]
  · rfl
  · rintro ⟨online, limit⟩
    rw [lane_onLane_self] at limit
    rcases counted with offline | below
    · rw [online] at offline
      cases offline
    · exact absurd below (Nat.not_lt.mpr limit)

/-- A miss that takes its lane offline (R12). -/
theorem missedTurn_of_limit {u : State} (stayed : u.leftDuring t = false) (online : (u.lane t.lane).status = .online)
    (limit : u.settings.missLimit ≤ min 8 ((u.lane t.lane).link.misses + 1)) : u.missedTurn t =
      (State.withLane { u with flags := u.flags ||| 8#16 } t.lane
        { (u.lane t.lane).missed with status := .offline }).laneReset t.lane .offline := by
  unfold missedTurn
  dsimp only
  rw [if_neg (by rw [stayed]; decide), if_pos ⟨online, by rw [lane_onLane_self]; exact limit⟩, goOffline, onLane_onLane]
  rfl

end State

/-- A reset of a lane that is OFFLINE places no frame (R13, R38). -/
theorem Lane.resetFor_of_offline {x : Lane} (offline : x.status = .offline) (release : Bool) (reason : ResetReason) :
    x.resetFor release reason = { x with
      txn := .none
      leaf := if x.leaf = .fault then .fault else .shut
      gateOrder := wantedGateOrder release x.mode .shut
      holdTimer := none
      lastReset := reason
      counters := { x.counters with forfeited := raised 65535 x.counters.forfeited x.credits }
      link := { x.link with command := none, waiting := none, display := none } } := by
  have shut : wantedGateOrder release x.mode (if x.leaf = .fault then .fault else .shut) =
      wantedGateOrder release x.mode .shut := by
    split_ifs <;> rfl
  rw [Lane.resetFor, Lane.gated, Lane.freed]
  simp only [offline, reduceCtorEq, false_and, and_false, if_false, shut]

end Sys2Proof.Machine
open Sys2Proof Sys2Proof.Machine

/-- Settles O17. -/
theorem aMissedTurnIsCountedToTheMissLimit : Obligations.AMissedTurnIsCountedToTheMissLimit := by
  refine ⟨⟨fun s rest t turning stayed present counted => ?_, fun s rest t turning left => ?_⟩,
    fun s t turning stayed present online limit => ?_, fun s sound t turning stayed present online limit => ?_⟩
  · refine State.exec_miss turning ?_
    have here : State.leftDuring { s with turn := none } t = false :=
      Bool.eq_false_iff.mpr fun left => by simp_all [State.leftDuring_iff, State.lane]
    rw [State.missedTurn_of_counted here counted]
    exact State.endEvent_of_turn rfl rest id
  · refine State.exec_miss turning ?_
    rw [State.missedTurn_of_left (u := { s with turn := none }) (State.leftDuring_iff.mpr left)]
    exact (State.endEvent_of_atRest (s := { s with turn := none }) rest _).trans (State.noticed_of_flags rfl)
  · have here : State.leftDuring { s with turn := none } t = false :=
      Bool.eq_false_iff.mpr fun left => by simp_all [State.leftDuring_iff, State.lane]
    set u : State := State.withLane { s with turn := none, flags := s.flags ||| 8#16 } t.lane
      { (s.lane t.lane).missed with status := .offline } with missed
    have reset : State.missedTurn { s with turn := none } t = u.laneReset t.lane .offline :=
      State.missedTurn_of_limit here online limit
    obtain ⟨d, lanes, engine, device⟩ := u.laneReset_device t.lane .offline
    have lane : u.lane t.lane = { (s.lane t.lane).missed with status := .offline } := State.lane_withLane ..
    have after : (u.laneReset t.lane .offline).lane t.lane = (u.lane t.lane).resetFor u.releaseActive .offline := by
      rw [device, State.lane_withLane]
    obtain ⟨kept, turn, granted⟩ := State.endEvent_calm (s := u.laneReset t.lane .offline) (l := t.lane)
      (by rw [after, Lane.txn_resetFor]; rfl) s.flags
    refine ⟨(u.laneReset t.lane .offline).endEvent s.flags, ?_, ?_, ?_, ?_, ?_, ?_⟩
    · exact (State.exec_miss turning (congrArg (State.endEvent · s.flags) reset)).1
    · exact (State.exec_miss turning (congrArg (State.endEvent · s.flags) reset)).2
    · rw [turn]
      exact State.Works.turn (gated := fun _ => True) (u.works_laneReset trivial .offline)
    · have set : u.flagSet .laneOffline = true := by
        rw [State.flagSet, show u.flags = s.flags ||| 8#16 from rfl, BitVec.getLsbD_or,
          show (8#16).getLsbD NoticeFlag.laneOffline.number = true from by decide, Bool.or_true]
      exact ((State.Works.flagsKept (gated := fun _ => True) (u.works_laneReset trivial .offline)).trans
        (State.flagsKept_endEvent _ _)).flagSet set
    · rw [kept, after, lane, Lane.resetFor_of_offline rfl]
      rfl
    · intro sound v busy own
      have flying := granted v busy own
      rw [device] at flying
      refine engine (fun w busy own => ⟨w.image, ?_⟩) v flying own
      have valid := State.validating_of_engineSound sound (show s.engine = some w from busy)
      rw [lane, ← own]
      exact valid
  · have here : State.leftDuring { s with turn := none } t = false :=
      Bool.eq_false_iff.mpr fun left => by simp_all [State.leftDuring_iff, State.lane]
    refine State.exec_miss turning (congrArg (State.endEvent · s.flags) ?_)
    set u : State := State.withLane { s with turn := none, flags := s.flags ||| 8#16 } t.lane
      { (s.lane t.lane).missed with status := .offline } with missed
    have lane : u.lane t.lane = { (s.lane t.lane).missed with status := .offline } := State.lane_withLane ..
    have bears : u.ResetSound t.lane := by
      refine sound.resetSound rfl rfl rfl ?_ ?_ ?_
      all_goals rw [lane]; rfl
    rw [State.missedTurn_of_limit here online limit]
    exact (State.laneReset_eq bears (by nofun)).trans
      ((congrArg (State.laneResetTo u t.lane · .offline) lane).trans (State.laneResetTo_withLane _ _ _ _))
end

section
/-! Good answers: the acknowledgement, and the answer that brings a lane online (spec/01, R7, R9, R14). -/

namespace Sys2Proof.Machine

/-! ### What a GATE and a display code leave of a lane -/

theorem Link.placeGate_kept (k : Link) (carried : Bool) :
    (k.placeGate carried).acked = k.acked ∧ (k.placeGate carried).misses = k.misses := by
  unfold Link.placeGate
  split
  · split
    · split_ifs <;> exact ⟨rfl, rfl⟩
    · exact ⟨rfl, rfl⟩
  · split <;> exact ⟨rfl, rfl⟩

/-- A lane that renews its gate and shows FREE EXIT keeps its mode, its status and the numbers of its link. -/
theorem Lane.freed_gated_kept (x : Lane) (release : Bool) :
    ((x.gated release).freed release).mode = x.mode ∧ ((x.gated release).freed release).status = x.status ∧
    ((x.gated release).freed release).txn = x.txn ∧
    ((x.gated release).freed release).link.acked = x.link.acked ∧
    ((x.gated release).freed release).link.misses = x.link.misses := by
  have gated : (x.gated release).mode = x.mode ∧ (x.gated release).status = x.status ∧
      (x.gated release).txn = x.txn ∧
      (x.gated release).link.acked = x.link.acked ∧ (x.gated release).link.misses = x.link.misses := by
    unfold Lane.gated
    dsimp only
    split_ifs
    · exact ⟨rfl, rfl, rfl, x.link.placeGate_kept false⟩
    · exact ⟨rfl, rfl, rfl, rfl, rfl⟩
  unfold Lane.freed
  split_ifs
  · exact gated
  · exact gated

/-! ### The acknowledgement (R7) -/

theorem Link.acknowledge_of_fresh {k : Link} {c : CommandSlot} (slot : k.command = some c) (sent : c.sent = true)
    (fresh : c.stale = false) : k.acknowledge .command =
      { k with command := k.waiting.map fun f => ⟨f, false, false⟩, waiting := none } := by
  simp only [Link.acknowledge, slot, sent, fresh, if_true, Bool.false_eq_true, if_false]
  rfl

theorem Link.acknowledge_of_stale {k : Link} {c : CommandSlot} (slot : k.command = some c) (sent : c.sent = true)
    (stale : c.stale = true) : k.acknowledge .command = { k with command := some ⟨c.frame, false, false⟩ } := by
  simp only [Link.acknowledge, slot, sent, stale, if_true]
  rfl

theorem Link.acknowledge_of_unsent {k : Link} (unsent : k.command.any (·.sent) = false) :
    k.acknowledge .command = k := by
  unfold Link.acknowledge
  cases slot : k.command with
  | none => rfl
  | some c =>
    rw [slot] at unsent
    exact if_neg (by simpa using unsent)

theorem Link.acknowledge_display {k : Link} {d : DisplaySlot} (slot : k.display = some d) :
    k.acknowledge .display = if d.sent then { k with display := none } else k := by
  simp only [Link.acknowledge, slot]

theorem Link.acked_acknowledge (k : Link) (c : Carried) : (k.acknowledge c).acked = k.acked := by
  unfold Link.acknowledge
  split
  · split
    · split_ifs <;> rfl
    · rfl
  · split
    · split_ifs <;> rfl
    · rfl
  · rfl

/-! ### The end of a turn in a good answer -/

namespace State

variable {s : State} {t : Turn} {n : Byte} {r : Report} {bytes : List Byte}

/-- A good answer ends its turn (R2). -/
theorem exec_answer_of_good (turning : s.turn = some t) (good : answerReport t.lane bytes = some (n, r)) {u : State}
    (answered : State.goodAnswer { s with turn := none } t n r = u) :
    exec (.answer bytes) s = .next (u.endEvent s.flags) := by
  show Host.Outcome.next (match s.turn with | some t => _ | none => _) = _
  rw [turning]
  dsimp only
  rw [endTurn, good, ← answered]

theorem reportIsNew_of_old {acked : Option Byte} (old : r = .nothing ∨ acked = some n) : reportIsNew acked n r = false := by
  rcases old with rfl | rfl <;> simp [reportIsNew]

/-- The lane as the acknowledgement leaves it: the carried frame acknowledged, the miss count 0 (R7, R11). -/
def acknowledged (x : Lane) (c : Carried) : Lane := { x with link := { x.link.acknowledge c with misses := 0 } }

/-- A lane that the first good answer brings online (R14, R162). -/
def broughtOnline (x : Lane) (c : Carried) (release : Bool) : Lane :=
  Lane.freed (Lane.gated { x with
    status := .online, leaf := .shut, txn := .none, link := { x.link.acknowledge c with misses := 0 } } release) release

theorem broughtOnline_kept (x : Lane) (c : Carried) (release : Bool) :
    (broughtOnline x c release).mode = x.mode ∧ (broughtOnline x c release).status = .online ∧
    (broughtOnline x c release).txn = .none ∧ (broughtOnline x c release).link.acked = x.link.acked ∧
    (broughtOnline x c release).link.misses = 0 := by
  obtain ⟨mode, status, txn, acked, misses⟩ := Lane.freed_gated_kept { x with
    status := .online, leaf := .shut, txn := .none, link := { x.link.acknowledge c with misses := 0 } } release
  exact ⟨mode, status, txn, acked.trans (x.link.acked_acknowledge c), misses⟩

theorem bringOnline_eq {u : State} (idle : u.turn = none) (l : LaneId) (c : Carried) :
    (u.acknowledge l c).bringOnline l = u.withLane l (broughtOnline (u.lane l) c u.releaseActive) := by
  have uncarried (v : State) (none : v.turn = .none) : v.carriedBy l = false := by rw [carriedBy, none]
  rw [bringOnline, renewGate_eq, showFreeExit_eq, uncarried _ (by exact idle), acknowledge, onLink, onLane_onLane,
    onLane_onLane, onLane_onLane]
  refine onLane_eq_of_lane ?_
  dsimp only [Function.comp]
  rw [Lane.renewed_of_free]
  rfl

/-- A good answer from a lane that has stayed in the poll list: the lane acknowledged and, where it was OFFLINE, brought
online; then its report, where it is new (R7, R9, R14). -/
theorem goodAnswer_of_stayed {u : State} (stayed : u.leftDuring t = false) (idle : u.turn = none) : u.goodAnswer t n r =
    let online := u.withLane t.lane (if (u.lane t.lane).status = .offline then
      broughtOnline (u.lane t.lane) t.carried u.releaseActive else acknowledged (u.lane t.lane) t.carried)
    if reportIsNew (u.lane t.lane).link.acked n r then (online.noteReport t.lane n).takeReport t.lane r else online := by
  unfold goodAnswer
  simp only [stayed, Bool.false_eq_true, if_false, bringOnline_eq idle]
  by_cases offline : (u.lane t.lane).status = .offline
  · simp only [offline, if_true]
  · simp only [offline, if_false]
    rfl

theorem goodAnswer_of_left {u : State} (left : u.leftDuring t = true) : u.goodAnswer t n r =
    u.withLane t.lane { u.lane t.lane with link := { (u.lane t.lane).link with
      acked := if reportIsNew (u.lane t.lane).link.acked n r then some n else (u.lane t.lane).link.acked } } := by
  unfold goodAnswer
  simp only [left, if_true]
  split_ifs with fresh
  · rfl
  · exact (u.withLane_self t.lane).symm

/-- The device at the end of the turn `t`, with its lane as the answer leaves it. -/
def turnOver (s : State) (t : Turn) (x : Lane) : State := ({ s with turn := none }).withLane t.lane x

theorem exec_answer_of_stayed (turning : s.turn = some t) (stayed : t.absented = false)
    (present : (s.lane t.lane).mode ≠ .absent) (good : answerReport t.lane bytes = some (n, r)) {x : Lane}
    (lane : (if (s.lane t.lane).status = .offline then broughtOnline (s.lane t.lane) t.carried s.releaseActive
      else acknowledged (s.lane t.lane) t.carried) = x) :
    exec (.answer bytes) s = .next ((if reportIsNew (s.lane t.lane).link.acked n r then
      ((s.turnOver t x).noteReport t.lane n).takeReport t.lane r else s.turnOver t x).endEvent s.flags) := by
  have here : State.leftDuring { s with turn := none } t = false :=
    Bool.eq_false_iff.mpr fun left => by simp_all [leftDuring_iff, State.lane]
  rw [exec_answer_of_good turning good (goodAnswer_of_stayed here rfl), ← lane]
  rfl

theorem endEvent_turnOver (rest : s.atRest) {x : Lane}
    (calm : x.txn.isWaiting = true → (s.lane t.lane).txn.isWaiting = true) :
    (s.turnOver t x).endEvent s.flags = { s.withLane t.lane x with turn := none } :=
  endEvent_of_turn rfl rest calm

/-- An answer that brings its lane online is one from the lane online already, to a turn that carried nothing (R14). -/
theorem exec_answer_of_offline (turning : s.turn = some t) (stayed : t.absented = false)
    (present : (s.lane t.lane).mode ≠ .absent) (offline : (s.lane t.lane).status = .offline)
    (good : answerReport t.lane bytes = some (n, r)) :
    exec (.answer bytes) s = exec (.answer bytes)
      { s.withLane t.lane (broughtOnline (s.lane t.lane) t.carried s.releaseActive) with
        turn := some { t with carried := .empty } } := by
  set x := broughtOnline (s.lane t.lane) t.carried s.releaseActive with brought
  set u : State := { s.withLane t.lane x with turn := some { t with carried := .empty } } with online
  obtain ⟨mode, status, -, acked, misses⟩ := broughtOnline_kept (s.lane t.lane) t.carried s.releaseActive
  rw [← brought] at mode status acked misses
  have lane : u.lane t.lane = x := lane_withLane ..
  have idle : acknowledged x .empty = x := by
    have zero : 0 = x.link.misses := misses.symm
    rw [acknowledged, zero]
    rfl
  have ended : s.turnOver t x = u.turnOver { t with carried := .empty } x := by
    exact (withLane_withLane { s with turn := none } t.lane x x).symm
  have left := exec_answer_of_stayed turning stayed present good (x := x) (if_pos offline)
  have right := exec_answer_of_stayed (s := u) (t := { t with carried := .empty }) rfl stayed
    (by rw [lane, mode]; exact present) good (x := x) (by rw [lane, status]; exact idle)
  rw [left, right, lane, ended, acked]
  rfl

end State
end Sys2Proof.Machine
open Sys2Proof Sys2Proof.Machine

/-- Settles O18. -/
theorem aGoodAnswerAcknowledgesAndBringsOnline : Obligations.AGoodAnswerAcknowledgesAndBringsOnline := by
  have stays {s : State} {t : Turn} (stayed : t.absented = false) (present : (s.lane t.lane).mode ≠ .absent) :
      s.leftDuring t = false := Bool.eq_false_iff.mpr fun left => by simp_all [State.leftDuring_iff]
  refine ⟨⟨fun s rest t turning stayed present online r bytes n good old => ?_,
    fun s rest t turning left r bytes n good => ?_, fun k => ⟨fun c slot sent fresh => Link.acknowledge_of_fresh slot sent fresh,
      fun c slot sent stale => Link.acknowledge_of_stale slot sent stale, Link.acknowledge_of_unsent,
      fun d slot => Link.acknowledge_display slot, rfl⟩⟩,
    fun s t turning stayed present offline => ⟨fun rest r bytes n good old => ?_, fun r bytes n good => ?_⟩⟩
  · rw [State.exec_answer_of_stayed turning stayed present good (if_neg (by rw [online]; nofun)),
      State.reportIsNew_of_old old]
    exact congrArg _ (State.endEvent_turnOver rest id)
  · rw [State.exec_answer_of_good turning good (State.goodAnswer_of_left (u := { s with turn := none })
      (State.leftDuring_iff.mpr left))]
    have noted : (if reportIsNew (s.lane t.lane).link.acked n r then some n else (s.lane t.lane).link.acked) =
        if r = .nothing then (s.lane t.lane).link.acked else some n := by
      by_cases silent : r = .nothing
      · simp [reportIsNew, silent]
      · by_cases same : (s.lane t.lane).link.acked = some n
        · simp [reportIsNew, same, silent]
        · simp [reportIsNew, same, silent]
    rw [← noted]
    exact congrArg _ (State.endEvent_of_turn (by rfl) rest id)
  · rw [State.exec_answer_of_stayed turning stayed present good (if_pos offline), State.reportIsNew_of_old old]
    refine congrArg _ (State.endEvent_turnOver rest ?_)
    obtain ⟨-, -, txn, -⟩ := State.broughtOnline_kept (s.lane t.lane) t.carried s.releaseActive
    rw [txn]
    nofun
  · exact State.exec_answer_of_offline turning stayed present offline good
end

section
/-! The decision event (spec/03, R54, R55, R57). -/

namespace Sys2Proof.Machine

/-- The answer of a berth to a place request, as R112 orders its checks. -/
theorem Berth.holdRefusal_eq (b : Berth) (n : Nat) (priority : Bool) : b.holdRefusal n priority =
    if b.state ≠ .boarding ∧ b.state ≠ .full then some .boardingClosed
    else if b.source = .tally then some .staffBoarding
    else if b.halted = true then some .halted
    else if b.room - (if priority then 0 else (b.reserve : Int)) < n then some .full
    else none := by
  have tally : (b.source != .gates) = true ↔ b.source = .tally := by cases b.source <;> decide
  have room : (if priority then b.room else b.room - (b.reserve : Int)) = b.room - (if priority then 0 else (b.reserve : Int)) := by
    split_ifs
    · rw [sub_zero]
    · rfl
  simp only [Berth.holdRefusal, Bool.not_eq_true', BerthState.takesPassengers_eq_false_iff, tally, room]

namespace State

variable {s : State} {v : Validation}

/-- Stage 9 (R54). -/
theorem lacksJournalRoom_iff (s : State) (charge : Nat) : s.lacksJournalRoom charge = true ↔
    0 < charge ∧ 2048 ≤ s.journal.records.length + s.journal.reservations := by
  rw [lacksJournalRoom, Bool.and_eq_true, decide_eq_true_iff, decide_eq_true_iff]
  rfl

theorem countHoldRefusal_eq (s : State) (b : BerthId) : s.countHoldRefusal b =
    if (s.berth b).state = .idle then s else s.withBerth b { s.berth b with
      counts := { (s.berth b).counts with refusals := min 65535 ((s.berth b).counts.refusals + 1) } } := by
  rw [countHoldRefusal, onBerth]
  split_ifs
  · simp [berth]
  · rfl

theorem takeAdmission_eq {u : State} {l : LaneId} (takes : (u.lane l).takesFrames = true) (image : CardImage)
    (w : CardWrite) : u.takeAdmission l image w = u.withLane l { u.lane l with
      txn := .writing image w
      link := (u.lane l).link.placeCardWrite (u.lane l).link.tag image.card w.image } := by
  rw [takeAdmission, askCardWrite, if_pos (by rw [lane_onLane_self]; exact takes), onLink, onLane_onLane]
  rfl

/-- An admission (R23, R55, R57, R147). -/
theorem admission_eq (present : (s.lane v.lane).mode ≠ .absent) (online : (s.lane v.lane).status = .online) (p : Product)
    (charge : Nat) (image : NewImage) : s.admission v p charge image =
      let b := s.berth v.berth
      let held := { b with counts := { b.counts with held := b.counts.held + p.riders } }.follow
      let r := if 0 < charge then s.reserve else s
      { (r.withLane v.lane { s.lane v.lane with
          txn := .writing v.image (s.newWrite v p charge image)
          link := (s.lane v.lane).link.placeCardWrite (s.lane v.lane).link.tag v.image.card image }).withBerth v.berth
            held with
        engine := none
        flags := r.flags ||| (if b.state = .boarding ∧ held.state = .full then 0x10#16 else 0) |||
          (if v.watch then 2#16 else 0) } := by
  set b := s.berth v.berth with berth
  set held := { b with counts := { b.counts with held := b.counts.held + p.riders } }.follow with places
  set m := flagsIf (b.state == .boarding && held.state == .full) 0x10#16 with mark
  set r := if 0 < charge then s.reserve else s with reserved
  have full : m = if b.state = .boarding ∧ held.state = .full then 0x10#16 else 0 := by
    rw [mark, flagsIf]
    simp only [Bool.and_eq_true, beq_iff_eq]
  have device : (if 0 < charge then (s.hold v.berth p.riders).reserve else s.hold v.berth p.riders) =
      { r.withBerth v.berth held with flags := r.flags ||| m } := by
    have holds : s.hold v.berth p.riders = { s.withBerth v.berth held with flags := s.flags ||| m } := atBerth_eq ..
    rw [holds, reserved]
    split_ifs
    · rw [reserve_eq, reserve_eq]
      dsimp only [withBerth]
      rw [BitVec.or_assoc, BitVec.or_comm m, ← BitVec.or_assoc]
    · rfl
  have lane : r.lane v.lane = s.lane v.lane := by
    rw [reserved]
    split_ifs
    · exact lane_reserve ..
    · rfl
  have takes : (r.lane v.lane).takesFrames = true := by
    rw [lane]
    exact (Lane.takesFrames_iff _).mpr ⟨online, present⟩
  show State.freeEngine (State.takeAdmission (if 0 < charge then _ else _) v.lane v.image _) v.watch = _
  rw [device, freeEngine_eq, takeAdmission_eq (by exact takes)]
  have found : State.lane { r.withBerth v.berth held with flags := r.flags ||| m } v.lane = s.lane v.lane := lane
  have marks : (if v.watch then (r.flags ||| m) ||| 2#16 else r.flags ||| m) =
      r.flags ||| (if b.state = .boarding ∧ held.state = .full then 0x10#16 else 0) ||| (if v.watch then 2#16 else 0) := by
    rw [← full]
    split_ifs
    · rfl
    · exact (BitVec.or_zero).symm
  rw [found]
  exact congrArg (fun flags : Half => ({ (r.withLane v.lane { s.lane v.lane with
      txn := .writing v.image (s.newWrite v p charge image)
      link := (s.lane v.lane).link.placeCardWrite (s.lane v.lane).link.tag v.image.card image }).withBerth v.berth held with
    engine := none, flags := flags } : State)) marks

end State

/-- The decision event of a validation (R54, R55). -/
theorem exec_decisionEvent {s : State} {v : Validation} (he : s.engine = some v) (hs : v.stage = .decision) {i : BankId}
    (hb : v.bank = some i) {p : Product} (hp : v.product = some p) {f : Nat × NewImage} (hf : v.fare = some f) :
    exec .decisionEvent s = .next (
      let b := s.berth v.berth
      let priority := (s.bank i).classes[v.cls.getD v.image.cls].priority
      let refused := (s.countHoldRefusal v.berth).refusedBy v
      if 0 < f.1 ∧ 2048 ≤ s.journal.records.length + s.journal.reservations then s.refusedBy v .outOfService
      else if b.state ≠ .boarding ∧ b.state ≠ .full then refused .boardingClosed
      else if b.source = .tally then refused .staffBoarding
      else if b.halted = true then refused .halted
      else if b.room - (if priority then 0 else (b.reserve : Int)) < p.riders then refused .full
      else (s.admission v p f.1 f.2).endEvent s.flags) := by
  have run : exec .decisionEvent s = .next ((s.runDecision v).endEvent s.flags) :=
    congrArg Host.Outcome.next (State.atStage_of_next State.runDecision he hs)
  have refused (code : RefusalCode) : ((s.countHoldRefusal v.berth).refuse v none code).endEvent s.flags =
      (s.countHoldRefusal v.berth).refusedBy v code :=
    State.endEvent_refuse_none (s.countHoldRefusal v.berth) v code
  rw [run, State.runDecision, State.bankOf, hb, hp, hf, Option.map_some]
  simp only [State.lacksJournalRoom_iff, Berth.holdRefusal_eq]
  refine congrArg Host.Outcome.next ?_
  have priority : v.priority (s.bank i) = (s.bank i).classes[v.cls.getD v.image.cls].priority := rfl
  rw [priority]
  split_ifs <;> simp only [State.endEvent_refuse_none, refused]

end Sys2Proof.Machine
open Sys2Proof Sys2Proof.Machine

/-- Settles O35. -/
theorem theDecisionAdmitsOrRefuses : Obligations.TheDecisionAdmitsOrRefuses := by
  intro s v he hs i hb p hp f hf present online
  have version : s.versionOf v = (s.bank i).version := by rw [State.versionOf, State.bankOf, hb]; rfl
  rw [exec_decisionEvent he hs hb hp hf, State.countHoldRefusal_eq, State.admission_eq present online, State.newWrite,
    version]
end

section
/-! Stage 2: the recovery entry of a card resolved at its tap (spec/05, R97 to R100). -/

namespace Sys2Proof.Machine
namespace State

variable {s : State} {v : Validation} {e : RecoveryEntry}

/-! ### What the laws of admission say of an entry and of the validation in flight -/

theorem placesSound.of_entry (sound : s.placesSound) (listed : e ∈ s.recovery) :
    1 ≤ e.riders ∧ e.riders ≤ (s.berth e.berth).counts.held ∧ (s.berth e.berth).state ≠ .idle ∧
    (s.berth e.berth).state ≠ .alongside := by
  obtain ⟨-, -, -, -, -, some_rider, -⟩ := id sound
  obtain ⟨berth, held, -, -⟩ := sound.1 e.berth
  have riders := some_rider e listed
  have share : e.riders ≤ (s.berth e.berth).counts.held := by
    rw [held]
    calc e.riders
      _ = e.ridersAt e.berth := (if_pos rfl).symm
      _ ≤ (s.recovery.map (·.ridersAt e.berth)).sum := List.single_le_sum (by simp) _ (List.mem_map_of_mem listed)
      _ ≤ s.heldFor e.berth := Nat.le_add_left _ _
  exact ⟨riders, share, Berth.state_of_held berth (by omega)⟩

theorem placesSound.of_validating (sound : s.placesSound) (busy : s.engine = some v) :
    (s.lane v.lane).mode = .entry v.berth ∧ (s.lane v.lane).status = .online ∧ s.releaseActive = false := by
  obtain ⟨-, -, in_flight, -⟩ := id sound
  have txn := validating_of_engineSound in_flight busy
  have lawful := sound.lane_lawful v.lane
  simp only [Lane.lawful, Lane.txnLawful, txn, Bool.and_eq_true, Bool.not_eq_true'] at lawful
  obtain ⟨⟨⟨⟨⟨-, outside⟩, -⟩, -⟩, online⟩, -⟩ := lawful
  simp only [engineSound, busy, Bool.and_eq_true, beq_iff_eq] at in_flight
  obtain ⟨⟨⟨-, mode⟩, -⟩, -⟩ := in_flight
  exact ⟨mode, by simpa using online, outside⟩

/-! ### TOOK, and a retry -/

theorem record_recovery_set (s : State) (rest : List RecoveryEntry) (reserved : Bool) (d : Draft) :
    State.record { s with recovery := rest } reserved d = { s.record reserved d with recovery := rest } := by
  rw [record_eq, record_eq]

/-- The draft of an entry whose card has taken the write (R98). -/
def tookDraft (l : LaneId) (e : RecoveryEntry) : Draft :=
  cardDraft .recoveredTook ⟨e.watch, false, false⟩ l e.berth e.card e.product e.cls e.riders e.charge e.image.balance
    e.version

/-- What TOOK leaves before the credits are granted (R98). -/
def tookBefore (s : State) (v : Validation) (e : RecoveryEntry) : State :=
  State.withLane { (s.record e.reservation (tookDraft v.lane e)).withBerth e.berth
    ((s.berth e.berth).converted s.settings.quietUnit e.riders e.charge) with
      recovery := s.recovery.filter (·.card != e.card) } v.lane { s.lane v.lane with txn := .none }

theorem took_eq (sound : s.placesSound) (listed : e ∈ s.recovery) :
    s.took v e = ((s.tookBefore v e).grantCredits v.lane e.riders).freeEngine e.watch := by
  obtain ⟨-, -, -, -, distinct, -⟩ := id sound
  obtain ⟨-, held, sailing, moored⟩ := sound.of_entry listed
  have removed : ((s.record e.reservation (entryDraft .recoveredTook v.lane false e)).withBerth e.berth
      ((s.berth e.berth).converted s.settings.quietUnit e.riders e.charge)).removeEntry e.card =
      { (s.record e.reservation (tookDraft v.lane e)).withBerth e.berth
        ((s.berth e.berth).converted s.settings.quietUnit e.riders e.charge) with
          recovery := s.recovery.filter (·.card != e.card) } := by
    rw [removeEntry, ← eraseP_card distinct]
    exact congrArg (fun es => ({ (s.record e.reservation (tookDraft v.lane e)).withBerth e.berth
        ((s.berth e.berth).converted s.settings.quietUnit e.riders e.charge) with
          recovery := es.eraseP (·.card == e.card) } : State)) (record_recovery ..)
  rw [took, convert_eq (sound.settled e.berth) sailing moored held, record_withBerth, removed, tookBefore, endTransaction]
  refine congrArg (fun u : State => (u.grantCredits v.lane e.riders).freeEngine e.watch) (onLane_eq_of_lane ?_)
  exact congrArg (fun x : Lane => { x with txn := .none }) (lane_record ..)

theorem retry_eq (distinct : (s.recovery.map (·.card)).Nodup) (takes : (s.lane v.lane).takesFrames = true) :
    s.retry v e = { s.withLane v.lane { s.lane v.lane with
        txn := .writing v.image (retryWrite e s.settings.writeTime)
        link := (s.lane v.lane).link.placeCardWrite (s.lane v.lane).link.tag v.image.card e.image } with
      recovery := s.recovery.filter (·.card != e.card), engine := none
      flags := if e.watch then s.flags ||| 2#16 else s.flags } := by
  rw [retry, freeEngine_eq, takeAdmission_eq (by exact takes), removeEntry, eraseP_card distinct]
  rfl

theorem lane_tookBefore : (s.tookBefore v e).lane v.lane = { s.lane v.lane with txn := .none } := lane_withLane ..

theorem berth_tookBefore : (s.tookBefore v e).berth e.berth =
    (s.berth e.berth).converted s.settings.quietUnit e.riders e.charge :=
  berth_withBerth ..

/-- TOOK at a leaf that is not FAULT grants the credits (R25, R98). -/
theorem took_of_sound (sound : s.placesSound) (gates : s.gatesInOrder) (busy : s.engine = some v)
    (listed : e ∈ s.recovery) (leaf : (s.lane v.lane).leaf ≠ .fault) :
    s.took v e = { ((s.record e.reservation (tookDraft v.lane e)).withLane v.lane
        (Lane.granted e.riders s.settings.holdTime (s.carriedBy v.lane) { s.lane v.lane with txn := .none })).withBerth
          e.berth ((s.berth e.berth).converted s.settings.quietUnit e.riders e.charge) with
      recovery := s.recovery.filter (·.card != e.card), engine := none
      flags := if e.watch then (s.record e.reservation (tookDraft v.lane e)).flags ||| 2#16
        else (s.record e.reservation (tookDraft v.lane e)).flags } := by
  obtain ⟨mode, online, outside⟩ := sound.of_validating busy
  obtain ⟨some_rider, -⟩ := sound.of_entry listed
  have granted := grantCredits_of_sound (s := s.tookBefore v e) (l := v.lane) (b := v.berth) (n := e.riders)
    (by rw [lane_tookBefore]; exact leaf) ((record_releaseActive ..).trans outside)
    (by rw [lane_tookBefore]; exact (gates v.lane).trans (by rw [wantedOrder, outside, mode]))
    (by rw [lane_tookBefore]; exact mode) (by rw [lane_tookBefore]; exact online) some_rider
  have time : (s.tookBefore v e).settings.holdTime = s.settings.holdTime :=
    congrArg Settings.holdTime (record_settings s e.reservation _)
  have carried : (s.tookBefore v e).carriedBy v.lane = s.carriedBy v.lane := carriedBy_record ..
  rw [took_eq sound listed, granted, onLane_eq_of_lane (congrArg _ lane_tookBefore), time, carried, freeEngine_eq,
    tookBefore, withLane_withLane]
  rfl

/-- TOOK at a faulted leaf forfeits the credits at once (R25, R27, R98). -/
theorem took_of_fault (sound : s.placesSound) (busy : s.engine = some v) (listed : e ∈ s.recovery)
    (own : v.berth = e.berth) (leaf : (s.lane v.lane).leaf = .fault) :
    let f := (s.record e.reservation (tookDraft v.lane e)).record false (forfeitRecord v.lane e.berth e.riders false)
    s.took v e = { (f.withLane v.lane
        (Lane.countForfeit e.riders (Lane.countAdmission { s.lane v.lane with txn := .none }))).withBerth
          e.berth (((s.berth e.berth).converted s.settings.quietUnit e.riders e.charge).counted (.forfeit e.riders)) with
      recovery := s.recovery.filter (·.card != e.card), engine := none
      flags := if e.watch then f.flags ||| 2#16 else f.flags } := by
  obtain ⟨mode, -, -⟩ := sound.of_validating busy
  obtain ⟨-, held, -, moored⟩ := sound.of_entry listed
  have forfeited := grantCredits_of_fault (s := s.tookBefore v e) (l := v.lane) (b := e.berth) (n := e.riders)
    (by rw [lane_tookBefore]; exact leaf) (by rw [lane_tookBefore, ← own]; exact mode)
    (by rw [berth_tookBefore]; exact (sound.settled e.berth).converted held _ _)
    (by rw [berth_tookBefore, Berth.state_converted]; exact moored)
  intro f
  have device : (s.tookBefore v e).grantCredits v.lane e.riders = State.withLane { f.withBerth e.berth
      (((s.berth e.berth).converted s.settings.quietUnit e.riders e.charge).counted (.forfeit e.riders)) with
        recovery := s.recovery.filter (·.card != e.card) } v.lane
      (Lane.countForfeit e.riders (Lane.countAdmission { s.lane v.lane with txn := .none })) := by
    rw [forfeited, berth_tookBefore, tookBefore, withLane_eq_onLane, withBerth_onLane, record_onLane, onLane_onLane]
    set c := (s.berth e.berth).converted s.settings.quietUnit e.riders e.charge with converted
    have twice : State.withBerth { (s.record e.reservation (tookDraft v.lane e)).withBerth e.berth c with
          recovery := s.recovery.filter (·.card != e.card) } e.berth (c.counted (.forfeit e.riders)) =
        { (s.record e.reservation (tookDraft v.lane e)).withBerth e.berth (c.counted (.forfeit e.riders)) with
          recovery := s.recovery.filter (·.card != e.card) } :=
      congrArg (fun u : State => { u with recovery := s.recovery.filter (·.card != e.card) }) (withBerth_withBerth ..)
    rw [twice, record_recovery_set, record_withBerth]
    rfl
  rw [took_eq sound listed, device, freeEngine_eq]
  rfl

end State

/-- Stage 2 at a card without an entry (R47). -/
theorem exec_stageRecoveryMatch_of_none {s : State} {v : Validation} (he : s.engine = some v)
    (hs : v.stage = .recoveryMatch) (unlisted : ∀ e ∈ s.recovery, e.card ≠ v.image.card) :
    exec .stageRecoveryMatch s = .next (s.passedTo { v with stage := .cardStatus }) := by
  have run : exec .stageRecoveryMatch s = .next ((s.runRecoveryMatch v).endEvent s.flags) :=
    congrArg Host.Outcome.next (State.atStage_of_next State.runRecoveryMatch he hs)
  have absent : s.entryFor v.image.card = none :=
    List.find?_eq_none.mpr fun e listed => by simpa using unlisted e listed
  rw [run, State.runRecoveryMatch, absent]
  rfl

/-- Stage 2 at a card with an entry: its checks in order (R97 to R100). -/
theorem exec_stageRecoveryMatch_of_entry {s : State} {v : Validation} (sound : s.placesSound) (he : s.engine = some v)
    (hs : v.stage = .recoveryMatch) {e : RecoveryEntry} (listed : e ∈ s.recovery) (same : e.card = v.image.card) :
    exec .stageRecoveryMatch s = .next (
      if v.berth ≠ e.berth then s.refusedAt v e.cls e.riders e.watch .wrongBerth
      else if v.image.sequence = e.image.sequence then
        if decide ((s.lane v.lane).credits + e.riders ≤ 15) then (s.took v e).endEvent s.flags
        else s.refusedAt v e.cls e.riders e.watch .laneBusy
      else if v.image.sequence + 1 = e.image.sequence then
        if decide ((s.lane v.lane).credits + e.riders ≤ 15) then (s.retry v e).endEvent s.flags
        else s.refusedAt v e.cls e.riders e.watch .laneBusy
      else State.endEvent { s.unresolved e with engine := some { v with stage := .cardStatus } } s.flags) := by
  obtain ⟨-, -, -, -, distinct, -⟩ := id sound
  have run : exec .stageRecoveryMatch s = .next ((s.runRecoveryMatch v).endEvent s.flags) :=
    congrArg Host.Outcome.next (State.atStage_of_next State.runRecoveryMatch he hs)
  have found : s.entryFor v.image.card = some e := same ▸ State.find?_card distinct listed
  have refused (code : RefusalCode) : (s.refuse v (some e) code).endEvent s.flags =
      s.refusedAt v e.cls e.riders e.watch code := s.endEvent_refuse v (some e) code
  have next : e.image.oldSequence + 1 = e.image.sequence := BitVec.sub_add_cancel ..
  have old : v.image.sequence = e.image.oldSequence ↔ v.image.sequence + 1 = e.image.sequence := by
    rw [NewImage.oldSequence]
    constructor
    · intro h
      rw [h, BitVec.sub_add_cancel]
    · intro h
      rw [← h, BitVec.add_sub_cancel]
  have lacks : s.lacksLaneRoom v.lane e.riders = true ↔ ¬ (s.lane v.lane).credits + e.riders ≤ 15 := by
    rw [State.lacksLaneRoom_iff, Nat.not_le]
  rw [run, State.runRecoveryMatch, found]
  dsimp only
  rw [State.resolve, next, State.closeEntry_eq distinct (sound.settled e.berth)]
  simp only [old, lacks, decide_eq_true_iff, ite_not, apply_ite (State.endEvent · s.flags), refused]
  rfl

end Sys2Proof.Machine
open Sys2Proof Sys2Proof.Machine

/-- Settles O36. -/
theorem stageRecoveryMatchResolvesTheEntry : Obligations.StageRecoveryMatchResolvesTheEntry := by
  refine ⟨fun s v he hs unlisted => exec_stageRecoveryMatch_of_none he hs unlisted, fun s sound gates v he hs e listed same => ?_⟩
  rw [exec_stageRecoveryMatch_of_entry sound he hs listed same]
  refine congrArg Host.Outcome.next ?_
  obtain ⟨-, -, -, -, distinct, -⟩ := id sound
  obtain ⟨mode, online, -⟩ := sound.of_validating he
  have takes : (s.lane v.lane).takesFrames = true := (Lane.takesFrames_iff _).mpr ⟨online, by rw [mode]; nofun⟩
  refine ite_congr rfl (fun _ => rfl) fun own => ite_congr rfl (fun _ => ite_congr rfl (fun _ => ?_) fun _ => rfl) fun _ =>
    ite_congr rfl (fun _ => ite_congr rfl (fun _ => ?_) fun _ => rfl) fun _ => rfl
  · by_cases fault : (s.lane v.lane).leaf = .fault
    · rw [State.took_of_fault sound he listed (not_not.mp own) fault]
      exact (if_pos fault).symm
    · rw [State.took_of_sound sound gates he listed fault]
      exact (if_neg fault).symm
  · rw [State.retry_eq distinct takes]
    rfl
end

section
/-! Events that touch many lanes and entries, as one change of the journal and of each berth's counts (spec/05, spec/06). -/

namespace Sys2Proof.Machine

/-! ### Counts given back -/

theorem raised_raised (top n j k : Nat) : raised top (raised top n j) k = raised top n (j + k) := by
  unfold raised
  split_ifs <;> omega

/-- The counts of a berth that gets `n` forfeited places back, or none (R117). -/
def Counts.forfeits (n : Nat) (c : Counts) : Counts :=
  { c with granted := c.granted - n, forfeited := raised 65535 c.forfeited n }

/-- The counts of a berth that releases `n` held places (R114). -/
def Counts.releases (n : Nat) (c : Counts) : Counts := { c with held := c.held - n }

theorem Counts.forfeits_zero : Counts.forfeits 0 = id := rfl
theorem Counts.releases_zero : Counts.releases 0 = id := rfl

theorem Counts.forfeits_of_pos {n : Nat} (some_place : n ≠ 0) : Counts.forfeits n = Counts.forfeit n := by
  funext c
  rw [Counts.forfeits, Counts.forfeit, raised, if_neg some_place]

theorem Counts.forfeits_forfeits (m n : Nat) : Counts.forfeits n ∘ Counts.forfeits m = Counts.forfeits (m + n) := by
  funext c
  simp only [Function.comp, Counts.forfeits, raised_raised, Nat.sub_sub]

theorem Counts.releases_releases (m n : Nat) : Counts.releases n ∘ Counts.releases m = Counts.releases (m + n) := by
  funext c
  simp only [Function.comp, Counts.releases, Nat.sub_sub]

/-- Changes of counts that add up, one after another. -/
theorem foldl_comp_sum {α : Type} {f : Nat → Counts → Counts} (zero : f 0 = id) (add : ∀ m n, f n ∘ f m = f (m + n))
    (g : α → Nat) (xs : List α) (h : Counts → Counts) :
    xs.foldl (fun h x => f (g x) ∘ h) h = f (xs.map g).sum ∘ h := by
  induction xs generalizing h with
  | nil => rw [List.foldl_nil, List.map_nil, List.sum_nil, zero, Function.id_comp]
  | cons x xs ih => rw [List.foldl_cons, ih, ← Function.comp_assoc, add, List.map_cons, List.sum_cons]

namespace State

/-! ### Records, one after another -/

/-- What no record looks at commutes with the records of an event. -/
theorem recordAll_comm {g : State → State} (blind : ∀ t r d, (g t).record r d = g (t.record r d))
    (rs : List (Bool × Draft)) (t : State) : (g t).recordAll rs = g (t.recordAll rs) := by
  induction rs generalizing t with
  | nil => rfl
  | cons r rs ih => exact (congrArg (·.recordAll rs) (blind t r.1 r.2)).trans (ih _)

theorem recordAll_append (t : State) (rs rs' : List (Bool × Draft)) :
    t.recordAll (rs ++ rs') = (t.recordAll rs).recordAll rs' :=
  List.foldl_append

theorem recordAll_shape (t : State) (rs : List (Bool × Draft)) :
    t.recordAll rs = { t with journal := (t.recordAll rs).journal, flags := (t.recordAll rs).flags } := by
  induction rs generalizing t with
  | nil => rfl
  | cons r rs ih =>
    exact (ih (t.record r.1 r.2)).trans (congrArg (fun u : State => { u with
      journal := (t.recordAll (r :: rs)).journal, flags := (t.recordAll (r :: rs)).flags }) (t.record_shape r.1 r.2))

theorem recordAll_berths (t : State) (rs : List (Bool × Draft)) (bs : Vector Berth 4) :
    State.recordAll { t with berths := bs } rs = { t.recordAll rs with berths := bs } :=
  recordAll_comm (g := fun t => { t with berths := bs }) (fun t r d => by rw [record_eq, record_eq]) rs t

theorem recordAll_onLane (t : State) (l : LaneId) (f : Lane → Lane) (rs : List (Bool × Draft)) :
    (t.onLane l f).recordAll rs = (t.recordAll rs).onLane l f :=
  recordAll_comm (g := (·.onLane l f)) (fun t r d => t.record_onLane l f r d) rs t

/-! ### An event's records and its changes of counts -/

/-- The records `rs` taken, and the counts of each berth changed by `f` in an event that works room out afresh. -/
def charge (t : State) (rs : List (Bool × Draft)) (f : BerthId → Counts → Counts) : State :=
  { t.recordAll rs with berths := .ofFn fun b => (t.berth b).counted (f b) }

variable {s t : State}

@[simp] theorem berth_charge (rs : List (Bool × Draft)) (f : BerthId → Counts → Counts) (b : BerthId) :
    (t.charge rs f).berth b = (t.berth b).counted (f b) := by
  simp [charge, berth]

theorem charge_shape (t : State) (rs : List (Bool × Draft)) (f : BerthId → Counts → Counts) :
    t.charge rs f = { t with
      berths := (t.charge rs f).berths, journal := (t.charge rs f).journal, flags := (t.charge rs f).flags } := by
  rw [charge, recordAll_shape]

@[simp] theorem lane_charge (rs : List (Bool × Draft)) (f : BerthId → Counts → Counts) (l : LaneId) :
    (t.charge rs f).lane l = t.lane l :=
  lane_congr (by rw [charge_shape]) l

theorem berths_ext {bs bs' : Vector Berth 4} (same : ∀ b : BerthId, bs[b] = bs'[b]) : bs = bs' :=
  Vector.ext fun i below => same ⟨i, below⟩

theorem charge_charge (t : State) (rs rs' : List (Bool × Draft)) (f f' : BerthId → Counts → Counts) :
    (t.charge rs f).charge rs' f' = t.charge (rs ++ rs') fun b => f' b ∘ f b := by
  have berths : (Vector.ofFn fun b => ((t.charge rs f).berth b).counted (f' b)) =
      Vector.ofFn fun b => (t.berth b).counted (f' b ∘ f b) := by
    simp only [berth_charge, Berth.counted_counted]
  rw [charge, berths, charge, recordAll_berths, charge, recordAll_append]

theorem charge_onLane (t : State) (l : LaneId) (g : Lane → Lane) (rs : List (Bool × Draft))
    (f : BerthId → Counts → Counts) : (t.onLane l g).charge rs f = (t.charge rs f).onLane l g := by
  rw [charge, recordAll_onLane]
  rfl

/-- The berths of a device follow their room. -/
abbrev Settled (s : State) : Prop := ∀ b, (s.berth b).Settled

theorem Settled.charge (settled : t.Settled) (rs : List (Bool × Draft)) (f : BerthId → Counts → Counts) :
    (t.charge rs f).Settled := fun b => by
  rw [berth_charge]
  exact (settled b).counted _

theorem charge_of_same (settled : t.Settled) {f : BerthId → Counts → Counts}
    (same : ∀ b, f b (t.berth b).counts = (t.berth b).counts) (rs : List (Bool × Draft)) :
    t.charge rs f = t.recordAll rs := by
  have berths : (Vector.ofFn fun b => (t.berth b).counted (f b)) = t.berths :=
    berths_ext fun b => by
      simpa [berth] using (settled b).counted_id (same b)
  rw [charge, berths]
  rw [recordAll_shape]

theorem charge_nil (settled : t.Settled) : t.charge [] (fun _ => id) = t :=
  charge_of_same settled (fun _ => rfl) []

/-- A change of one berth's counts. -/
theorem withBerth_counted (settled : t.Settled) (b : BerthId) (f : Counts → Counts) (rs : List (Bool × Draft)) :
    (t.recordAll rs).withBerth b ((t.berth b).counted f) = t.charge rs fun c => if c = b then f else id := by
  have berths : t.berths.set b ((t.berth b).counted f) =
      Vector.ofFn fun c => (t.berth c).counted (if c = b then f else id) := by
    refine berths_ext fun c => ?_
    by_cases same : c = b
    · subst same
      simp
    · have apart : (b : Nat) ≠ c := fun h => same (Fin.ext h.symm)
      have kept : (t.berth c).counted id = t.berth c := (settled c).counted_id rfl
      simp only [Fin.getElem_fin, Vector.getElem_set_ne _ _ apart, Vector.getElem_ofFn, if_neg same, Fin.eta, kept]
      rfl
  have kept : (t.recordAll rs).berths = t.berths := by rw [recordAll_shape]
  rw [withBerth, kept, berths]
  rfl

/-- Changes one after another, each told by a thing of a list. -/
theorem foldl_charge {α : Type} (settled : t.Settled) (rs : α → List (Bool × Draft)) (f : α → BerthId → Counts → Counts)
    (xs : List α) : xs.foldl (fun u x => u.charge (rs x) (f x)) t =
      t.charge (xs.flatMap rs) fun b => xs.foldl (fun h x => f x b ∘ h) id := by
  have from_charge (ys : List (Bool × Draft)) (h : BerthId → Counts → Counts) :
      xs.foldl (fun u x => u.charge (rs x) (f x)) (t.charge ys h) =
        t.charge (ys ++ xs.flatMap rs) fun b => xs.foldl (fun h x => f x b ∘ h) (h b) := by
    induction xs generalizing ys h with
    | nil => rw [List.flatMap_nil, List.append_nil]; rfl
    | cons x xs ih =>
      rw [List.foldl_cons, charge_charge, ih, List.flatMap_cons, List.append_assoc]
      rfl
  have start := from_charge [] fun _ => id
  rw [charge_nil settled] at start
  exact start

end State
end Sys2Proof.Machine
end

section
/-! Forfeits, orphaned writes and closed entries as changes of counts (R27, R90, R92). -/

namespace Sys2Proof.Machine

/-- A lane that loses its credits, where it has any (R27). -/
def Lane.losing (x : Lane) : Lane := if x.credits = 0 then x else x.forfeitCredits x.credits

/-- A transaction whose write, where it is one, is orphaned (R90). -/
def Transaction.orphan : Transaction → Transaction
  | .writing image w => .writing image { w with orphaned := true }
  | other => other

theorem Lane.creditsAt_of_none {x : Lane} (none_left : x.credits = 0) (b : BerthId) : x.creditsAt b = 0 := by
  rw [Lane.creditsAt]
  split_ifs
  · exact none_left
  · rfl

theorem Lane.forfeitRecords_of_none {x : Lane} (none_left : x.credits = 0) (l : LaneId) (release : Bool) :
    x.forfeitRecords l release = [] := by
  unfold Lane.forfeitRecords
  split
  · exact if_pos none_left
  · rfl

theorem Lane.forfeitRecords_of_entry {x : Lane} {b : BerthId} (credits : x.credits ≠ 0) (mode : x.mode = .entry b)
    (l : LaneId) (release : Bool) : x.forfeitRecords l release = [(false, forfeitRecord l b x.credits release)] := by
  rw [Lane.forfeitRecords, mode]
  exact if_neg credits

namespace State

variable {s t : State} {l : LaneId}

/-- The berths follow their room, and the credits of every lane stand at a berth that can take them back. -/
structure Forfeitable (t : State) : Prop where
  settled : t.Settled
  credits : ∀ l, (t.lane l).credits ≠ 0 → ∃ b, (t.lane l).mode = .entry b ∧ (t.berth b).state ≠ .alongside

theorem placesSound.forfeitable (sound : s.placesSound) : s.Forfeitable :=
  ⟨sound.settled, fun l credits => by
    obtain ⟨-, -, -, -, -, b, mode, -, -, moored⟩ := sound.of_opened (Lane.leaf_of_credits credits)
    exact ⟨b, mode, moored⟩⟩

/-- A change of counts and of a lane keeps what a forfeit relies on, unless the lane gains credits. -/
theorem Forfeitable.charge_onLane (holds : t.Forfeitable) (rs : List (Bool × Draft)) (f : BerthId → Counts → Counts)
    {g : Lane → Lane} (kept : (g (t.lane l)).credits ≠ 0 → (t.lane l).credits ≠ 0 ∧ (g (t.lane l)).mode = (t.lane l).mode) :
    ((t.charge rs f).onLane l g).Forfeitable := by
  have moored (b : BerthId) (before : (t.berth b).state ≠ .alongside) : ((t.charge rs f).berth b).state ≠ .alongside :=
    Counted.moored (.inr ⟨_, berth_charge rs f b⟩) before
  refine ⟨holds.settled.charge rs f, fun m credits => ?_⟩
  by_cases own : m = l
  · subst own
    rw [lane_onLane_self, lane_charge] at credits ⊢
    obtain ⟨some_credit, mode⟩ := kept credits
    obtain ⟨b, entry, before⟩ := holds.credits m some_credit
    exact ⟨b, mode.trans entry, moored b before⟩
  · rw [lane_onLane_of_ne _ own, lane_charge] at credits ⊢
    obtain ⟨b, entry, before⟩ := holds.credits m credits
    exact ⟨b, entry, moored b before⟩

/-! ### One lane -/

/-- A forfeit of all credits of a lane (R27). -/
theorem forfeitAll_charge (holds : t.Forfeitable) (l : LaneId) (release : Bool) : t.forfeitAll l release =
    (t.charge ((t.lane l).forfeitRecords l release) fun b => .forfeits ((t.lane l).creditsAt b)).onLane l .losing := by
  by_cases none_left : (t.lane l).credits = 0
  · have same : t.charge ((t.lane l).forfeitRecords l release) (fun b => .forfeits ((t.lane l).creditsAt b)) = t := by
      rw [Lane.forfeitRecords_of_none none_left, charge_of_same holds.settled]
      · rfl
      · exact fun b => by rw [Lane.creditsAt_of_none none_left]; rfl
    rw [forfeitAll_of_none none_left, same]
    exact (onLane_of_eq (f := Lane.losing) (if_pos none_left)).symm
  · obtain ⟨b, mode, moored⟩ := holds.credits l none_left
    have counts : (fun c => if c = b then Counts.forfeit (t.lane l).credits else id) =
        fun c => Counts.forfeits ((t.lane l).creditsAt c) := by
      funext c
      by_cases same : c = b
      · subst same
        rw [if_pos rfl, Lane.creditsAt, if_pos mode, Counts.forfeits_of_pos none_left]
      · rw [if_neg same, Lane.creditsAt, if_neg (by rw [mode]; exact fun h => same (Mode.entry.inj h).symm)]
        rfl
    rw [forfeitAll_eq (Lane.leaf_of_credits none_left) (Nat.one_le_iff_ne_zero.mpr none_left) mode (holds.settled b) moored,
      record_withBerth, Lane.forfeitRecords_of_entry none_left mode, ← counts, ← withBerth_counted holds.settled]
    refine (onLane_congr ?_)
    rw [lane_withBerth, lane_record]
    exact (if_neg none_left).symm

theorem release_charge (settled : t.Settled) (b : BerthId) (n : Nat) :
    t.release b n = t.charge [] fun c => if c = b then .releases n else id := by
  rw [release_eq (settled b), ← withBerth_counted settled]
  rfl

/-- A write orphaned from outside (R90). -/
theorem orphan_charge (settled : t.Settled) (l : LaneId) : t.orphan l =
    (t.charge [] fun b => .releases ((t.lane l).txn.ridersAt b)).onLane l fun x => { x with txn := x.txn.orphan } := by
  have idle {x : Transaction} (txn : (t.lane l).txn = x) (none_held : ∀ b, x.ridersAt b = 0) (same : x.orphan = x) :
      t = (t.charge [] fun b => .releases (x.ridersAt b)).onLane l fun x => { x with txn := x.txn.orphan } := by
    rw [charge_of_same settled fun b => by rw [none_held]; rfl]
    refine (onLane_of_eq (f := fun x : Lane => { x with txn := x.txn.orphan }) ?_).symm
    show { t.lane l with txn := (t.lane l).txn.orphan } = _
    rw [txn, same, ← txn]
  unfold orphan
  cases txn : (t.lane l).txn with
  | writing image w =>
    dsimp only
    by_cases orphan : w.orphaned = true
    · rw [if_pos orphan]
      exact idle txn (fun b => if_neg (by simp [orphan])) (by rw [Transaction.orphan, ← orphan])
    · have live := Bool.eq_false_of_not_eq_true orphan
      have counts : (fun c => if c = w.berth then Counts.releases w.riders else id) =
          fun c => Counts.releases (Transaction.ridersAt c (.writing image w)) := by
        funext c
        by_cases same : c = w.berth
        · rw [if_pos same, Transaction.ridersAt, if_pos ⟨same.symm, live⟩]
        · rw [if_neg same, Transaction.ridersAt, if_neg fun h => same h.1.symm]
          rfl
      rw [if_neg orphan, release_charge settled, counts]
      refine onLane_congr ?_
      rw [lane_charge, txn]
      rfl
  | none => exact idle txn (fun _ => rfl) rfl
  | waiting image => exact idle txn (fun _ => rfl) rfl
  | validating image => exact idle txn (fun _ => rfl) rfl

/-! ### Entries -/

/-- An entry closed (R92). -/
theorem closeEntry_charge (settled : t.Settled) (release : Bool) (e : RecoveryEntry) : t.closeEntry release e =
    { t.charge [e.unresolvedRecord release] fun b => .releases (e.ridersAt b) with
      recovery := t.recovery.eraseP (·.card == e.card)
      flags := (t.charge [e.unresolvedRecord release] fun b => .releases (e.ridersAt b)).flags ||| 0x40#16 } := by
  have counts : (fun c => if c = e.berth then Counts.releases e.riders else id) =
      fun c => Counts.releases (e.ridersAt c) := by
    funext c
    by_cases same : c = e.berth
    · rw [if_pos same, RecoveryEntry.ridersAt, if_pos same.symm]
    · rw [if_neg same, RecoveryEntry.ridersAt, if_neg (Ne.symm same)]
      rfl
  have charged : (t.release e.berth e.riders).record e.reservation (entryDraft .unresolved e.lane release e) =
      t.charge [e.unresolvedRecord release] fun b => .releases (e.ridersAt b) := by
    rw [release_eq (settled e.berth), record_withBerth, ← counts, ← withBerth_counted settled]
    rfl
  have kept : (t.charge [e.unresolvedRecord release] fun b => .releases (e.ridersAt b)).recovery = t.recovery := by
    rw [charge_shape]
  rw [closeEntry, charged, removeEntry, ← kept]
  rfl

theorem charge_recovery (t : State) (rs : List (Bool × Draft)) (f : BerthId → Counts → Counts) (es : List RecoveryEntry)
    (m : Half) : State.charge { t with recovery := es, flags := t.flags ||| m } rs f =
      { t.charge rs f with recovery := es, flags := (t.charge rs f).flags ||| m } := by
  have records : State.recordAll { t with recovery := es, flags := t.flags ||| m } rs =
      { t.recordAll rs with recovery := es, flags := (t.recordAll rs).flags ||| m } := by
    refine recordAll_comm (g := fun t => { t with recovery := es, flags := t.flags ||| m }) (fun t r d => ?_) rs t
    rw [record_eq, record_eq]
    dsimp only
    rw [BitVec.or_assoc, BitVec.or_comm m, ← BitVec.or_assoc]
  rw [charge, records]
  rfl

/-- Entries closed one after another (R92, R102). -/
theorem foldl_closeEntry (settled : t.Settled) (release : Bool) (es : List RecoveryEntry) :
    es.foldl (fun u e => u.closeEntry release e) t =
      let u := t.charge (es.map (·.unresolvedRecord release)) fun b => .releases (es.map (·.ridersAt b)).sum
      { u with
        recovery := es.foldl (fun (kept : List RecoveryEntry) e => kept.eraseP (·.card == e.card)) t.recovery
        flags := u.flags ||| (if es = [] then 0 else 0x40#16) } := by
  induction es generalizing t with
  | nil =>
    have same := charge_nil settled
    rw [← Counts.releases_zero] at same
    have unmarked : t.flags ||| 0 = t.flags := BitVec.or_zero
    simp only [List.foldl_nil, List.map_nil, List.sum_nil, same, if_true, unmarked]
  | cons e es ih =>
    have charged := t.charge_charge [e.unresolvedRecord release] (es.map (·.unresolvedRecord release))
      (fun b => .releases (e.ridersAt b)) fun b => .releases (es.map (·.ridersAt b)).sum
    have settled' := settled.charge [e.unresolvedRecord release] fun b => .releases (e.ridersAt b)
    simp only [Counts.releases_releases] at charged
    rw [List.foldl_cons, closeEntry_charge settled, ih (by exact settled'), charge_recovery, charged]
    have marks (m : Half) : m ||| 0x40#16 ||| (if es = [] then 0 else 0x40#16) = m ||| 0x40#16 := by
      split_ifs
      · exact BitVec.or_zero
      · rw [BitVec.or_assoc, BitVec.or_self]
    simp only [marks, List.map_cons, List.sum_cons, List.foldl_cons, reduceCtorEq, if_false, List.singleton_append]

/-- Entries of distinct cards taken out of the list one after another. -/
theorem foldl_eraseP {es : List RecoveryEntry} (distinct : (es.map (·.card)).Nodup) (gone : List RecoveryEntry) :
    gone.foldl (fun (kept : List RecoveryEntry) e => kept.eraseP (·.card == e.card)) es =
      es.filter fun x => gone.all (x.card != ·.card) := by
  induction gone generalizing es with
  | nil => simp
  | cons e gone ih =>
    rw [List.foldl_cons, eraseP_card distinct, ih (distinct.sublist (List.filter_sublist.map _)), List.filter_filter]
    simp only [List.all_cons, Bool.and_comm]

/-- The entries that `which` picks closed, from the oldest (R92, R102). -/
theorem closeEntries_charge (settled : t.Settled) (distinct : (t.recovery.map (·.card)).Nodup) (release : Bool)
    (which : RecoveryEntry → Bool) : t.closeEntries release which =
      let es := t.recovery.filter which
      let u := t.charge (es.map (·.unresolvedRecord release)) fun b => .releases (es.map (·.ridersAt b)).sum
      { u with
        recovery := t.recovery.filter fun e => !which e
        flags := u.flags ||| (if es = [] then 0 else 0x40#16) } := by
  have gone : (t.recovery.filter fun x => (t.recovery.filter which).all (x.card != ·.card)) =
      t.recovery.filter fun e => !which e := by
    refine List.filter_congr fun x listed => ?_
    rw [Bool.eq_iff_iff]
    simp only [List.all_eq_true, List.mem_filter, bne_iff_ne, Bool.not_eq_true', Bool.eq_false_iff]
    refine ⟨fun others picked => others x ⟨listed, picked⟩ rfl, fun unpicked e ⟨other, picked⟩ same => ?_⟩
    exact unpicked ((List.inj_on_of_nodup_map distinct listed other same) ▸ picked)
  rw [closeEntries, foldl_closeEntry settled, foldl_eraseP distinct, gone]

end State
end Sys2Proof.Machine
end

section
/-! The start of release (spec/09, R161). -/

namespace Sys2Proof.Machine
namespace State

variable {s t : State}

/-! ### Forfeits and orphaned writes at every lane -/

theorem onLanes_onLanes (s : State) (f g : LaneId → Lane → Lane) :
    (s.onLanes f).onLanes g = s.onLanes fun l x => g l (f l x) := by
  have lanes : ((s.onLanes f).onLanes g).lanes = (s.onLanes fun l x => g l (f l x)).lanes :=
    lane_ext fun l => by rw [lane_onLanes, lane_onLanes, lane_onLanes]
  exact congrArg (fun lanes => { s with lanes := lanes }) lanes

theorem charge_onLanes (t : State) (g : LaneId → Lane → Lane) (rs : List (Bool × Draft))
    (f : BerthId → Counts → Counts) : (t.onLanes g).charge rs f = (t.charge rs f).onLanes g := by
  have records : (t.onLanes g).recordAll rs = (t.recordAll rs).onLanes g := by
    refine recordAll_comm (g := (·.onLanes g)) (fun t r d => ?_) rs t
    rw [record_eq, record_eq]
    rfl
  rw [charge, records]
  rfl

theorem onLanes_settled (settled : t.Settled) (g : LaneId → Lane → Lane) : (t.onLanes g).Settled := settled

/-- An act at every lane that takes records, changes counts and changes its lane. -/
theorem eachLane_charge {act : State → LaneId → State} {rs : LaneId → Lane → List (Bool × Draft)}
    {f : LaneId → Lane → BerthId → Counts → Counts} {g : LaneId → Lane → Lane} {P : State → Prop}
    (acts : ∀ t l, P t → act t l = (t.charge (rs l (t.lane l)) (f l (t.lane l))).onLane l (g l))
    (keeps : ∀ t l, P t → P (act t l)) (settled : s.Settled) (start : P s) :
    s.eachLane act = (s.charge (allLanes.flatMap fun l => rs l (s.lane l)) fun b =>
      allLanes.foldl (fun h l => f l (s.lane l) b ∘ h) id).onLanes g := by
  rw [eachLane_eq (device := fun l x t => t.charge (rs l x) (f l x)) acts keeps
    (fun l x t m h => charge_onLane t m h _ _) (fun l x t => by rw [charge_shape]) start,
    foldl_charge settled (fun l => rs l (s.lane l)) fun l => f l (s.lane l)]

theorem eachLane_forfeitAll (holds : s.Forfeitable) (release : Bool) : s.eachLane (fun t l => t.forfeitAll l release) =
    (s.charge (allLanes.flatMap fun l => (s.lane l).forfeitRecords l release) fun b => .forfeits (s.creditsFor b)).onLanes
      fun _ => .losing := by
  have losing (x : Lane) (credits : x.losing.credits ≠ 0) : x.credits ≠ 0 ∧ x.losing.mode = x.mode := by
    unfold Lane.losing at credits ⊢
    split_ifs at credits ⊢ with none_left
    · exact absurd none_left credits
    · exact absurd rfl credits
  rw [eachLane_charge (P := Forfeitable) (rs := fun l x => x.forfeitRecords l release)
    (f := fun _ x b => .forfeits (x.creditsAt b)) (g := fun _ => .losing) (fun t l holds => forfeitAll_charge holds l release)
    (fun t l holds => by rw [forfeitAll_charge holds]; exact holds.charge_onLane _ _ (losing _)) holds.settled holds]
  have counts (b : BerthId) :=
    foldl_comp_sum Counts.forfeits_zero Counts.forfeits_forfeits (fun l => (s.lane l).creditsAt b) allLanes id
  simp only [Function.comp_id] at counts
  simp only [counts]
  rfl

theorem eachLane_orphan (settled : s.Settled) : s.eachLane State.orphan =
    (s.charge [] fun b => .releases (allLanes.map fun l => (s.lane l).txn.ridersAt b).sum).onLanes
      fun _ x => { x with txn := x.txn.orphan } := by
  rw [eachLane_charge (P := Settled) (rs := fun _ _ => [])
    (f := fun _ x b => .releases (x.txn.ridersAt b)) (g := fun _ x => { x with txn := x.txn.orphan }) (fun t l settled => orphan_charge settled l)
    (fun t l settled => by rw [orphan_charge settled]; exact settled.charge [] _) settled settled]
  have counts (b : BerthId) :=
    foldl_comp_sum Counts.releases_zero Counts.releases_releases (fun l => (s.lane l).txn.ridersAt b) allLanes id
  simp only [Function.comp_id] at counts
  simp only [counts, List.flatMap_eq_nil_iff.mpr (fun (_ : LaneId) _ => rfl)]

/-- All entries closed, from the oldest (R92, R102). -/
theorem closeAll_charge {es : List RecoveryEntry} (settled : t.Settled) (distinct : (es.map (·.card)).Nodup)
    (listed : t.recovery = es) (release : Bool) : t.closeEntries release (fun _ => true) =
      let u := t.charge (es.map (·.unresolvedRecord release)) fun b => .releases (es.map (·.ridersAt b)).sum
      { u with recovery := [], flags := u.flags ||| (if es = [] then 0 else 0x40#16) } := by
  subst listed
  rw [closeEntries_charge settled distinct]
  simp only [List.filter_true, Bool.not_true, List.filter_false]

end State

/-! ### A lane when release starts -/

/-- A lane when release starts, before its gate is opened (R161). -/
def Lane.stopped (x : Lane) : Lane := { x with
  savedMode := x.mode
  txn := match x.txn with
    | .writing image w => .writing image { w with orphaned := true }
    | _ => .none
  leaf := if x.leaf = .fault then .fault else .shut
  holdTimer := none
  counters := { x.counters with forfeited := raised 65535 x.counters.forfeited x.credits } }

/-- What the law of a lane says of a lane without credits, and of one with (R26, R162). -/
theorem Lane.lawful_cases {x : Lane} {release : Bool} (lawful : x.lawful release = true) :
    (x.credits = 0 ∧ (x.leaf = .fault ∨ x.leaf = .shut) ∧ x.holdTimer = none) ∨
    (x.credits ≠ 0 ∧ x.leaf = .opened x.credits ∧ ∃ b, x.mode = .entry b) := by
  simp only [Lane.lawful, Bool.and_eq_true] at lawful
  obtain ⟨⟨⟨⟨-, leaf⟩, timer⟩, -⟩, -⟩ := lawful
  by_cases none_left : x.credits = 0
  · refine .inl ⟨none_left, ?_, ?_⟩
    · cases leaf_is : x.leaf with
      | shut => exact .inr rfl
      | fault => exact .inl rfl
      | opened k =>
        rw [leaf_is] at leaf
        rw [Lane.credits, leaf_is, Leaf.credits] at none_left
        simp [none_left] at leaf
    · simpa [none_left] using timer
  · have opened := Lane.leaf_of_credits none_left
    rw [opened] at leaf
    simp only [Bool.and_eq_true] at leaf
    obtain ⟨⟨-, entry⟩, -⟩ := leaf
    refine .inr ⟨none_left, opened, ?_⟩
    cases mode : x.mode <;> simp_all [Mode.berth?]

theorem Lane.stopped_eq {x : Lane} (lawful : x.lawful false = true) :
    { x.enterRelease.losing with txn := x.enterRelease.losing.txn.orphan } = x.stopped := by
  have txn : x.enterRelease.txn.orphan = x.stopped.txn := by
    rw [Lane.enterRelease, Lane.stopped]
    cases x.txn <;> rfl
  have credits : x.enterRelease.credits = x.credits := rfl
  rcases Lane.lawful_cases lawful with ⟨none_left, leaf, timer⟩ | ⟨credit, opened, -⟩
  · have same : x.enterRelease.losing = x.enterRelease := if_pos (credits.trans none_left)
    have shut : (if x.leaf = .fault then .fault else .shut) = x.leaf := by
      rcases leaf with leaf | leaf <;> rw [leaf] <;> rfl
    rw [same, txn, Lane.stopped, shut, none_left, ← timer]
    rfl
  · have lost : x.enterRelease.losing = x.enterRelease.forfeitCredits x.credits := if_neg (by rw [credits]; exact credit)
    rw [lost, show (x.enterRelease.forfeitCredits x.credits).txn = x.enterRelease.txn from rfl, txn, Lane.stopped, opened,
      raised, if_neg credit]
    rfl

/-- A lane when release starts, step by step (R161). -/
theorem Lane.releaseStarted_eq {x : Lane} (lawful : x.lawful false = true)
    (order : x.gateOrder = wantedGateOrder false x.mode x.leaf) (carried : Bool) :
    (x.stopped.reworked true carried).freed true = x.releaseStarted carried := by
  have unfolded : x.releaseStarted carried =
      if x.mode.releasable = false then x.stopped
      else if x.status = .offline then { x.stopped with gateOrder := .openFree }
      else { x.stopped with gateOrder := .openFree, link := x.link.placeGate carried }.showing .freeExit := rfl
  rw [unfolded]
  by_cases opens : x.mode.releasable = true
  · have wanted (leaf : Leaf) : wantedGateOrder true x.mode leaf = .openFree := by
      cases mode : x.mode <;> simp_all [wantedGateOrder, Mode.releasable]
    have present : x.mode ≠ .absent := fun absent => by simp [absent, Mode.releasable] at opens
    have differ : ¬ wantedGateOrder true x.stopped.mode x.stopped.leaf = x.stopped.gateOrder := by
      rw [show x.stopped.mode = x.mode from rfl, wanted, show x.stopped.gateOrder = x.gateOrder from rfl, order]
      cases mode : x.mode <;> cases leaf : x.leaf <;> simp_all [wantedGateOrder, Mode.releasable]
    rw [Lane.reworked, if_neg differ, Lane.renewed, Lane.ordered, show x.stopped.mode = x.mode from rfl, wanted, if_neg
      (by rw [opens]; decide)]
    by_cases offline : x.status = .offline
    · have discards : ¬ Lane.takesFrames { x.stopped with gateOrder := .openFree } = true := fun takes =>
        absurd (offline.symm.trans ((Lane.takesFrames_iff _).mp takes).1) (by nofun)
      rw [if_pos offline, Lane.askingGate, if_neg (by exact discards), Lane.freed]
      exact if_neg fun h => absurd (offline.symm.trans h.2.2) (by nofun)
    · have online : x.status = .online := by
        cases status : x.status
        · exact absurd status offline
        · rfl
      rw [if_neg offline, Lane.askingGate_of_online (by exact online) (by exact present), Lane.freed,
        if_pos ⟨rfl, opens, online⟩]
      rfl
  · have shut := Bool.eq_false_of_not_eq_true opens
    have same : wantedGateOrder true x.stopped.mode x.stopped.leaf = x.stopped.gateOrder := by
      rw [show x.stopped.gateOrder = x.gateOrder from rfl, order, show x.stopped.mode = x.mode from rfl]
      cases mode : x.mode with
      | exit => rfl
      | absent =>
        rcases Lane.lawful_cases lawful with ⟨-, leaf, -⟩ | ⟨-, -, b, entry⟩
        · rcases leaf with leaf | leaf
          all_goals
            rw [leaf, Lane.stopped, leaf]
            rfl
        · rw [mode] at entry
          cases entry
      | closed => simp [mode, Mode.releasable] at shut
      | entry b => simp [mode, Mode.releasable] at shut
    rw [if_pos shut, Lane.reworked_of_same same, Lane.freed, if_neg fun h => opens h.2.1]

/-- A berth that gives back all it holds and grants (R106, R114, R117). -/
theorem Berth.emptied {b : Berth} (lawful : b.lawful = true) :
    b.counted (.releases b.counts.held ∘ .forfeits b.counts.granted) = Berth.follow { b with counts := { b.counts with
      held := 0, granted := 0, forfeited := raised 65535 b.counts.forfeited b.counts.granted } } := by
  by_cases idle : b.state = .idle
  · have none_counted : b.counts = Counts.zero := by
      simp only [Berth.lawful, idle, Bool.and_eq_true, beq_iff_eq] at lawful
      exact lawful.2
    have quiet : b.state.takesPassengers = false := by rw [idle]; rfl
    rw [Berth.counted, if_pos idle, Berth.follow, none_counted]
    rw [quiet]
    exact congrArg (fun c => { b with counts := c }) none_counted
  · rw [Berth.counted, if_neg idle]
    simp only [Function.comp, Counts.releases, Counts.forfeits, Nat.sub_self]

namespace State

variable {s : State}

/-- The gates opened, and FREE EXIT shown, at every lane (R161). -/
theorem eachLane_openGate (active : s.releaseActive = true) :
    s.eachLane State.openGate = s.onLanes fun l x => (x.reworked true (s.carriedBy l)).freed true := by
  refine eachLane_eq_onLanes (P := fun t => t.releaseActive = true ∧ t.turn = s.turn) (fun t l ⟨active, turn⟩ => ?_)
    (fun t l g kept => kept) ⟨active, rfl⟩
  have carried : t.carriedBy l = s.carriedBy l := by rw [carriedBy, turn, carriedBy]
  rw [openGate, reworkGate_eq, showFreeExit_eq, onLane_onLane, onLane_releaseActive, active, carried]
  rfl

/-- The places that the writes, entries and credits of a berth take are all it holds and grants (R114, R117). -/
theorem placesSound.counts (sound : s.placesSound) (b : BerthId) :
    (s.berth b).counts.held = (allLanes.map fun l => (s.lane l).txn.ridersAt b).sum + (s.recovery.map (·.ridersAt b)).sum ∧
    (s.berth b).counts.granted = s.creditsFor b := by
  obtain ⟨-, held, granted, -⟩ := sound.1 b
  exact ⟨held, granted⟩

/-- The device once release has dropped what no lane may go on with (R161). -/
def dropped (s : State) : State := { s.onLanes fun _ => .enterRelease with engine := none }

theorem lane_dropped (s : State) (l : LaneId) : s.dropped.lane l = (s.lane l).enterRelease := lane_onLanes ..

theorem forfeitable_dropped (holds : s.Forfeitable) : s.dropped.Forfeitable :=
  ⟨holds.settled, fun l credits => by
    rw [lane_dropped] at credits ⊢
    exact holds.credits l credits⟩

/-- The records of the start of release (R27, R92, R161). -/
def releaseRecords (s : State) : List (Bool × Draft) :=
  (allLanes.flatMap fun l => (s.lane l).forfeitRecords l true) ++ s.recovery.map (·.unresolvedRecord true)

theorem ridersAt_enterRelease (x : Lane) (b : BerthId) : x.enterRelease.losing.txn.ridersAt b = x.txn.ridersAt b := by
  have kept : x.enterRelease.losing.txn = x.enterRelease.txn := by
    unfold Lane.losing
    split_ifs <;> rfl
  rw [kept, Lane.enterRelease]
  cases x.txn <;> rfl

/-- The start of release up to the opening of the gates (R161). -/
theorem releaseEmptied (sound : s.placesSound) :
    ((s.dropped.eachLane fun t l => t.forfeitAll l true).eachLane State.orphan).closeEntries true (fun _ => true) =
      let u := s.dropped.charge s.releaseRecords fun b =>
        .releases (s.berth b).counts.held ∘ .forfeits (s.berth b).counts.granted
      { u.onLanes fun _ x => { x.losing with txn := x.losing.txn.orphan } with
        recovery := [], flags := u.flags ||| (if s.recovery = [] then 0 else 0x40#16) } := by
  obtain ⟨-, -, -, -, distinct, -⟩ := id sound
  have holds := forfeitable_dropped sound.forfeitable
  have records : (allLanes.flatMap fun l => (s.dropped.lane l).forfeitRecords l true) =
      allLanes.flatMap fun l => (s.lane l).forfeitRecords l true := by
    refine List.flatMap_congr fun l _ => ?_
    rw [lane_dropped]
    rfl
  have credits (b : BerthId) : s.dropped.creditsFor b = (s.berth b).counts.granted := by
    rw [(sound.counts b).2, creditsFor, creditsFor]
    simp only [lane_dropped]
    rfl
  have riders (b : BerthId) (rs : List (Bool × Draft)) (f : BerthId → Counts → Counts) :
      (allLanes.map fun l => ((((s.dropped.charge rs f).onLanes fun _ => .losing).lane l).txn.ridersAt b)).sum =
        (allLanes.map fun l => (s.lane l).txn.ridersAt b).sum := by
    simp only [lane_onLanes, lane_charge, lane_dropped, ridersAt_enterRelease]
  have forfeited := eachLane_forfeitAll holds true
  have settled := holds.settled.charge (allLanes.flatMap fun l => (s.lane l).forfeitRecords l true)
    fun b => .forfeits (s.berth b).counts.granted
  simp only [records, credits] at forfeited
  rw [forfeited, eachLane_orphan (onLanes_settled settled _)]
  simp only [riders, charge_onLanes, charge_charge, onLanes_onLanes, List.append_nil]
  have listed (rs : List (Bool × Draft)) (f : BerthId → Counts → Counts) (g : LaneId → Lane → Lane) :
      ((s.dropped.charge rs f).onLanes g).recovery = s.recovery := by
    rw [charge_shape]
    rfl
  have places (b : BerthId) : (s.recovery.map (·.ridersAt b)).sum + (allLanes.map fun l => (s.lane l).txn.ridersAt b).sum =
      (s.berth b).counts.held := (Nat.add_comm _ _).trans (sound.counts b).1.symm
  have released (b : BerthId) : Counts.releases (s.recovery.map (·.ridersAt b)).sum ∘
      Counts.releases (allLanes.map fun l => (s.lane l).txn.ridersAt b).sum ∘ Counts.forfeits (s.berth b).counts.granted =
      Counts.releases (s.berth b).counts.held ∘ Counts.forfeits (s.berth b).counts.granted := by
    rw [← Function.comp_assoc, Counts.releases_releases, Nat.add_comm, places]
  rw [closeAll_charge (onLanes_settled (holds.settled.charge _ _) _) distinct (listed ..), charge_onLanes, charge_charge]
  simp only [released]
  rfl

theorem dropped_charge (s : State) (rs : List (Bool × Draft)) (f : BerthId → Counts → Counts) :
    s.dropped.charge rs f = { s.recordAll rs with
      lanes := s.dropped.lanes, engine := none, berths := .ofFn fun b => (s.berth b).counted (f b) } := by
  have records : s.dropped.recordAll rs = { s.recordAll rs with lanes := s.dropped.lanes, engine := none } := by
    refine recordAll_comm (g := fun t => { t with lanes := s.dropped.lanes, engine := none }) (fun t r d => ?_) rs s
    rw [record_eq, record_eq]
  rw [charge, records]
  rfl

/-- The start of release as the statements give it (R161). -/
theorem releaseBegins_eq (sound : s.placesSound) (gates : s.gatesInOrder) (outside : s.releaseActive = false) :
    s.releaseBegins = s.releaseBegun := by
  have begins : s.dropped = { s.eachLane fun t l => t.onLane l Lane.enterRelease with engine := none } := by
    rw [eachLane_onLane fun _ => Lane.enterRelease]
    rfl
  have opened : s.releaseBegins = (State.eachLane { ((s.dropped.eachLane fun t l => t.forfeitAll l true).eachLane
      State.orphan).closeEntries true (fun _ => true) with releaseActive := true } State.openGate).raise .releaseChange := by
    rw [begins]
    rfl
  set m : Half := if s.recovery = [] then 0 else 0x40#16 with mark
  set r := s.recordAll s.releaseRecords with recorded
  set d := s.dropped.charge s.releaseRecords fun b =>
    .releases (s.berth b).counts.held ∘ .forfeits (s.berth b).counts.granted with charged
  have emptied : { ((s.dropped.eachLane fun t l => t.forfeitAll l true).eachLane State.orphan).closeEntries true
      (fun _ => true) with releaseActive := true } = ({ d with
        recovery := [], flags := d.flags ||| m, releaseActive := true } : State).onLanes
          fun _ x => { x.losing with txn := x.losing.txn.orphan } := by
    rw [releaseEmptied sound]
    rfl
  have gathered : d = { r with
      lanes := s.dropped.lanes, engine := none
      berths := .ofFn fun b => (s.berth b).counted
        (.releases (s.berth b).counts.held ∘ .forfeits (s.berth b).counts.granted) } :=
    dropped_charge ..
  have carried (l : LaneId) : (({ d with recovery := [], flags := d.flags ||| m, releaseActive := true } : State).onLanes
      fun _ x => { x.losing with txn := x.losing.txn.orphan }).carriedBy l = s.carriedBy l := by
    rw [charged, charge_shape]
    rfl
  rw [opened, emptied, eachLane_openGate rfl, onLanes_onLanes]
  simp only [carried]
  have lanes : (Vector.ofFn fun l => (Lane.reworked { (d.lane l).losing with txn := (d.lane l).losing.txn.orphan } true
      (s.carriedBy l)).freed true) = Vector.ofFn fun l => (s.lane l).releaseStarted (s.carriedBy l) := by
    refine congrArg Vector.ofFn (funext fun l => ?_)
    have order := gates l
    rw [wantedOrder, outside] at order
    have lawful := sound.lane_lawful l
    rw [outside] at lawful
    rw [charged, lane_charge, lane_dropped, Lane.stopped_eq lawful, Lane.releaseStarted_eq lawful order]
  have berths : (Vector.ofFn fun b => (s.berth b).counted
      (.releases (s.berth b).counts.held ∘ .forfeits (s.berth b).counts.granted)) = s.releaseBegun.berths :=
    congrArg Vector.ofFn (funext fun b => Berth.emptied (sound.1 b).1)
  have flags : d.flags ||| m ||| 0x2000#16 = r.flags ||| 0x2000#16 ||| m := by
    rw [gathered, BitVec.or_assoc, BitVec.or_comm m, ← BitVec.or_assoc]
  have whole : (State.onLanes { d with recovery := [], flags := d.flags ||| m, releaseActive := true }
      fun l x => (Lane.reworked { x.losing with txn := x.losing.txn.orphan } true (s.carriedBy l)).freed true).raise
        .releaseChange = { d with
      lanes := .ofFn fun l => (Lane.reworked { (d.lane l).losing with txn := (d.lane l).losing.txn.orphan } true
        (s.carriedBy l)).freed true
      recovery := [], flags := d.flags ||| m ||| 0x2000#16, releaseActive := true } := rfl
  rw [whole, lanes, flags, gathered, berths]
  rfl

end State
end Sys2Proof.Machine
end

section
/-! The end of release, and the lines that release and the halts follow (spec/09). -/

namespace Sys2Proof.Machine

/-- A lane that asks for what it shows when release ends (R163). -/
def Lane.askingAfterRelease (x : Lane) : Lane :=
  match x.mode with
  | .entry _ => x.askingShow .wait
  | .closed => x.askingShow .laneClosed
  | _ => x

/-- A lane when release ends, step by step (R163). -/
theorem Lane.releaseEnded_eq (x : Lane) (carried : Bool) :
    (x.leaveRelease.renewed false carried).askingAfterRelease = x.releaseEnded carried := by
  have ordered : x.leaveRelease.ordered false = { x with
      mode := x.savedMode, leaf := .shut, gateOrder := if x.savedMode = .exit then .openFree else .shut } := by
    rfl
  set y : Lane := { x with
    mode := x.savedMode, leaf := .shut, gateOrder := if x.savedMode = .exit then .openFree else .shut } with shut
  have unfolded : x.releaseEnded carried = if x.status = .offline ∨ x.savedMode = .absent then y
      else match x.savedMode with
        | .exit | .absent => { y with link := x.link.placeGate carried }
        | .closed => Lane.showing { y with link := x.link.placeGate carried } .laneClosed
        | .entry _ => Lane.showing { y with link := x.link.placeGate carried } .wait := rfl
  rw [Lane.renewed, ordered, unfolded]
  by_cases discards : x.status = .offline ∨ x.savedMode = .absent
  · have none_taken : ¬ y.takesFrames = true := fun takes => by
      obtain ⟨online, present⟩ := (Lane.takesFrames_iff _).mp takes
      rcases discards with offline | absent
      · exact absurd (offline.symm.trans online) (by nofun)
      · exact present absent
    rw [if_pos discards, Lane.askingGate, if_neg none_taken]
    unfold Lane.askingAfterRelease
    split
    · exact if_neg none_taken
    · exact if_neg none_taken
    · rfl
  · obtain ⟨not_offline, present⟩ := not_or.mp discards
    have online : x.status = .online := by
      cases status : x.status
      · exact absurd status not_offline
      · rfl
    rw [if_neg discards, Lane.askingGate_of_online (by exact online) (by exact present)]
    unfold Lane.askingAfterRelease
    dsimp only
    cases mode : x.savedMode with
    | entry b =>
      simp only [shut, mode]
      exact Lane.askingShow_of_online (by exact online) (by nofun) _
    | closed =>
      simp only [shut, mode]
      exact Lane.askingShow_of_online (by exact online) (by nofun) _
    | exit => simp only [shut, mode]
    | absent => exact absurd mode present

namespace State

variable {s : State}

theorem showAfterRelease_eq (t : State) (l : LaneId) : t.showAfterRelease l = t.onLane l .askingAfterRelease := by
  unfold showAfterRelease
  split
  · next b mode => rw [askShow_eq]; exact onLane_congr (by rw [Lane.askingAfterRelease, mode])
  · next mode => rw [askShow_eq]; exact onLane_congr (by rw [Lane.askingAfterRelease, mode])
  · next not_entry not_closed =>
    refine (onLane_of_eq (f := .askingAfterRelease) ?_).symm
    unfold Lane.askingAfterRelease
    split
    · next b mode => exact absurd mode (not_entry b)
    · next mode => exact absurd mode not_closed
    · rfl

/-- The end of release as the statements give it (R163). -/
theorem releaseEnds_eq (s : State) : s.releaseEnds = s.releaseOver := by
  have restored : s.releaseEnds = ((State.eachLane { s.eachLane fun t l => t.onLane l Lane.leaveRelease with
      releaseActive := false } State.renewGate).eachLane State.showAfterRelease).raise .releaseChange := rfl
  have left := eachLane_onLane (fun _ => Lane.leaveRelease) s
  have renewed (u : State) (ended : u.releaseActive = false) : u.eachLane State.renewGate =
      u.onLanes fun l x => x.renewed false (u.carriedBy l) := by
    refine eachLane_eq_onLanes (P := fun t => t.releaseActive = false ∧ t.turn = u.turn) (fun t l ⟨ended, turn⟩ => ?_)
      (fun t l g kept => kept) ⟨ended, rfl⟩
    have carried : t.carriedBy l = u.carriedBy l := by rw [carriedBy, turn, carriedBy]
    rw [renewGate_eq, ended, carried]
  have shown (u : State) : u.eachLane State.showAfterRelease = u.onLanes fun _ => .askingAfterRelease :=
    eachLane_eq_onLanes (P := fun _ => True) (fun t l _ => showAfterRelease_eq t l) (fun _ _ _ => id) trivial
  set u : State := { s.onLanes fun _ => Lane.leaveRelease with releaseActive := false } with leaving
  have carried (l : LaneId) : u.carriedBy l = s.carriedBy l := rfl
  have lanes : (u.onLanes fun l x => (x.renewed false (s.carriedBy l)).askingAfterRelease).lanes = s.releaseOver.lanes :=
    lane_ext (t := s.releaseOver) fun l => by
      rw [lane_onLanes, show u.lane l = (s.lane l).leaveRelease from lane_onLanes .., Lane.releaseEnded_eq]
      simp [releaseOver, State.lane]
  have raised (v : State) : v.raise .releaseChange = { v with flags := v.flags ||| 0x2000#16 } := rfl
  have whole (g : LaneId → Lane → Lane) : u.onLanes g = { s with lanes := (u.onLanes g).lanes, releaseActive := false } := by
    rw [onLanes, leaving]
    rfl
  rw [restored, left, renewed u rfl, shown, onLanes_onLanes]
  simp only [carried]
  rw [whole, lanes, raised]
  rfl

/-! ### What the lines say (R157) -/

/-- A berth's halt flag and the line release source, each told by the lines. -/
def reread (s : State) : State := { s with
  berths := .ofFn fun b => { s.berth b with halted := s.haltCondition b }, lineSource := s.releaseLineLow }

theorem mem_allLines (i : LineId) : i ∈ allLines := by revert i; decide

theorem any_pulls_eq (s : State) (e : LineEntry) : (allLines.any fun i => (s.line i).pulls e) =
    decide (∃ j : LineId, (s.line j).entry = e ∧ (s.line j).debounced = .low) := by
  rw [Bool.eq_iff_iff, List.any_eq_true, decide_eq_true_iff]
  simp only [PierLine.pulls, Bool.and_eq_true, beq_iff_eq, mem_allLines, true_and]

theorem haltCondition_eq (s : State) (b : BerthId) : s.haltCondition b =
    decide (∃ j : LineId, (s.line j).entry = .inputHalt b ∧ (s.line j).debounced = .low) :=
  s.any_pulls_eq _

theorem releaseLineLow_eq (s : State) : s.releaseLineLow =
    decide (∃ j : LineId, (s.line j).entry = .inputRelease ∧ (s.line j).debounced = .low) :=
  s.any_pulls_eq _

/-- A line replaced, and what follows the lines told anew. -/
theorem reread_setLine (s : State) (i : LineId) (x : PierLine) :
    reread { s with lines := s.lines.set i x } = s.withLine i x := by
  rw [reread, withLine, releaseLineLow_eq]
  simp only [haltCondition_eq]
  rfl

theorem tellHalts_eq (s : State) : s.tellHalts = { s with
    berths := .ofFn fun b => { s.berth b with halted := s.haltCondition b } } := by
  have told : s.tellHalts.berths = .ofFn fun b => { s.berth b with halted := s.haltCondition b } := by
    refine berths_ext fun b => ?_
    fin_cases b <;> simp [tellHalts, allBerths, onBerth, berth]
  exact congrArg (fun berths => { s with berths := berths }) told

theorem workOutRelease_of_agreed (agreed : s.releaseActive = (s.frameSource || s.lineSource)) :
    s.workOutRelease = s := by
  unfold workOutRelease
  rw [agreed]
  cases s.frameSource <;> cases s.lineSource <;> rfl

/-- What follows a change of a line, in a device whose release agrees with its sources (R155, R157, R160). -/
theorem followLines_eq (agreed : s.releaseActive = (s.frameSource || s.lineSource)) :
    s.followLines = s.reread.workOutRelease := by
  unfold followLines
  rw [tellHalts_eq]
  dsimp only
  split_ifs with same
  · have kept : s.reread = { s with berths := .ofFn fun b => { s.berth b with halted := s.haltCondition b } } := by
      rw [reread, ← show s.lineSource = s.releaseLineLow from same]
    rw [kept, workOutRelease_of_agreed (by exact agreed)]
  · rfl

end State
end Sys2Proof.Machine
end

section
/-! Release by frame, line and line setup (spec/09, R155, R157, R160 to R163). -/

namespace Sys2Proof.Machine
namespace State

variable {s : State} {i : LineId}

/-! ### A line replaced leaves the laws of admission and the gates -/

theorem berth_withLine (s : State) (i : LineId) (x : PierLine) (b : BerthId) : (s.withLine i x).berth b = { s.berth b with
    halted := decide (∃ j : LineId, (State.line { s with lines := s.lines.set i x } j).entry = .inputHalt b ∧
      (State.line { s with lines := s.lines.set i x } j).debounced = .low) } := by
  simp [withLine, berth]

theorem placesSound.withLine (sound : s.placesSound) (i : LineId) (x : PierLine) : (s.withLine i x).placesSound := by
  obtain ⟨berths, rest⟩ := id sound
  refine ⟨fun b => ?_, rest⟩
  rw [berthSound, berth_withLine]
  exact berths b

theorem line_withLine (s : State) (i j : LineId) (x : PierLine) :
    (s.withLine i x).line j = if j = i then x else s.line j :=
  s.line_onLine i j fun _ => x

theorem lineSource_withLine (s : State) (i : LineId) (x : PierLine) : (s.withLine i x).lineSource =
    decide (∃ j : LineId, ((s.withLine i x).line j).entry = .inputRelease ∧ ((s.withLine i x).line j).debounced = .low) :=
  rfl

theorem lineSource_withLine_of_high {x : PierLine} (own : x.entry = .inputRelease → x.debounced = .high)
    (others : ∀ j : LineId, j ≠ i → (s.line j).entry = .inputRelease → (s.line j).debounced = .high) :
    (s.withLine i x).lineSource = false := by
  rw [lineSource_withLine]
  refine decide_eq_false ?_
  rintro ⟨j, entry, low⟩
  rw [line_withLine] at entry low
  split_ifs at entry low with same
  · exact absurd ((own entry).symm.trans low) (by nofun)
  · exact absurd ((others j same entry).symm.trans low) (by nofun)

/-- A release line is low where release is active by a line and every other release line is high. -/
theorem debounced_of_lineSource (followed : s.linesFollowed) (active : s.releaseActive = true)
    (frame : s.frameSource = false)
    (others : ∀ j : LineId, j ≠ i → (s.line j).entry = .inputRelease → (s.line j).debounced = .high) :
    (s.line i).debounced = .low := by
  obtain ⟨agreed, lines, -⟩ := followed
  rw [active, frame, Bool.false_or, lines, releaseLineLow_eq] at agreed
  obtain ⟨j, entry, low⟩ := of_decide_eq_true agreed.symm
  by_cases same : j = i
  · exact same ▸ low
  · exact absurd ((others j same entry).symm.trans low) (by nofun)

/-! ### What release leaves to the arbiter (R42) -/

theorem txn_releaseStarted (x : Lane) (carried : Bool) : (x.releaseStarted carried).txn = x.stopped.txn := by
  unfold Lane.releaseStarted
  dsimp only
  split_ifs <;> rfl

theorem arbitrate_releaseBegun (s : State) : s.releaseBegun.arbitrate = s.releaseBegun := by
  refine arbitrate_of_atRest fun _ l => ?_
  rw [lane_releaseBegun, txn_releaseStarted, Lane.stopped]
  cases (s.lane l).txn <;> rfl

theorem txn_releaseEnded (x : Lane) (carried : Bool) : (x.releaseEnded carried).txn = x.txn := by
  unfold Lane.releaseEnded
  dsimp only
  split
  · rfl
  · split <;> rfl

theorem arbitrate_releaseOver (rest : s.engine = none → ∀ l, (s.lane l).txn.isWaiting = false) :
    s.releaseOver.arbitrate = s.releaseOver :=
  arbitrate_of_atRest fun free l => by
    rw [lane_releaseOver, txn_releaseEnded]
    exact rest free l

/-! ### Release amid a frame of the depot -/

theorem releaseBegun_withDepot (s t : State) : (s.withDepot t).releaseBegun = s.releaseBegun.withDepot t := by
  have records (rs : List (Bool × Draft)) : (s.withDepot t).recordAll rs = (s.recordAll rs).withDepot t :=
    recordAll_comm (g := (·.withDepot t)) (fun u r d => withDepot_record u t r d) rs s
  unfold releaseBegun
  rw [show (allLanes.flatMap fun l => ((s.withDepot t).lane l).forfeitRecords l true) ++
      (s.withDepot t).recovery.map (·.unresolvedRecord true) = s.releaseRecords from rfl, records]
  rfl

theorem request_releaseBegun (s : State) : s.releaseBegun.request = s.request := by
  show (s.recordAll s.releaseRecords).request = _
  rw [recordAll_shape]

/-! ### The sources -/

theorem workOutRelease_of_begun (sound : s.placesSound) (gates : s.gatesInOrder) (outside : s.releaseActive = false)
    (source : (s.frameSource || s.lineSource) = true) : s.workOutRelease = s.releaseBegun := by
  unfold workOutRelease
  rw [source, outside, releaseBegins_eq sound gates outside]
  rfl

theorem workOutRelease_of_ended (active : s.releaseActive = true) (source : (s.frameSource || s.lineSource) = false) :
    s.workOutRelease = s.releaseOver := by
  unfold workOutRelease
  rw [source, active, releaseEnds_eq]
  rfl

/-! ### The line commands -/

/-- A line whose level has been held for 20 ms (R156, R157). -/
theorem exec_lineDebounce (agreed : s.releaseActive = (s.frameSource || s.lineSource))
    (input : (s.line i).entry.isOutput = false) (moved : (s.line i).level ≠ (s.line i).debounced) :
    exec (.lineDebounce i) s = .next
      ((((s.onLine i fun x => { x with debounced := x.level }).pulse i).reread.workOutRelease).endEvent s.flags) := by
  have measuring : (s.line i).measuring = true := by
    simp [PierLine.measuring, input, moved]
  have kept : ((s.onLine i fun x => { x with debounced := x.level }).pulse i).releaseActive =
      (((s.onLine i fun x => { x with debounced := x.level }).pulse i).frameSource ||
        ((s.onLine i fun x => { x with debounced := x.level }).pulse i).lineSource) := by
    unfold pulse
    split
    · split_ifs
      · rw [tally, atBerth_shape]
        exact agreed
      · exact agreed
    · exact agreed
  rw [← followLines_eq kept]
  exact congrArg Host.Outcome.next (if_pos measuring)

/-- At a line read for no tally nothing but the lines' followers is told (R157). -/
theorem pulse_of_no_tally {u : State} (no_tally : ∀ b, (u.line i).entry ≠ .inputTally b) : u.pulse i = u := by
  unfold pulse
  split
  · next b tally => exact absurd tally (no_tally b)
  · rfl

theorem exec_lineSetup (free : s.request = none) (agreed : s.releaseActive = (s.frameSource || s.lineSource))
    {tag entry parameter options : Byte} {e : LineEntry} (spelled : lineEntryOf entry parameter options = some e)
    {u : State} (still : u.request = none)
    (taken : ((s.withDepot s.goodFrame).withLine i ((s.line i).remap e)).workOutRelease.arbitrate =
      u.withDepot s.goodFrame) :
    exec (.lineSetup tag (number i) entry parameter options) s = .next (s.replied u .lineSetup tag (.plain .done)) := by
  have follows := followLines_eq (s := (s.withDepot s.goodFrame).onLine i (.remap e)) agreed
  rw [show ((s.withDepot s.goodFrame).onLine i (.remap e)).reread =
    (s.withDepot s.goodFrame).withLine i ((s.line i).remap e) from reread_setLine ..] at follows
  refine congrArg Host.Outcome.next (answer_eq_replied free still ?_)
  rw [takeLineSetup, show lineOf (number i) = some i from oneBased_number (by decide) i, spelled]
  dsimp only
  rw [follows, taken]

end State
end Sys2Proof.Machine
open Sys2Proof Sys2Proof.Machine

/-- Settles O51. -/
theorem releaseOpensEveryGate : Obligations.ReleaseOpensEveryGate := by
  refine ⟨fun s free rest active tag => ?_, fun s free sound gates outside tag => ?_,
    fun s sound gates followed outside i entry level => ?_,
    fun s free sound gates followed outside i input low tag parameter options => ?_⟩
  · have same : State.workOutRelease { s.withDepot s.goodFrame with frameSource := true } =
        State.withDepot { s with frameSource := true } s.goodFrame := by
      rw [State.workOutRelease_of_agreed (by exact active)]
      rfl
    refine congrArg Host.Outcome.next (State.answer_eq_answered (u := { s with frameSource := true }) free free rfl ?_)
    rw [takeRelease, same, State.arbitrate_of_atRest (by exact rest.1)]
    exact congrArg (fun active => (_, ReplyBody.release active)) active
  · have begun : State.workOutRelease { s.withDepot s.goodFrame with frameSource := true } =
        (State.releaseBegun { s with frameSource := true }).withDepot s.goodFrame :=
      (State.workOutRelease_of_begun (s := { s.withDepot s.goodFrame with frameSource := true }) sound gates outside
        rfl).trans (State.releaseBegun_withDepot { s with frameSource := true } s.goodFrame)
    refine congrArg Host.Outcome.next (State.answer_eq_replied free ((State.request_releaseBegun _).trans free) ?_)
    rw [takeRelease, begun, State.withDepot_arbitrate, State.arbitrate_releaseBegun]
    rfl
  · obtain ⟨agreed, lines, -⟩ := id followed
    have high : (s.line i).debounced ≠ .low := by
      intro low
      have source : s.lineSource = true := by
        rw [lines, State.releaseLineLow_eq]
        exact decide_eq_true ⟨i, entry, low⟩
      rw [outside, source, Bool.or_true] at agreed
      cases agreed
    have no_tally : ∀ b, ((s.onLine i fun x => { x with debounced := x.level }).line i).entry ≠ .inputTally b := by
      intro b
      rw [State.line_onLine, if_pos rfl]
      exact fun tally => by cases entry.symm.trans tally
    have read : (s.onLine i fun x => { x with debounced := x.level }).reread =
        s.withLine i { s.line i with debounced := .low } := by
      rw [← level]
      exact State.reread_setLine ..
    have source : (s.withLine i { s.line i with debounced := .low }).lineSource = true := by
      rw [State.lineSource_withLine]
      exact decide_eq_true ⟨i, by rw [State.line_withLine, if_pos rfl]; exact ⟨entry, rfl⟩⟩
    rw [State.exec_lineDebounce agreed (by rw [entry]; rfl) (by rw [level]; exact high.symm),
      State.pulse_of_no_tally no_tally, read, State.workOutRelease_of_begun (sound.withLine i _) (by exact gates) (by exact outside)
      (by rw [source, Bool.or_true])]
  · obtain ⟨agreed, lines, -⟩ := id followed
    set x : PierLine := { s.line i with entry := .inputRelease } with remapped
    have line : (s.line i).remap .inputRelease = x := by
      rw [PierLine.remap, input]
      rfl
    have source : (s.withLine i x).lineSource = true := by
      rw [State.lineSource_withLine]
      exact decide_eq_true ⟨i, by rw [State.line_withLine, if_pos rfl]; exact ⟨rfl, low⟩⟩
    refine State.exec_lineSetup free agreed rfl ((State.request_releaseBegun _).trans free) ?_
    rw [line, State.workOutRelease_of_begun (by exact sound.withLine i x) (by exact gates) (by exact outside)
      (by exact (Bool.or_eq_true _ _).mpr (.inr source))]
    rw [show (s.withDepot s.goodFrame).withLine i x = (s.withLine i x).withDepot s.goodFrame from rfl,
      State.releaseBegun_withDepot, State.withDepot_arbitrate, State.arbitrate_releaseBegun]

/-- Settles O52. -/
theorem releaseEndsToTheSavedModes : Obligations.ReleaseEndsToTheSavedModes := by
  refine ⟨fun s free rest agreed tag => ?_, fun s free rest active source tag => ?_,
    fun s followed active frame i entry level others => ?_,
    fun s free rest followed active frame i entry others tag code parameter options e spelled other => ?_⟩
  · have same : State.workOutRelease { s.withDepot s.goodFrame with frameSource := false } =
        State.withDepot { s with frameSource := false } s.goodFrame := by
      rw [State.workOutRelease_of_agreed (by exact agreed)]
      rfl
    refine congrArg Host.Outcome.next (State.answer_eq_answered (u := { s with frameSource := false }) free free rfl ?_)
    rw [takeRelease, same, State.arbitrate_of_atRest (by exact rest.1)]
    rfl
  · have ended : State.workOutRelease { s.withDepot s.goodFrame with frameSource := false } =
        (State.releaseOver { s with frameSource := false }).withDepot s.goodFrame :=
      State.workOutRelease_of_ended active source
    refine congrArg Host.Outcome.next (State.answer_eq_replied free free ?_)
    rw [takeRelease, ended, State.withDepot_arbitrate, State.arbitrate_releaseOver (by exact rest.1)]
    rfl
  · obtain ⟨agreed, lines, -⟩ := id followed
    have low := State.debounced_of_lineSource followed active frame others
    have no_tally : ∀ b, ((s.onLine i fun x => { x with debounced := x.level }).line i).entry ≠ .inputTally b := by
      intro b
      rw [State.line_onLine, if_pos rfl]
      exact fun tally => by cases entry.symm.trans tally
    have read : (s.onLine i fun x => { x with debounced := x.level }).reread =
        s.withLine i { s.line i with debounced := .high } := by
      rw [← level]
      exact State.reread_setLine ..
    have source : (s.withLine i { s.line i with debounced := .high }).lineSource = false :=
      State.lineSource_withLine_of_high (fun _ => rfl) others
    rw [State.exec_lineDebounce agreed (by rw [entry]; rfl) (by rw [level, low]; nofun),
      State.pulse_of_no_tally no_tally, read, State.workOutRelease_of_ended (by exact active) (by rw [source, Bool.or_false]; exact frame)]
  · obtain ⟨agreed, lines, -⟩ := id followed
    set x : PierLine := { s.line i with entry := e, debounced := if e.isOutput then .high else (s.line i).debounced } with remapped
    have line : (s.line i).remap e = x := by
      rw [PierLine.remap, entry, show LineEntry.inputRelease.isOutput = false from rfl, Bool.or_false]
    have source : (s.withLine i x).lineSource = false :=
      State.lineSource_withLine_of_high (fun same => absurd same other) others
    refine State.exec_lineSetup free agreed spelled free ?_
    have ended : State.workOutRelease ((s.withDepot s.goodFrame).withLine i x) =
        (s.withLine i x).releaseOver.withDepot s.goodFrame :=
      State.workOutRelease_of_ended active ((Bool.or_eq_false_iff).mpr ⟨frame, source⟩)
    rw [line, ended, State.withDepot_arbitrate, State.arbitrate_releaseOver (by exact rest.1)]
end

section
/-! Debounced lines and LINE SETUP (spec/09, R121, R155 to R157). -/

namespace Sys2Proof.Machine
namespace State

variable {s t u : State} {i : LineId}

/-! ### What leaves the lines, the sources and the halts alone -/

/-- The lines, the sources of release and the halt flags stand as they were. -/
structure LinesKept (s t : State) : Prop where
  lines : t.lines = s.lines
  frameSource : t.frameSource = s.frameSource
  lineSource : t.lineSource = s.lineSource
  halted : ∀ b, (t.berth b).halted = (s.berth b).halted

theorem LinesKept.refl (s : State) : s.LinesKept s := ⟨rfl, rfl, rfl, fun _ => rfl⟩

theorem LinesKept.trans (h : s.LinesKept t) (k : t.LinesKept u) : s.LinesKept u :=
  ⟨k.lines.trans h.lines, k.frameSource.trans h.frameSource, k.lineSource.trans h.lineSource,
    fun b => (k.halted b).trans (h.halted b)⟩

theorem LinesKept.line (h : s.LinesKept t) (i : LineId) : t.line i = s.line i := by rw [State.line, h.lines, State.line]

theorem LinesKept.haltCondition (h : s.LinesKept t) (b : BerthId) : t.haltCondition b = s.haltCondition b := by
  simp only [State.haltCondition, h.line]

theorem LinesKept.releaseLineLow (h : s.LinesKept t) : t.releaseLineLow = s.releaseLineLow := by
  simp only [State.releaseLineLow, h.line]

theorem Works.linesKept {gated : LaneId → Prop} (h : s.Works gated t) : s.LinesKept t :=
  ⟨Works.lines h, Works.frameSource h, Works.lineSource h, Works.halted h⟩

theorem linesKept_workOutRelease (s : State) : s.LinesKept s.workOutRelease := by
  have turned (v : State) (active : Bool) : v.LinesKept { v with releaseActive := active } := ⟨rfl, rfl, rfl, fun _ => rfl⟩
  unfold workOutRelease
  split_ifs
  · obtain ⟨u, before, after⟩ := s.works_releaseBegins
    exact (Works.linesKept before).trans ((turned u true).trans (Works.linesKept after))
  · obtain ⟨u, before, after⟩ := s.works_releaseEnds
    exact (Works.linesKept before).trans ((turned u false).trans (Works.linesKept after))
  · exact .refl s

/-- Release follows its sources (R160). -/
theorem releaseActive_workOutRelease (s : State) :
    s.workOutRelease.releaseActive = (s.frameSource || s.lineSource) := by
  unfold workOutRelease
  split_ifs with begins ends
  · obtain ⟨u, -, after⟩ := s.works_releaseBegins
    rw [Works.releaseActive after]
    exact (Bool.and_eq_true _ _ ▸ begins).1.symm
  · obtain ⟨u, -, after⟩ := s.works_releaseEnds
    rw [Works.releaseActive after]
    exact (Bool.not_eq_true' _ ▸ (Bool.and_eq_true _ _ ▸ ends).1).symm
  · cases sources : (s.frameSource || s.lineSource) <;> simp_all

theorem linesKept_arbitrate (s : State) : s.LinesKept s.arbitrate ∧ s.arbitrate.releaseActive = s.releaseActive := by
  rcases s.arbitrate_cases with same | ⟨l, image, -, granted⟩
  · rw [same]
    exact ⟨.refl s, rfl⟩
  · rw [granted]
    exact ⟨⟨rfl, rfl, rfl, fun _ => rfl⟩, rfl⟩

/-- The end of an event leaves the lines and release as they are. -/
theorem endEvent_linesKept (s : State) (before : Half) :
    s.LinesKept (s.endEvent before) ∧ (s.endEvent before).releaseActive = s.releaseActive := by
  have taken : s.LinesKept s.takeWaiting.1 ∧ s.takeWaiting.1.releaseActive = s.releaseActive := by
    have table (r : TableRequest) : s.LinesKept (s.takeTable r).1 ∧ (s.takeTable r).1.releaseActive = s.releaseActive := by
      rw [takeTable_shape]
      exact ⟨⟨rfl, rfl, rfl, fun _ => rfl⟩, rfl⟩
    rcases s.takeWaiting_cases with same | ⟨j, -, -, -, ⟨-, taken⟩ | ⟨-, taken⟩⟩
    · rw [same]
      exact ⟨.refl s, rfl⟩
    all_goals
      rw [taken]
      obtain ⟨kept, release⟩ := table j.request
      exact ⟨kept.trans ⟨rfl, rfl, rfl, fun _ => rfl⟩, release⟩
  obtain ⟨kept, release⟩ := taken
  obtain ⟨kept', release'⟩ := s.takeWaiting.1.linesKept_arbitrate
  rw [endEvent_eq]
  exact ⟨(kept.trans kept').trans ⟨rfl, rfl, rfl, fun _ => rfl⟩, release'.trans release⟩

/-! ### One line's level changed -/

/-- Lines not read for a function say the same of it whatever their level. -/
theorem any_pulls_of_other {e : LineEntry} {f : PierLine → PierLine} (kept : (f (s.line i)).entry = (s.line i).entry)
    (other : (s.line i).entry ≠ e) :
    (allLines.any fun j => ((s.onLine i f).line j).pulls e) = allLines.any fun j => (s.line j).pulls e := by
  refine congrArg (allLines.any ·) (funext fun j => ?_)
  rw [line_onLine]
  split_ifs with same
  · subst same
    have apart (x : PierLine) (entry : x.entry = (s.line j).entry) : x.pulls e = false := by
      rw [PierLine.pulls, entry, beq_eq_false_iff_ne.mpr other, Bool.false_and]
    rw [apart _ kept, apart _ rfl]
  · rfl

/-- A device whose halts and line source follow its lines has nothing told anew. -/
theorem reread_of_told (halts : ∀ b, (t.berth b).halted = t.haltCondition b) (source : t.lineSource = t.releaseLineLow) :
    t.reread = t := by
  have berths : (Vector.ofFn fun b => { t.berth b with halted := t.haltCondition b }) = t.berths :=
    berths_ext fun b => by
      rw [Fin.getElem_fin, Vector.getElem_ofFn]
      show { t.berth b with halted := t.haltCondition b } = t.berth b
      rw [← halts b]
  rw [reread, berths, ← source]

theorem linesFollowed.reread (followed : s.linesFollowed) : s.reread = s :=
  reread_of_told followed.2.2.1 followed.2.1

/-- The line read at the end of a measure (R156). -/
def debounce (s : State) (i : LineId) : State := s.onLine i fun x => { x with debounced := x.level }

theorem line_debounce (s : State) (i j : LineId) :
    (s.debounce i).line j = if j = i then { s.line i with debounced := (s.line i).level } else s.line j :=
  s.line_onLine i j _

/-- A measure's end at a line that drives neither halt nor release tells nothing anew. -/
theorem told_debounce (followed : s.linesFollowed) (no_halt : ∀ b, (s.line i).entry ≠ .inputHalt b)
    (no_release : (s.line i).entry ≠ .inputRelease) :
    (∀ b, (s.berth b).halted = (s.debounce i).haltCondition b) ∧ s.lineSource = (s.debounce i).releaseLineLow := by
  obtain ⟨-, source, halts, -⟩ := followed
  refine ⟨fun b => ?_, ?_⟩
  · rw [haltCondition, debounce, any_pulls_of_other (by rfl) (no_halt b)]
    exact halts b
  · rw [releaseLineLow, debounce, any_pulls_of_other (by rfl) no_release]
    exact source

theorem berth_withBerth_ne (s : State) {b c : BerthId} (x : Berth) (other : c ≠ b) : (s.withBerth b x).berth c = s.berth c :=
  Vector.getElem_set_ne b.isLt c.isLt fun same => other (Fin.ext same.symm)

/-- A measure's end at an INPUT HALT line sets the halt flag of its berth alone (R121). -/
theorem reread_of_halt {b : BerthId} (followed : s.linesFollowed) (entry : (s.line i).entry = .inputHalt b) :
    (s.debounce i).reread = (s.debounce i).withBerth b { s.berth b with
      halted := decide (∃ j : LineId, ((s.debounce i).line j).entry = .inputHalt b ∧
        ((s.debounce i).line j).debounced = .low) } := by
  obtain ⟨-, source, halts, -⟩ := followed
  have berths : (Vector.ofFn fun c => { (s.debounce i).berth c with halted := (s.debounce i).haltCondition c }) =
      ((s.debounce i).withBerth b { s.berth b with halted := (s.debounce i).haltCondition b }).berths :=
    berths_ext fun c => by
      rw [Fin.getElem_fin, Vector.getElem_ofFn]
      by_cases same : c = b
      · subst same
        exact ((s.debounce i).berth_withBerth c _).symm
      · refine Eq.trans ?_ ((s.debounce i).berth_withBerth_ne _ same).symm
        have elsewhere : (s.debounce i).haltCondition c = s.haltCondition c := by
          rw [haltCondition, debounce, any_pulls_of_other (by rfl) (by rw [entry]; simpa using Ne.symm same)]
          rfl
        show { s.berth c with halted := (s.debounce i).haltCondition c } = s.berth c
        rw [elsewhere, ← halts c]
  have line : (s.debounce i).releaseLineLow = s.lineSource := by
    rw [releaseLineLow, debounce, any_pulls_of_other (by rfl) (by rw [entry]; nofun)]
    exact source.symm
  rw [reread, berths, line, ← haltCondition_eq]
  rfl

theorem pulse_of_tally {b : BerthId} (entry : (s.line i).entry = .inputTally b) :
    s.pulse i = if (s.line i).debounced = .low then s.tally b else s := by
  rw [pulse, entry]

/-- The event of a measure's end at which release, and what the lines say, stand as they did. -/
theorem exec_lineDebounce_of_quiet (rest : s.atRest) (followed : s.linesFollowed)
    (input : (s.line i).entry.isOutput = false) (moved : (s.line i).level ≠ (s.line i).debounced) {u : State}
    (told : ((s.debounce i).pulse i).reread = u)
    (shape : u = { s.debounce i with berths := u.berths, flags := u.flags }) :
    exec (.lineDebounce i) s = .next (u.noticed s.flags) := by
  have agreed : u.releaseActive = (u.frameSource || u.lineSource) := by
    rw [shape]
    exact followed.1
  have calm : u.atRest := by
    rw [shape]
    exact rest
  rw [exec_lineDebounce followed.1 input moved,
    show ((s.onLine i fun x => { x with debounced := x.level }).pulse i).reread = u from told, workOutRelease_of_agreed agreed, endEvent_of_atRest calm]

/-- A measure's end at a line read for release (R157, R160). -/
theorem exec_lineDebounce_of_release (rest : s.atRest) (followed : s.linesFollowed)
    (entry : (s.line i).entry = .inputRelease) (moved : (s.line i).level ≠ (s.line i).debounced) :
    ∃ t, exec (.lineDebounce i) s = .next t ∧ t.lines = (s.debounce i).lines ∧
      t.lineSource = (s.debounce i).releaseLineLow ∧ t.releaseActive = (s.frameSource || t.lineSource) ∧
      (t.releaseActive = s.releaseActive → t = { s.debounce i with lineSource := t.lineSource }) := by
  have no_tally (b : BerthId) : ((s.debounce i).line i).entry ≠ .inputTally b := by
    rw [line_debounce, if_pos rfl]
    exact fun tally => by cases entry.symm.trans tally
  have told : (s.debounce i).reread = { s.debounce i with lineSource := (s.debounce i).releaseLineLow } := by
    have berths : (Vector.ofFn fun b => { (s.debounce i).berth b with halted := (s.debounce i).haltCondition b }) =
        (s.debounce i).berths := berths_ext fun b => by
      rw [Fin.getElem_fin, Vector.getElem_ofFn, haltCondition, debounce,
        any_pulls_of_other (by rfl) (by rw [entry]; nofun)]
      show { s.berth b with halted := s.haltCondition b } = s.berth b
      rw [← followed.2.2.1 b]
    rw [reread, berths]
  set u : State := { s.debounce i with lineSource := (s.debounce i).releaseLineLow } with read
  have kept := linesKept_workOutRelease u
  obtain ⟨ended, release⟩ := u.workOutRelease.endEvent_linesKept s.flags
  have source : (u.workOutRelease.endEvent s.flags).lineSource = (s.debounce i).releaseLineLow :=
    ended.lineSource.trans kept.lineSource
  refine ⟨u.workOutRelease.endEvent s.flags, ?_, ended.lines.trans kept.lines, source, ?_, fun same => ?_⟩
  · rw [exec_lineDebounce followed.1 (by rw [entry]; rfl) moved,
      show (s.onLine i fun x => { x with debounced := x.level }).pulse i = s.debounce i from pulse_of_no_tally no_tally, told]
  · rw [source, release, releaseActive_workOutRelease]
    rfl
  · rw [release, releaseActive_workOutRelease] at same
    rw [source, workOutRelease_of_agreed (by exact same.symm), endEvent_of_atRest (by exact rest)]
    exact noticed_of_flags rfl

end State
end Sys2Proof.Machine
open Sys2Proof Sys2Proof.Machine

/-- Settles O49. -/
theorem debouncedLinesDriveTheirFunctions : Obligations.DebouncedLinesDriveTheirFunctions := by
  refine ⟨fun s i level => rfl, fun s i still => ?_, fun s rest followed i input moved => ?_⟩
  · have idle : ¬ (s.line i).measuring = true := by
      rw [PierLine.measuring]
      rcases still with output | level
      · simp [output]
      · simp [level]
    exact congrArg Host.Outcome.next (if_neg idle)
  have entry_read : ((s.debounce i).line i).entry = (s.line i).entry := by rw [State.line_debounce, if_pos rfl]
  have level_read : ((s.debounce i).line i).debounced = (s.line i).level := by rw [State.line_debounce, if_pos rfl]
  refine ⟨fun unused => ?_, fun b entry => ⟨fun high => ?_, fun low => ?_⟩, fun b entry => ?_, fun entry => ?_⟩
  · have quiet : ((s.debounce i).pulse i).reread = s.debounce i := by
      obtain ⟨halts, source⟩ := State.told_debounce followed (i := i) (by rw [unused]; nofun) (by rw [unused]; nofun)
      rw [State.pulse_of_no_tally (by rw [entry_read, unused]; nofun)]
      exact State.reread_of_told halts source
    rw [State.exec_lineDebounce_of_quiet rest followed input moved quiet rfl]
    exact congrArg _ (State.noticed_of_flags rfl)
  · have quiet : ((s.debounce i).pulse i).reread = s.debounce i := by
      obtain ⟨halts, source⟩ := State.told_debounce followed (i := i) (by rw [entry]; nofun) (by rw [entry]; nofun)
      rw [State.pulse_of_tally (entry_read.trans entry), if_neg (by rw [level_read, high]; nofun)]
      exact State.reread_of_told halts source
    rw [State.exec_lineDebounce_of_quiet rest followed input moved quiet rfl]
    exact congrArg _ (State.noticed_of_flags rfl)
  · have told : ((s.debounce i).pulse i).reread = (s.debounce i).tally b := by
      obtain ⟨halts, source⟩ := State.told_debounce followed (i := i) (by rw [entry]; nofun) (by rw [entry]; nofun)
      have kept := State.Works.linesKept (gated := fun _ => True) ((s.debounce i).works_tally b)
      rw [State.pulse_of_tally (entry_read.trans entry), if_pos (by rw [level_read, low])]
      refine State.reread_of_told (fun c => ?_) ?_
      · rw [kept.halted, kept.haltCondition]
        exact halts c
      · rw [kept.lineSource, kept.releaseLineLow]
        exact source
    rw [State.exec_lineDebounce_of_quiet rest followed input moved told (by rw [State.tally, State.atBerth_shape])]
    rfl
  · have told : ((s.debounce i).pulse i).reread = (s.debounce i).withBerth b { s.berth b with
        halted := decide (∃ j : LineId, ((s.debounce i).line j).entry = .inputHalt b ∧
          ((s.debounce i).line j).debounced = .low) } := by
      rw [State.pulse_of_no_tally (by rw [entry_read, entry]; nofun)]
      exact State.reread_of_halt followed entry
    rw [State.exec_lineDebounce_of_quiet rest followed input moved told rfl]
    exact congrArg _ (State.noticed_of_flags rfl)
  · obtain ⟨t, ran, lines, source, release, same⟩ := State.exec_lineDebounce_of_release rest followed entry moved
    exact ⟨t, ran, lines, source.trans (State.releaseLineLow_eq _), release, same⟩
end

section
/-! LINE SETUP (spec/09, R155 to R157). -/

namespace Sys2Proof.Machine

theorem lineEntryOf_of_outside {entry parameter options : Byte}
    (outside : 4 < entry.toNat ∨ (entry = 1 ∧ 17 < parameter.toNat) ∨
      ((entry = 3 ∨ entry = 4) ∧ (parameter.toNat = 0 ∨ 4 < parameter.toNat))) :
    lineEntryOf entry parameter options = none := by
  have no_berth (beyond : parameter.toNat = 0 ∨ 4 < parameter.toNat) : berthOf parameter = none :=
    oneBased_of_outside beyond
  rcases outside with beyond | ⟨rfl, beyond⟩ | ⟨rfl | rfl, beyond⟩
  · unfold lineEntryOf
    split
    any_goals omega
    rfl
  · exact congrArg (Option.map _) (below_of_le beyond)
  · exact congrArg (Option.map _) (no_berth beyond)
  · exact congrArg (Option.map _) (no_berth beyond)

namespace State

variable {s : State}

/-- A number out of range leaves the lines as they are (R155). -/
theorem takeLineSetup_of_outside {line entry parameter options : Byte}
    (outside : line.toNat = 0 ∨ 8 < line.toNat ∨ lineEntryOf entry parameter options = none) :
    takeLineSetup line entry parameter options s = (s, .plain .range) := by
  unfold takeLineSetup
  split
  · next i e on_line spelled =>
    rcases outside with low | high | none
    · cases (oneBased_of_outside (.inl low)).symm.trans on_line
    · cases (oneBased_of_outside (.inr high)).symm.trans on_line
    · cases none.symm.trans spelled
  · rfl

/-- With the engine FREE no lane is WAITING (R42). -/
theorem engineSound.none_waiting (sound : s.engineSound = true) (idle : s.engine = none) (l : LaneId) :
    (s.lane l).txn.isWaiting = false := by
  rw [engineSound, idle] at sound
  have free := List.all_eq_true.mp sound l (List.mem_finRange l)
  cases txn : (s.lane l).txn with
  | waiting _ | validating _ =>
    rw [txn] at free
    cases free
  | none | writing _ _ => rfl

theorem withDepot_of_sameDepot {g v : State} (same : g.SameDepot v) : v.withDepot g = v := by
  rw [withDepot, ← same.request, ← same.depotOut, ← same.depotLost, ← same.silenceTimer]

end State
end Sys2Proof.Machine
open Sys2Proof Sys2Proof.Machine

/-- Settles O50. -/
theorem lineSetupTakesEffectAtOnce : Obligations.LineSetupTakesEffectAtOnce := by
  refine ⟨fun s free tag line entry parameter options outside => ?_,
    fun s free sound followed i tag entry parameter options e spelled => ?_⟩
  · have beyond : line.toNat = 0 ∨ 8 < line.toNat ∨ lineEntryOf entry parameter options = none := by
      rcases outside with low | high | entries
      · exact .inl low
      · exact .inr (.inl high)
      · exact .inr (.inr (lineEntryOf_of_outside entries))
    exact congrArg Host.Outcome.next (State.answer_of_unchanged free (State.takeLineSetup_of_outside beyond))
  · obtain ⟨agreed, -⟩ := id followed
    set x := (s.line i).remap e with remapped
    set v := ((s.withDepot s.goodFrame).withLine i x) with replaced
    have depot : s.goodFrame.SameDepot v.workOutRelease.arbitrate :=
      ((State.sameDepot_workOutRelease v).trans (State.sameDepot_arbitrate _)).of_same
    set u := v.workOutRelease.arbitrate.withDepot s with worked
    have ran : exec (.lineSetup tag (number i) entry parameter options) s =
        .next (s.replied u .lineSetup tag (.plain .done)) :=
      State.exec_lineSetup free agreed spelled free (State.withDepot_of_sameDepot depot).symm
    obtain ⟨granted, release⟩ := v.workOutRelease.linesKept_arbitrate
    have kept : v.LinesKept (s.replied u .lineSetup tag (.plain .done)) :=
      (v.linesKept_workOutRelease.trans granted).trans ⟨rfl, rfl, rfl, fun _ => rfl⟩
    have active : u.releaseActive = (s.frameSource || v.lineSource) :=
      release.trans v.releaseActive_workOutRelease
    have line (j : LineId) : (s.replied u .lineSetup tag (.plain .done)).line j = if j = i then x else s.line j :=
      (kept.line j).trans (s.line_withLine i j x)
    refine ⟨_, ran, (line i).trans (if_pos rfl), fun j other => (line j).trans (if_neg other), ?_, fun b => ?_, ?_,
      fun same => ?_, ?_⟩
    · simp only [kept.lineSource, kept.line]
      exact State.lineSource_withLine s i x
    · rw [kept.halted]
      simp only [kept.line]
      exact congrArg Berth.halted (State.berth_withLine s i x b)
    · rw [kept.lineSource]
      exact active
    · have unchanged : u = s.withLine i x := by
        have still : v.workOutRelease = v := State.workOutRelease_of_agreed (by exact same.symm.trans active)
        have calm : v.arbitrate = v := State.arbitrate_of_atRest (State.engineSound.none_waiting sound.2.2.1)
        rw [worked, still, calm]
        rfl
      rw [line i, if_pos rfl, unchanged]
      exact State.replied_of_quiet (BitVec.and_not_self s.flags)
    · exact (List.append_assoc ..).symm
end

section
/-! The turnover of a berth (spec/06, R110, R111). -/

namespace Sys2Proof.Machine

variable {b c : BerthId}

/-- What the credits of a berth's lanes count for a berth (R110, R117). -/
theorem Lane.creditsAt_of_entry {x : Lane} : (if x.mode = .entry b then x.creditsAt c else 0) =
    if c = b then x.creditsAt b else 0 := by
  by_cases same : c = b
  · subst same
    rw [if_pos rfl, Lane.creditsAt]
    split_ifs <;> rfl
  · rw [if_neg same]
    split_ifs with mode
    · exact if_neg fun h => same (Mode.entry.inj (h.symm.trans mode))
    · rfl

/-- A lane of a berth whose vessel departs, with its gate order worked out (R19, R110). -/
def Lane.leftBehind (b : BerthId) (release carried : Bool) (x : Lane) : Lane :=
  if x.mode = .entry b then x.losing.reworked release carried else x

theorem Lane.reworked_frame (x : Lane) (release carried : Bool) : x.reworked release carried =
    { x with gateOrder := (x.reworked release carried).gateOrder, link := (x.reworked release carried).link } := by
  unfold Lane.reworked Lane.renewed Lane.askingGate
  split_ifs <;> rfl

theorem Lane.credits_losing (x : Lane) : x.losing.credits = 0 := by
  unfold Lane.losing
  split_ifs with none_left
  · exact none_left
  · rfl

theorem Lane.losing_frame (x : Lane) : x.losing.mode = x.mode ∧ x.losing.txn = x.txn := by
  unfold Lane.losing
  split_ifs <;> exact ⟨rfl, rfl⟩

theorem Lane.leftBehind_frame (b : BerthId) (release carried : Bool) (x : Lane) :
    (x.leftBehind b release carried).mode = x.mode ∧ (x.leftBehind b release carried).txn = x.txn ∧
    (x.leftBehind b release carried).credits = if x.mode = .entry b then 0 else x.credits := by
  unfold Lane.leftBehind
  split_ifs
  · obtain ⟨mode, txn⟩ := x.losing_frame
    rw [Lane.reworked_frame]
    exact ⟨mode, txn, x.credits_losing⟩
  · exact ⟨rfl, rfl, rfl⟩

namespace State

variable {s t : State} {l : LaneId}

theorem turnoverForfeit_charge (holds : t.Forfeitable) (b : BerthId) (l : LaneId) : t.turnoverForfeit b l =
    (t.charge (if (t.lane l).mode = .entry b then (t.lane l).forfeitRecords l false else []) fun c =>
      .forfeits (if c = b then (t.lane l).creditsAt b else 0)).onLane l
        (·.leftBehind b t.releaseActive (t.carriedBy l)) := by
  simp only [← Lane.creditsAt_of_entry]
  unfold turnoverForfeit
  by_cases mode : (t.lane l).mode = .entry b
  · simp only [if_pos mode]
    rw [forfeitAll_charge holds, reworkGate_eq, onLane_onLane, charge_shape]
    exact onLane_congr (if_pos mode).symm
  · simp only [if_neg mode]
    rw [charge_of_same holds.settled fun _ => rfl]
    exact (onLane_of_eq (f := (·.leftBehind b t.releaseActive (t.carriedBy l))) (if_neg mode)).symm

/-- A write whose berth departs is orphaned (R90, R110). -/
theorem turnoverOrphan_charge (settled : t.Settled) (b : BerthId) (l : LaneId) : t.turnoverOrphan b l =
    (t.charge [] fun c => .releases (if c = b then (t.lane l).txn.ridersAt b else 0)).onLane l
      fun x => { x with txn := x.txn.leftAt b } := by
  have idle {x : Transaction} (txn : (t.lane l).txn = x) (none_held : x.ridersAt b = 0) (same : x.leftAt b = x) :
      t = (t.charge [] fun c => .releases (if c = b then x.ridersAt b else 0)).onLane l
        fun x => { x with txn := x.txn.leftAt b } := by
    rw [none_held]
    simp only [ite_self]
    rw [charge_of_same settled fun _ => rfl]
    refine (onLane_of_eq (f := fun x : Lane => { x with txn := x.txn.leftAt b }) ?_).symm
    show { t.lane l with txn := (t.lane l).txn.leftAt b } = _
    rw [txn, same, ← txn]
  unfold turnoverOrphan
  cases txn : (t.lane l).txn with
  | writing image w =>
    dsimp only
    by_cases own : w.berth = b
    · have riders : (fun c => Counts.releases ((t.lane l).txn.ridersAt c)) =
          fun c => .releases (if c = b then Transaction.ridersAt b (.writing image w) else 0) := by
        funext c
        rw [txn]
        by_cases same : c = b
        · rw [if_pos same, same]
        · rw [if_neg same, Transaction.ridersAt, if_neg fun h => same (h.1.symm.trans own)]
      rw [if_pos own, orphan_charge settled, riders]
      refine onLane_congr ?_
      rw [lane_charge, txn, Transaction.orphan, Transaction.leftAt, own, beq_self_eq_true, Bool.or_true]
    · rw [if_neg own]
      exact idle txn (if_neg fun h => own h.1) (by rw [Transaction.leftAt, beq_eq_false_iff_ne.mpr own, Bool.or_false])
  | none => exact idle txn rfl rfl
  | waiting image => exact idle txn rfl rfl
  | validating image => exact idle txn rfl rfl

theorem sum_at (xs : List LaneId) (n : LaneId → Nat) (b c : BerthId) :
    (xs.map fun l => if c = b then n l else 0).sum = if c = b then (xs.map n).sum else 0 := by
  split_ifs
  · rfl
  · simp

theorem eachLane_turnoverForfeit (holds : s.Forfeitable) (b : BerthId) : s.eachLane (State.turnoverForfeit b) =
    (s.charge (allLanes.flatMap fun l => if (s.lane l).mode = .entry b then (s.lane l).forfeitRecords l false else [])
      fun c => .forfeits (if c = b then s.creditsFor b else 0)).onLanes
        fun l => (·.leftBehind b s.releaseActive (s.carriedBy l)) := by
  have acts (t : State) (l : LaneId) (h : t.Forfeitable ∧ t.releaseActive = s.releaseActive ∧ t.turn = s.turn) :
      t.turnoverForfeit b l = (t.charge (if (t.lane l).mode = .entry b then (t.lane l).forfeitRecords l false else [])
        fun c => .forfeits (if c = b then (t.lane l).creditsAt b else 0)).onLane l
          (·.leftBehind b s.releaseActive (s.carriedBy l)) := by
    obtain ⟨holds, release, turn⟩ := h
    have carried : t.carriedBy l = s.carriedBy l := by rw [carriedBy, turn, carriedBy]
    rw [turnoverForfeit_charge holds, release, carried]
  rw [eachLane_charge (P := fun t => t.Forfeitable ∧ t.releaseActive = s.releaseActive ∧ t.turn = s.turn)
    (rs := fun l x => if x.mode = .entry b then x.forfeitRecords l false else [])
    (f := fun _ x c => .forfeits (if c = b then x.creditsAt b else 0)) acts (fun t l h => ?_) holds.settled ⟨holds, rfl, rfl⟩]
  · have counts (c : BerthId) := foldl_comp_sum Counts.forfeits_zero Counts.forfeits_forfeits
      (fun l => if c = b then (s.lane l).creditsAt b else 0) allLanes id
    simp only [Function.comp_id, sum_at] at counts
    simp only [counts]
    rfl
  · rw [acts t l h, charge_shape]
    obtain ⟨holds, rest⟩ := h
    refine ⟨?_, rest⟩
    rw [← charge_shape]
    refine holds.charge_onLane _ _ fun credits => ?_
    obtain ⟨mode, -, left⟩ := (t.lane l).leftBehind_frame b s.releaseActive (s.carriedBy l)
    rw [left] at credits
    split_ifs at credits
    · exact absurd rfl credits
    · exact ⟨credits, mode⟩

theorem eachLane_turnoverOrphan (settled : s.Settled) (b : BerthId) : s.eachLane (State.turnoverOrphan b) =
    (s.charge [] fun c => .releases (if c = b then (allLanes.map fun l => (s.lane l).txn.ridersAt b).sum else 0)).onLanes
      fun _ x => { x with txn := x.txn.leftAt b } := by
  rw [eachLane_charge (P := Settled) (rs := fun _ _ => [])
    (f := fun _ x c => .releases (if c = b then x.txn.ridersAt b else 0)) (g := fun _ x => { x with txn := x.txn.leftAt b })
    (fun t l settled => turnoverOrphan_charge settled b l)
    (fun t l settled => by rw [turnoverOrphan_charge settled]; exact settled.charge [] _) settled settled]
  have counts (c : BerthId) := foldl_comp_sum Counts.releases_zero Counts.releases_releases
    (fun l => if c = b then (s.lane l).txn.ridersAt b else 0) allLanes id
  simp only [Function.comp_id, sum_at] at counts
  simp only [counts, List.flatMap_eq_nil_iff.mpr (fun (_ : LaneId) _ => rfl)]

end State
end Sys2Proof.Machine
end

section
/-! BERTH DEPART (spec/06, R110, R111). -/

namespace Sys2Proof.Machine
namespace State

variable {s t : State} {b : BerthId}

/-- The riders of a berth's entries, for a berth (R91). -/
theorem ridersAt_of_closing (es : List RecoveryEntry) (b c : BerthId) :
    ((es.filter (·.berth == b)).map (·.ridersAt c)).sum = if c = b then (es.map (·.ridersAt b)).sum else 0 := by
  induction es with
  | nil => simp
  | cons e es ih =>
    rw [List.filter_cons]
    by_cases own : e.berth = b
    · rw [if_pos (beq_iff_eq.mpr own), List.map_cons, List.sum_cons, ih, List.map_cons, List.sum_cons]
      split_ifs with same
      · rw [same]
      · rw [RecoveryEntry.ridersAt, if_neg fun h => same (h.symm.trans own)]
    · rw [if_neg (by rwa [beq_iff_eq]), ih, List.map_cons, List.sum_cons]
      simp only [RecoveryEntry.ridersAt, if_neg own, Nat.zero_add]

/-- The records of a turnover before its manifest (R27, R92, R110). -/
def turnoverRecords (s : State) (b : BerthId) : List (Bool × Draft) :=
  (allLanes.flatMap fun l => if (s.lane l).mode = .entry b then (s.lane l).forfeitRecords l false else []) ++
    (s.recovery.filter (·.berth == b)).map (·.unresolvedRecord false)

/-- A lane after a turnover (R110). -/
def turnedOver (s : State) (b : BerthId) (l : LaneId) (x : Lane) : Lane :=
  { x.leftBehind b s.releaseActive (s.carriedBy l) with
    txn := (x.leftBehind b s.releaseActive (s.carriedBy l)).txn.leftAt b }

/-- The turnover up to the manifest (R110). -/
theorem turnoverEmptied (sound : s.placesSound) (b : BerthId) :
    ((s.eachLane (State.turnoverForfeit b)).eachLane (State.turnoverOrphan b)).closeEntries false (·.berth == b) =
      let u := (s.recordAll (s.turnoverRecords b)).withBerth b ((s.berth b).counted
        (.releases (s.berth b).counts.held ∘ .forfeits (s.berth b).counts.granted))
      { u.onLanes (s.turnedOver b) with
        recovery := s.recovery.filter fun e => !(e.berth == b)
        flags := u.flags ||| (if s.recovery.filter (·.berth == b) = [] then 0 else 0x40#16) } := by
  obtain ⟨-, -, -, -, distinct, -⟩ := id sound
  have settled : s.Settled := sound.forfeitable.settled
  have riders (rs : List (Bool × Draft)) (f : BerthId → Counts → Counts) :
      (allLanes.map fun l => (((s.charge rs f).onLanes fun l => (·.leftBehind b s.releaseActive (s.carriedBy l))).lane
        l).txn.ridersAt b).sum = (allLanes.map fun l => (s.lane l).txn.ridersAt b).sum := by
    refine congrArg List.sum (List.map_congr_left fun l _ => ?_)
    obtain ⟨-, txn, -⟩ := (s.lane l).leftBehind_frame b s.releaseActive (s.carriedBy l)
    rw [lane_onLanes, lane_charge, txn]
  have listed (rs : List (Bool × Draft)) (f : BerthId → Counts → Counts) (g : LaneId → Lane → Lane) :
      ((s.charge rs f).onLanes g).recovery = s.recovery := by
    rw [charge_shape]
    rfl
  obtain ⟨held, granted⟩ := sound.counts b
  have counts : (fun c => Counts.releases (if c = b then (s.recovery.map (·.ridersAt b)).sum else 0) ∘
      Counts.releases (if c = b then (allLanes.map fun l => (s.lane l).txn.ridersAt b).sum else 0) ∘
      Counts.forfeits (if c = b then s.creditsFor b else 0)) =
      fun c => if c = b then Counts.releases (s.berth b).counts.held ∘ Counts.forfeits (s.berth b).counts.granted else id := by
    funext c
    by_cases same : c = b
    · simp only [if_pos same]
      rw [← Function.comp_assoc, Counts.releases_releases, granted, held]
    · simp only [if_neg same, Counts.releases_zero, Counts.forfeits_zero, Function.comp_id]
  rw [eachLane_turnoverForfeit sound.forfeitable, eachLane_turnoverOrphan (onLanes_settled (settled.charge _ _) _), riders,
    charge_onLanes, charge_charge, onLanes_onLanes,
    closeEntries_charge (onLanes_settled (settled.charge _ _) _) (by rw [listed]; exact distinct)]
  simp only [listed, charge_onLanes, charge_charge, List.append_nil, ridersAt_of_closing, counts]
  rw [withBerth_counted settled]
  rfl

/-- The manifest closed and the berth IDLE, as the statements give it (R110, R111). -/
theorem finishTurnover_eq (u : State) (b : BerthId) : u.finishTurnover b =
    (u.record false (manifestDraft b ⟨((u.berth b).vessel.map (·.number)).getD 0, (u.berth b).counts⟩)).withBerth b
      (u.berth b).closeManifest.clearVessel := by
  have berth (v : State) : v.onBerth b (fun _ => (u.berth b).closeManifest) = v.withBerth b (u.berth b).closeManifest := rfl
  rw [finishTurnover, berth, record_withBerth]
  show State.withBerth _ b (State.berth _ b).clearVessel = _
  rw [berth_withBerth, withBerth_withBerth]
  rfl

/-- Counts of 0 in a berth that is emptied and closed (R110, R111). -/
theorem closed_follow (x : Berth) : x.follow.closeManifest.clearVessel = { x with
    state := .idle, vessel := none, effective := 0, reserve := 0, source := .gates, quietTimer := none
    lastCall := false, counts := Counts.zero, closed := some ⟨(x.vessel.map (·.number)).getD 0, x.counts⟩ } ∧
    x.follow.vessel = x.vessel ∧ x.follow.counts = x.counts := by
  unfold Berth.follow
  split_ifs <;> exact ⟨rfl, rfl, rfl⟩

/-- A departed berth, as the statements give it (R110, R111). -/
def berthDeparted (s : State) (b : BerthId) : Berth := { s.berth b with
  state := .idle, vessel := none, effective := 0, reserve := 0, source := .gates, quietTimer := none
  lastCall := false, counts := ⟨0, 0, 0, 0, 0, 0, 0, 0, 0, 0⟩
  closed := some (s.manifestClosed b) }

/-- A record amid changed lanes, a changed recovery list and flags raised. -/
theorem record_beside (v : State) (g : LaneId → Lane → Lane) (es : List RecoveryEntry) (m : Half) (reserved : Bool)
    (d : Draft) : State.record { v.onLanes g with recovery := es, flags := v.flags ||| m } reserved d =
      { (v.record reserved d).onLanes g with recovery := es, flags := (v.record reserved d).flags ||| m } := by
  rw [record_eq, record_eq]
  dsimp only
  rw [show (v.onLanes g).journal = v.journal from rfl, show (v.onLanes g).clock = v.clock from rfl, BitVec.or_assoc, BitVec.or_comm m, ← BitVec.or_assoc]
  rfl

/-- The turnover as the statements give it, but for its lanes (R110, R111). -/
theorem turnover_eq (sound : s.placesSound) (b : BerthId) :
    s.turnover b = { s.departed b with lanes := (s.onLanes (s.turnedOver b)).lanes } := by
  set x : Berth := { s.berth b with counts := { (s.berth b).counts with
    held := 0, granted := 0, forfeited := raised 65535 (s.berth b).counts.forfeited (s.berth b).counts.granted } } with emptied
  set r := s.recordAll (s.turnoverRecords b) with recorded
  set m : Half := if s.recovery.filter (·.berth == b) = [] then 0 else 0x40#16 with mark
  obtain ⟨berth, vessel, counts⟩ := closed_follow x
  have before : ((s.eachLane (State.turnoverForfeit b)).eachLane (State.turnoverOrphan b)).closeEntries false (·.berth == b) =
      { (r.withBerth b x.follow).onLanes (s.turnedOver b) with
        recovery := s.recovery.filter fun e => !(e.berth == b), flags := (r.withBerth b x.follow).flags ||| m } := by
    rw [turnoverEmptied sound, Berth.emptied (sound.1 b).1]
  have own : State.berth { (r.withBerth b x.follow).onLanes (s.turnedOver b) with
      recovery := s.recovery.filter fun e => !(e.berth == b), flags := (r.withBerth b x.follow).flags ||| m } b = x.follow :=
    r.berth_withBerth b x.follow
  have last : r.record false (manifestDraft b ⟨(x.vessel.map (·.number)).getD 0, x.counts⟩) = s.recordAll
      (s.turnoverRecords b ++ [(false, manifestDraft b (s.manifestClosed b))]) :=
    (recordAll_append s (s.turnoverRecords b) [(false, manifestDraft b (s.manifestClosed b))]).symm
  set R := s.recordAll (s.turnoverRecords b ++ [(false, manifestDraft b (s.manifestClosed b))]) with whole
  have staying : (s.recovery.filter fun e => !(e.berth == b)) = s.recovery.filter (·.berth ≠ b) :=
    List.filter_congr fun e _ => (decide_not (p := e.berth = b)).symm
  have lanes (y : Berth) : ((R.withBerth b y).onLanes (s.turnedOver b)).lanes = (s.onLanes (s.turnedOver b)).lanes :=
    lane_ext fun l => by
      have kept : R.lane l = s.lane l := lane_congr (by rw [whole, recordAll_shape]) l
      rw [lane_onLanes, lane_onLanes, lane_withBerth, kept]
  have departed : s.departed b = { R.withBerth b (s.berthDeparted b) with
      lanes := (s.departed b).lanes, recovery := s.recovery.filter (·.berth ≠ b), flags := R.flags ||| m } := rfl
  have twice : State.withBerth { (R.withBerth b x.follow).onLanes (s.turnedOver b) with
      recovery := s.recovery.filter (·.berth ≠ b), flags := R.flags ||| m } b (s.berthDeparted b) =
      { (R.withBerth b x.follow).withBerth b (s.berthDeparted b) with
        lanes := ((R.withBerth b x.follow).onLanes (s.turnedOver b)).lanes
        recovery := s.recovery.filter (·.berth ≠ b), flags := R.flags ||| m } := rfl
  rw [turnover, before, finishTurnover_eq, own, record_beside, record_withBerth, berth, vessel, counts, last, staying]
  refine twice.trans ?_
  rw [departed, withBerth_withBerth, lanes]

/-! ### The lanes of a departed berth -/

/-- A lane of the berth, as the statements give it (R19, R27, R110). -/
theorem leftBehind_eq (sound : s.placesSound) (gates : s.gatesInOrder) (b : BerthId) (l : LaneId) :
    (s.lane l).leftBehind b s.releaseActive (s.carriedBy l) =
      if (s.lane l).mode = .entry b then (s.lane l).vesselLeft (s.carriedBy l) else s.lane l := by
  refine ite_congr rfl (fun mode => ?_) fun _ => rfl
  have order := gates l
  by_cases none_left : (s.lane l).credits = 0
  · rw [Lane.losing, if_pos none_left, Lane.reworked_of_same order.symm, Lane.vesselLeft, if_pos none_left]
  · have opened := Lane.leaf_of_credits none_left
    obtain ⟨-, -, outside, online, -⟩ := sound.of_opened opened
    rw [Lane.losing, if_neg none_left, outside, Lane.reworked_of_opened (by exact online) (by exact mode)
      (by exact gates.of_opened outside mode opened) (.inl rfl), Lane.vesselLeft, if_neg none_left]
    rfl

theorem turnover_eq_departed (sound : s.placesSound) (gates : s.gatesInOrder) (b : BerthId) :
    s.turnover b = s.departed b := by
  have lanes : (s.onLanes (s.turnedOver b)).lanes = (s.departed b).lanes :=
    congrArg Vector.ofFn (funext fun l => by
      rw [turnedOver, leftBehind_eq sound gates])
  rw [turnover_eq sound, lanes]

/-! ### A turnover amid a frame of the depot -/

theorem departed_withDepot (s t : State) (b : BerthId) : (s.withDepot t).departed b = (s.departed b).withDepot t := by
  have records (rs : List (Bool × Draft)) : (s.withDepot t).recordAll rs = (s.recordAll rs).withDepot t :=
    recordAll_comm (g := (·.withDepot t)) (fun u r d => withDepot_record u t r d) rs s
  unfold departed
  dsimp only
  rw [records]
  rfl

theorem turnover_withDepot (sound : s.placesSound) (t : State) (b : BerthId) :
    (s.withDepot t).turnover b = (s.turnover b).withDepot t := by
  rw [turnover_eq sound, turnover_eq (s := s.withDepot t) sound, departed_withDepot]
  rfl

theorem departed_shape (s : State) (b : BerthId) : s.departed b = { s.withBerth b (s.berthDeparted b) with
    lanes := (s.departed b).lanes, recovery := s.recovery.filter (·.berth ≠ b)
    journal := (s.departed b).journal, flags := (s.departed b).flags } := by
  have recorded (rs : List (Bool × Draft)) (m : Half) : { (s.recordAll rs).withBerth b (s.berthDeparted b) with
      lanes := (s.departed b).lanes, recovery := s.recovery.filter (·.berth ≠ b), flags := (s.recordAll rs).flags ||| m } =
      { s.withBerth b (s.berthDeparted b) with
        lanes := (s.departed b).lanes, recovery := s.recovery.filter (·.berth ≠ b)
        journal := (s.recordAll rs).journal, flags := (s.recordAll rs).flags ||| m } := by
    rw [recordAll_shape]
    rfl
  exact recorded ..

theorem turnover_shape (sound : s.placesSound) (b : BerthId) : s.turnover b = { s.withBerth b (s.berthDeparted b) with
    lanes := (s.onLanes (s.turnedOver b)).lanes, recovery := s.recovery.filter (·.berth ≠ b)
    journal := (s.departed b).journal, flags := (s.departed b).flags } :=
  (turnover_eq sound b).trans (congrArg (fun u : State => { u with lanes := (s.onLanes (s.turnedOver b)).lanes })
    (s.departed_shape b))

theorem exec_berthDepart (free : s.request = none) (sound : s.placesSound) (sailing : (s.berth b).state ≠ .idle)
    (tag : Byte) : exec (.berthDepart tag (number b)) s = .next (s.replied (s.turnover b) .berthDepart tag (.plain .done)) := by
  have still : (s.turnover b).request = none := by
    rw [turnover_shape sound]
    exact free
  refine congrArg Host.Outcome.next (answer_eq_replied free still ?_)
  rw [berthOf_number, inRange_some, takeDepart, if_neg (by exact sailing), turnover_withDepot sound]

end State
end Sys2Proof.Machine
open Sys2Proof Sys2Proof.Machine

/-- Settles O42. -/
theorem departPerformsTheTurnover : Obligations.DepartPerformsTheTurnover := by
  refine ⟨fun s free b tag idle => ?_, fun s free sound b tag sailing => ?_, fun s free sound gates b tag sailing => ?_⟩
  · refine congrArg Host.Outcome.next (State.answer_of_unchanged free ?_)
    rw [berthOf_number, inRange_some]
    exact if_pos idle
  · have turned := State.turnover_shape sound b
    have journal : (s.turnover b).journal = (s.departed b).journal := by rw [turned]
    have recovery : (s.turnover b).recovery = s.recovery.filter (·.berth ≠ b) := by rw [turned]
    have rest : (s.turnover b).engine = s.engine ∧ (s.turnover b).bankA = s.bankA ∧ (s.turnover b).bankB = s.bankB ∧
        (s.turnover b).clock = s.clock ∧ (s.turnover b).settings = s.settings := by
      rw [turned]
      exact ⟨rfl, rfl, rfl, rfl, rfl⟩
    have lane (l : LaneId) : (s.turnover b).lane l = s.turnedOver b l (s.lane l) :=
      (State.lane_congr (congrArg State.lanes turned) l).trans (s.lane_onLanes (s.turnedOver b) l)
    have berths : (s.turnover b).berths = (s.withBerth b (s.berthDeparted b)).berths := by
      rw [turned]
    have berth (c : BerthId) : (s.turnover b).berth c = (s.withBerth b (s.berthDeparted b)).berth c := by
      rw [State.berth, berths, State.berth]
    have ran := State.exec_berthDepart free sound sailing tag
    generalize s.turnover b = u at *
    refine ⟨_, ran, ?_, ?_, fun c other => ?_, ?_, fun l => ?_,
      fun l => ?_, fun l elsewhere => ?_, ?_⟩
    · refine (berth b).trans ?_
      rw [State.departed_shape]
      rfl
    · exact journal
    · exact (berth c).trans (s.berth_withBerth_ne _ other)
    · exact recovery
    · obtain ⟨-, txn, -⟩ := (s.lane l).leftBehind_frame b s.releaseActive (s.carriedBy l)
      refine (congrArg Lane.txn (lane l)).trans ?_
      rw [State.turnedOver, txn]
    · obtain ⟨-, -, credits⟩ := (s.lane l).leftBehind_frame b s.releaseActive (s.carriedBy l)
      exact (congrArg Lane.credits (lane l)).trans credits
    · have kept : (s.lane l).leftBehind b s.releaseActive (s.carriedBy l) = s.lane l := if_neg elsewhere
      have left : u.lane l = { s.lane l with txn := (s.lane l).txn.leftAt b } := by
        rw [lane, State.turnedOver, kept]
      exact ⟨(congrArg Lane.leaf left :), (congrArg Lane.link left :)⟩
    · exact rest
  · rw [State.exec_berthDepart free sound sailing, State.turnover_eq_departed sound gates]
end

section
/-! A control reset ends everything in flight (spec/10, R173 steps 1 to 3). -/

namespace Sys2Proof.Machine
/-- What a reset leaves of a lane's mode and credits (R38). -/
theorem Lane.resetFor_frame (x : Lane) (release : Bool) (reason : ResetReason) :
    (x.resetFor release reason).mode = x.mode ∧ (x.resetFor release reason).credits = 0 := by
  have gated (y : Lane) : (y.gated release).mode = y.mode ∧ (y.gated release).leaf = y.leaf := by
    unfold Lane.gated
    dsimp only
    split_ifs <;> exact ⟨rfl, rfl⟩
  have freed (y : Lane) : (y.freed release).mode = y.mode ∧ (y.freed release).leaf = y.leaf := by
    unfold Lane.freed
    split_ifs <;> exact ⟨rfl, rfl⟩
  have no_credit : (if x.leaf = .fault then Leaf.fault else .shut).credits = 0 := by
    split_ifs <;> rfl
  rw [Lane.credits, Lane.resetFor, (freed _).1, (freed _).2, (gated _).1, (gated _).2]
  exact ⟨rfl, no_credit⟩

/-- The records of a lane's reset (R27, R38). -/
def Lane.resetRecords (x : Lane) (l : LaneId) : List (Bool × Draft) :=
  x.txn.unresolvedRecords l ++ x.forfeitRecords l false

namespace State

variable {s t : State} {l : LaneId}

/-! ### The journal behind records -/

/-- Records that take their reserved slots give the reservations back (R147). -/
theorem reservations_recordAll (t : State) (rs : List (Bool × Draft)) :
    (t.recordAll rs).journal.reservations = t.journal.reservations - rs.countP (·.1) := by
  induction rs generalizing t with
  | nil => rfl
  | cons r rs ih =>
    have first : (t.record r.1 r.2).journal.reservations = t.journal.reservations - if r.1 then 1 else 0 := by
      rw [record_eq]
      unfold Journal.recorded
      split_ifs <;> rfl
    exact (ih (t.record r.1 r.2)).trans (by rw [first, List.countP_cons, Nat.sub_sub, Nat.add_comm])

/-- The records of an event come behind those that stand in the journal (R144). -/
theorem records_recordAll (t : State) (rs : List (Bool × Draft)) :
    t.journal.records <+: (t.recordAll rs).journal.records := by
  induction rs generalizing t with
  | nil => exact List.prefix_rfl
  | cons r rs ih =>
    have first : t.journal.records <+: (t.record r.1 r.2).journal.records := by
      rw [record_eq]
      unfold Journal.recorded
      split_ifs
      · exact List.prefix_append ..
      · exact List.prefix_append ..
      · exact List.prefix_rfl
    exact first.trans (ih (t.record r.1 r.2))

/-! ### One lane -/

theorem charge_engine (t : State) (e : Option Validation) (rs : List (Bool × Draft)) (f : BerthId → Counts → Counts) :
    State.charge { t with engine := e } rs f = { t.charge rs f with engine := e } := by
  have records : State.recordAll { t with engine := e } rs = { t.recordAll rs with engine := e } :=
    recordAll_comm (g := fun t => { t with engine := e }) (fun t r d => by rw [record_eq, record_eq]) rs t
  rw [charge, records]
  rfl

theorem charge_own_engine (t : State) (rs : List (Bool × Draft)) (f : BerthId → Counts → Counts) :
    { t.charge rs f with engine := t.engine } = t.charge rs f := by
  rw [charge_shape]

/-- A write that ends in a control reset (R38, R90). -/
theorem resetWrite_charge (settled : t.Settled) {l : LaneId} {image : CardImage} {w : CardWrite}
    (writing : (t.lane l).txn = .writing image w) : t.resetTransaction l .controlReset =
    t.charge ((t.lane l).txn.unresolvedRecords l) fun b => .releases ((t.lane l).txn.ridersAt b) := by
  have unfolded : t.resetTransaction l .controlReset =
      if w.orphaned then t.record w.reservation (unresolvedWrite l image w)
      else (t.release w.berth w.riders).record w.reservation (unresolvedWrite l image w) := by
    rw [resetTransaction, writing]
    rfl
  rw [unfolded, writing]
  by_cases orphan : w.orphaned = true
  · have none_held (b : BerthId) : Transaction.ridersAt b (.writing image w) = 0 := if_neg (by simp [orphan])
    rw [if_pos orphan, charge_of_same settled fun b => by rw [none_held]; rfl]
    rfl
  · have live := Bool.eq_false_of_not_eq_true orphan
    have counts : (fun c => if c = w.berth then Counts.releases w.riders else id) =
        fun c => Counts.releases (Transaction.ridersAt c (.writing image w)) := by
      funext c
      by_cases same : c = w.berth
      · rw [if_pos same, Transaction.ridersAt, if_pos ⟨same.symm, live⟩]
      · rw [if_neg same, Transaction.ridersAt, if_neg fun h => same h.1.symm]
        rfl
    rw [if_neg orphan, release_eq (settled w.berth), record_withBerth, ← counts, ← withBerth_counted settled]
    rfl

/-- What a control reset makes of a transaction (R38). -/
theorem resetTransaction_charge (settled : t.Settled) (l : LaneId) : ∃ e, (t.engine = none → e = none) ∧
    t.resetTransaction l .controlReset =
      { t.charge ((t.lane l).txn.unresolvedRecords l) fun b => .releases ((t.lane l).txn.ridersAt b) with engine := e } := by
  have idle {x : Transaction} (no_record : x.unresolvedRecords l = []) (none_held : ∀ b, x.ridersAt b = 0) :
      t.charge (x.unresolvedRecords l) (fun b => .releases (x.ridersAt b)) = t := by
    rw [charge_of_same settled fun b => by rw [none_held]; rfl, no_record]
    rfl
  cases txn : (t.lane l).txn with
  | none => exact ⟨t.engine, id, by rw [idle rfl fun _ => rfl, resetTransaction, txn]⟩
  | waiting image => exact ⟨t.engine, id, by rw [idle rfl fun _ => rfl, resetTransaction, txn]⟩
  | validating image =>
    have abandoned : t.resetTransaction l .controlReset = t.abandon l := by rw [resetTransaction, txn]
    rw [abandoned, idle rfl fun _ => rfl, abandon]
    split
    · next v busy =>
      split_ifs
      · exact ⟨none, fun _ => rfl, rfl⟩
      · exact ⟨t.engine, id, rfl⟩
    · exact ⟨t.engine, id, rfl⟩
  | writing image w =>
    refine ⟨t.engine, id, ?_⟩
    rw [charge_own_engine, ← txn]
    exact resetWrite_charge settled txn

/-- What a lane reset makes of the credits (R27, R117). -/
theorem creditsReset_charge (holds : t.Forfeitable) (l : LaneId) : t.creditsReset l (t.lane l) =
    t.charge ((t.lane l).forfeitRecords l false) fun b => .forfeits ((t.lane l).creditsAt b) := by
  by_cases none_left : (t.lane l).credits = 0
  · rw [creditsReset_of_none none_left, Lane.forfeitRecords_of_none none_left,
      charge_of_same holds.settled fun b => by rw [Lane.creditsAt_of_none none_left]; rfl]
    rfl
  · obtain ⟨b, mode, -⟩ := holds.credits l none_left
    have counts : (fun c => if c = b then Counts.forfeit (t.lane l).credits else id) =
        fun c => Counts.forfeits ((t.lane l).creditsAt c) := by
      funext c
      by_cases same : c = b
      · subst same
        rw [if_pos rfl, Lane.creditsAt, if_pos mode, Counts.forfeits_of_pos none_left]
      · rw [if_neg same, Lane.creditsAt, if_neg (by rw [mode]; exact fun h => same (Mode.entry.inj h).symm)]
        rfl
    rw [creditsReset_of_opened none_left mode, Lane.forfeitRecords_of_entry none_left mode, ← counts,
      ← withBerth_counted holds.settled]
    rfl

/-- A lane in a control reset (R38, R173). -/
theorem laneReset_charge (holds : t.Forfeitable) (l : LaneId) : ∃ e, (t.engine = none → e = none) ∧
    t.laneReset l .controlReset =
      { (t.charge ((t.lane l).resetRecords l) fun b =>
          .forfeits ((t.lane l).creditsAt b) ∘ .releases ((t.lane l).txn.ridersAt b)).onLane l
            (·.resetFor t.releaseActive .controlReset) with engine := e } := by
  obtain ⟨e, idle, reset⟩ := resetTransaction_charge holds.settled l
  refine ⟨e, idle, ?_⟩
  set u := t.charge ((t.lane l).txn.unresolvedRecords l) fun b => .releases ((t.lane l).txn.ridersAt b) with dealt
  have lanes : ({ u with engine := e } : State).lane l = t.lane l := lane_charge (t := t) _ (fun b => .releases ((t.lane l).txn.ridersAt b)) l
  have still : ({ u with engine := e } : State).Forfeitable := by
    have kept := holds.charge_onLane (l := l) ((t.lane l).txn.unresolvedRecords l)
      (fun b => .releases ((t.lane l).txn.ridersAt b)) (g := id) fun credits => ⟨credits, rfl⟩
    rw [← dealt, show u.onLane l id = u from onLane_of_eq (f := id) rfl] at kept
    exact ⟨kept.settled, kept.credits⟩
  have release : u.releaseActive = t.releaseActive := by rw [dealt, charge_shape]
  have ended := laneReset_lane (s := { u with engine := e }) (l := l) (fun credits => by
    obtain ⟨b, mode, moored⟩ := still.credits l credits
    exact ⟨b, mode, still.settled b, moored⟩) .controlReset
  rw [creditsReset_charge still, lanes, charge_engine u e, dealt, charge_charge, ← dealt] at ended
  have own : (t.charge ((t.lane l).resetRecords l) fun b =>
      .forfeits ((t.lane l).creditsAt b) ∘ .releases ((t.lane l).txn.ridersAt b)).onLane l
        (·.resetFor t.releaseActive .controlReset) = State.withLane _ l ((t.lane l).resetFor t.releaseActive .controlReset) :=
    onLane_eq_of_lane (by rw [lane_charge])
  rw [laneReset, reset, ended, own, ← release]
  rfl

/-! ### Every lane, and every entry -/

/-- Places released and forfeited lane by lane (R114, R117). -/
theorem foldl_given_back (held granted : LaneId → Nat) (ls : List LaneId) (h : Counts → Counts) :
    ls.foldl (fun h l => (Counts.forfeits (granted l) ∘ Counts.releases (held l)) ∘ h) h =
      Counts.releases (ls.map held).sum ∘ Counts.forfeits (ls.map granted).sum ∘ h := by
  induction ls generalizing h with
  | nil => rfl
  | cons l ls ih =>
    rw [List.foldl_cons, ih, List.map_cons, List.sum_cons, List.map_cons, List.sum_cons, ← Counts.releases_releases,
      ← Counts.forfeits_forfeits]
    rfl

/-- With the engine FREE a control reset's lanes are one change of the device and one of the lanes. -/
theorem eachLane_laneReset (holds : s.Forfeitable) (free : s.engine = none) :
    s.eachLane (fun t l => t.laneReset l .controlReset) = (s.charge (allLanes.flatMap fun l => (s.lane l).resetRecords l)
      fun b => .releases (allLanes.map fun l => (s.lane l).txn.ridersAt b).sum ∘ .forfeits (s.creditsFor b)).onLanes
        fun _ => (·.resetFor s.releaseActive .controlReset) := by
  have acts (t : State) (l : LaneId)
      (h : t.Forfeitable ∧ t.engine = none ∧ t.releaseActive = s.releaseActive) :
      t.laneReset l .controlReset = (t.charge ((t.lane l).resetRecords l) fun b =>
        .forfeits ((t.lane l).creditsAt b) ∘ .releases ((t.lane l).txn.ridersAt b)).onLane l
          (·.resetFor s.releaseActive .controlReset) := by
    obtain ⟨holds, free, release⟩ := h
    obtain ⟨e, idle, reset⟩ := laneReset_charge holds l
    rw [reset, idle free, release, ← free]
    exact congrArg (fun v : State => v.onLane l (·.resetFor s.releaseActive .controlReset)) (charge_own_engine t _ _)
  rw [eachLane_charge (P := fun t => t.Forfeitable ∧ t.engine = none ∧ t.releaseActive = s.releaseActive)
    (rs := fun l x => x.resetRecords l) (f := fun _ x b => .forfeits (x.creditsAt b) ∘ .releases (x.txn.ridersAt b))
    acts (fun t l h => ?_) holds.settled ⟨holds, free, rfl⟩]
  · have counts (b : BerthId) := foldl_given_back (fun l => (s.lane l).txn.ridersAt b) (fun l => (s.lane l).creditsAt b)
      allLanes id
    simp only [Function.comp_id] at counts
    simp only [counts]
    rfl
  · rw [acts t l h]
    obtain ⟨holds, free, release⟩ := h
    refine ⟨holds.charge_onLane _ _ fun credits => absurd (Lane.resetFor_frame _ _ _).2 credits, ?_, ?_⟩
    · rw [charge_shape]
      exact free
    · rw [charge_shape]
      exact release

/-- A lane's reset, the engine let go before or behind it (R173). -/
theorem laneReset_idle (holds : t.Forfeitable) (l : LaneId) :
    { t.laneReset l .controlReset with engine := none } = State.laneReset { t with engine := none } l .controlReset := by
  obtain ⟨e, -, reset⟩ := laneReset_charge holds l
  obtain ⟨e', idle, reset'⟩ := laneReset_charge (t := { t with engine := none }) ⟨holds.settled, holds.credits⟩ l
  rw [reset, reset', idle rfl, charge_engine t none]
  rfl

theorem Forfeitable.laneReset (holds : t.Forfeitable) (l : LaneId) : (t.laneReset l .controlReset).Forfeitable := by
  obtain ⟨e, -, reset⟩ := laneReset_charge holds l
  have kept := holds.charge_onLane (l := l) ((t.lane l).resetRecords l)
    (fun b => .forfeits ((t.lane l).creditsAt b) ∘ .releases ((t.lane l).txn.ridersAt b))
    (g := (·.resetFor t.releaseActive .controlReset)) fun credits => absurd (Lane.resetFor_frame _ _ _).2 credits
  rw [reset]
  exact ⟨kept.settled, kept.credits⟩

theorem eachLane_idle (holds : s.Forfeitable) : { s.eachLane (fun t l => t.laneReset l .controlReset) with engine := none } =
    State.eachLane { s with engine := none } fun t l => t.laneReset l .controlReset := by
  unfold eachLane
  induction allLanes generalizing s with
  | nil => rfl
  | cons l ls ih => rw [List.foldl_cons, ih (holds.laneReset l), laneReset_idle holds, List.foldl_cons]

/-- The records of a control reset (R173). -/
def resetRecords (s : State) : List (Bool × Draft) :=
  (allLanes.flatMap fun l => (s.lane l).resetRecords l) ++ s.recovery.map (·.unresolvedRecord false)

/-- Everything in flight ended (R173, steps 1 to 3). -/
theorem endEverything_eq (sound : s.placesSound) : s.endEverything =
    let u := s.charge s.resetRecords fun b => .releases (s.berth b).counts.held ∘ .forfeits (s.berth b).counts.granted
    { u.onLanes fun _ => (·.resetFor s.releaseActive .controlReset) with
      engine := none, recovery := [], flags := u.flags ||| (if s.recovery = [] then 0 else 0x40#16) } := by
  obtain ⟨-, -, -, -, distinct, -⟩ := id sound
  have holds := sound.forfeitable
  have reset := eachLane_laneReset (s := { s with engine := none }) ⟨holds.settled, holds.credits⟩ rfl
  rw [charge_engine s none] at reset
  set v := (s.charge (allLanes.flatMap fun l => (s.lane l).resetRecords l) fun b =>
    .releases (allLanes.map fun l => (s.lane l).txn.ridersAt b).sum ∘ .forfeits (s.creditsFor b)) with charged
  have settled : v.Settled := holds.settled.charge _ _
  have counts (b : BerthId) : Counts.releases (s.recovery.map (·.ridersAt b)).sum ∘
      Counts.releases (allLanes.map fun l => (s.lane l).txn.ridersAt b).sum ∘ Counts.forfeits (s.creditsFor b) =
      Counts.releases (s.berth b).counts.held ∘ Counts.forfeits (s.berth b).counts.granted := by
    obtain ⟨held, granted⟩ := sound.counts b
    rw [← Function.comp_assoc, Counts.releases_releases, held, granted]
  have whole := s.charge_charge (allLanes.flatMap fun l => (s.lane l).resetRecords l) (s.recovery.map (·.unresolvedRecord false))
    (fun b => .releases (allLanes.map fun l => (s.lane l).txn.ridersAt b).sum ∘ .forfeits (s.creditsFor b))
    fun b => .releases (s.recovery.map (·.ridersAt b)).sum
  simp only [counts] at whole
  have listed : (State.onLanes { v with engine := none } fun _ => (·.resetFor s.releaseActive .controlReset)).recovery =
      s.recovery := by
    rw [charged, charge_shape]
    rfl
  rw [endEverything, eachLane_idle holds, show State.eachLane { s with engine := none } (fun t l => t.laneReset l .controlReset) =
    State.onLanes { v with engine := none } fun _ => (·.resetFor s.releaseActive .controlReset) from reset,
    closeAll_charge (by exact settled) distinct listed, charge_onLanes, charge_engine v none, charged, whole]
  rfl

end State
end Sys2Proof.Machine
end

section
/-! A control reset (spec/10, R173). -/

namespace Sys2Proof.Machine
namespace State

variable {s t w : State}

/-! ### The flags, the settings and the lines (R173, steps 4 and 5) -/

/-- Every line made UNUSED (R155, R156). -/
def unmapped (s : State) : Vector PierLine 8 := .ofFn fun i => (s.line i).remap .unused

/-- The flags cleared and, unless the settings are kept, every setting at its default, with what follows the settings and
the lines, but for release (R170, R172, R173). -/
def blank (s : State) : State :=
  if s.settings.keep then { s with flags := 0 }
  else { s with
    flags := 0
    settings := Settings.defaults
    silenceTimer := some 30
    lines := s.unmapped
    berths := .ofFn fun b => { s.berth b with halted := false }
    lineSource := false }

theorem foldl_onLine (f : PierLine → PierLine) (is : List LineId) (s : State) :
    is.foldl (fun t i => t.onLine i f) s = { s with lines := (is.foldl (fun t i => t.onLine i f) s).lines } := by
  induction is generalizing s with
  | nil => rfl
  | cons i is ih => rw [List.foldl_cons, ih]; rfl

theorem foldl_unmapped (s : State) : (allLines.foldl (fun (t : State) i => t.onLine i (.remap .unused)) s) =
    { s with lines := s.unmapped } := by
  have lines : (allLines.foldl (fun (t : State) i => t.onLine i (.remap .unused)) s).lines = s.unmapped := by
    refine Vector.ext fun i below => ?_
    interval_cases i <;> simp [allLines, onLine, line, unmapped]
  rw [foldl_onLine, lines]

theorem reread_unmapped (s : State) : State.reread { s with lines := s.unmapped } = { s with
    lines := s.unmapped, berths := .ofFn fun b => { s.berth b with halted := false }, lineSource := false } := by
  have none_pulls (e : LineEntry) (other : e ≠ .unused) :
      (allLines.any fun i => (State.line { s with lines := s.unmapped } i).pulls e) = false := by
    rw [any_pulls_eq]
    refine decide_eq_false ?_
    rintro ⟨i, entry, -⟩
    have unused : (State.line { s with lines := s.unmapped } i).entry = .unused := by
      simp [unmapped, line, PierLine.remap]
    exact other (entry.symm.trans unused)
  have halts (b : BerthId) : State.haltCondition { s with lines := s.unmapped } b = false := none_pulls _ (by nofun)
  have low : State.releaseLineLow { s with lines := s.unmapped } = false := none_pulls _ (by nofun)
  simp only [reread, halts, low]
  rfl

theorem blank_of_keep (keep : s.settings.keep = true) : s.blank = { s with flags := 0 } := if_pos keep

theorem blank_of_default (keep : s.settings.keep = false) : s.blank = { s with
    flags := 0
    settings := Settings.defaults
    silenceTimer := some 30
    lines := s.unmapped
    berths := .ofFn fun b => { s.berth b with halted := false }
    lineSource := false } := if_neg (by rw [keep]; decide)

theorem clearAndDefault_eq (agreed : s.releaseActive = (s.frameSource || s.lineSource)) :
    s.clearAndDefault = s.blank.workOutRelease := by
  cases keep : s.settings.keep with
  | true =>
    rw [blank_of_keep keep, workOutRelease_of_agreed (by exact agreed)]
    exact if_pos keep
  | false =>
    set v : State := { s with flags := 0, settings := Settings.defaults, silenceTimer := some 30 } with cleared
    have defaulted : s.clearAndDefault = (State.reloadSilence { { s with flags := 0, settings := Settings.defaults } with
        lines := State.unmapped { s with flags := 0, settings := Settings.defaults } }).followLines := by
      rw [← foldl_unmapped]
      exact if_neg (by rw [keep]; decide)
    have loaded : State.reloadSilence { { s with flags := 0, settings := Settings.defaults } with
        lines := State.unmapped { s with flags := 0, settings := Settings.defaults } } = { v with lines := v.unmapped } := rfl
    rw [defaulted, loaded, followLines_eq (by exact agreed), reread_unmapped, blank_of_default keep]
    rfl

/-- Where release ends with the frame's source, and where it goes on (R160, R163). -/
theorem workOutRelease_shape (frame : w.frameSource = false) (pulled : w.lineSource = true → w.releaseActive = true) :
    w.workOutRelease = { w with
      lanes := .ofFn fun l => if w.releaseActive = true ∧ w.lineSource = false
        then (w.lane l).releaseEnded (w.carriedBy l) else w.lane l
      releaseActive := w.lineSource
      flags := w.flags ||| (if w.releaseActive = true ∧ w.lineSource = false then 0x2000 else 0) } := by
  by_cases ends : w.releaseActive = true ∧ w.lineSource = false
  · obtain ⟨active, high⟩ := id ends
    rw [workOutRelease_of_ended active (by rw [frame, high]; rfl)]
    simp only [if_pos ends]
    exact congrArg (fun low => { w.releaseOver with releaseActive := low }) high.symm
  · have agreed : w.releaseActive = w.lineSource := by
      cases active : w.releaseActive <;> cases low : w.lineSource <;> simp_all
    have kept : Vector.ofFn w.lane = w.lanes := Vector.ext fun i below => by simp [lane]
    rw [workOutRelease_of_agreed (by rw [agreed, frame]; rfl)]
    simp only [if_neg ends, show (w.flags ||| 0) = w.flags from BitVec.or_zero, kept]
    exact congrArg (fun active => { w with releaseActive := active }) agreed

/-- A frame's source let go before or behind the lines are followed (R160, R173 step 6). -/
theorem workOutRelease_twice (pulled : (s.frameSource || s.lineSource) = true → s.releaseActive = true) :
    State.workOutRelease { s.workOutRelease with frameSource := false } =
      State.workOutRelease { s with frameSource := false } := by
  by_cases ends : s.releaseActive = true ∧ (s.frameSource || s.lineSource) = false
  · obtain ⟨active, source⟩ := ends
    obtain ⟨-, high⟩ := (Bool.or_eq_false_iff).mp source
    rw [workOutRelease_of_ended active source,
      workOutRelease_of_ended (s := { s with frameSource := false }) active (by rw [high]; rfl),
      workOutRelease_of_agreed (s := { s.releaseOver with frameSource := false }) high.symm]
    rfl
  · have agreed : s.releaseActive = (s.frameSource || s.lineSource) := by
      cases active : s.releaseActive <;> cases source : (s.frameSource || s.lineSource) <;> simp_all
    rw [workOutRelease_of_agreed agreed]

/-! ### The whole control reset -/

theorem endEverything_shape (sound : s.placesSound) : ∃ m, s.endEverything = { s with
    lanes := .ofFn fun l => (s.lane l).resetFor s.releaseActive .controlReset
    engine := none
    berths := .ofFn fun b => (s.berth b).counted
      (.releases (s.berth b).counts.held ∘ .forfeits (s.berth b).counts.granted)
    recovery := []
    journal := (s.recordAll s.resetRecords).journal
    flags := m } := by
  have charged : (s.charge s.resetRecords fun b =>
      .releases (s.berth b).counts.held ∘ .forfeits (s.berth b).counts.granted) = { s with
        berths := .ofFn fun b => (s.berth b).counted
          (.releases (s.berth b).counts.held ∘ .forfeits (s.berth b).counts.granted)
        journal := (s.recordAll s.resetRecords).journal
        flags := (s.recordAll s.resetRecords).flags } := by
    rw [charge, recordAll_shape]
  exact ⟨_, by rw [endEverything_eq sound, charged]; rfl⟩

theorem blank_shape (s : State) : s.blank = { s with
    flags := 0
    settings := if s.settings.keep then s.settings else Settings.defaults
    silenceTimer := if s.settings.keep then s.silenceTimer else some 30
    lines := if s.settings.keep then s.lines else s.unmapped
    berths := .ofFn fun b => { s.berth b with halted := s.settings.keep && (s.berth b).halted }
    lineSource := s.settings.keep && s.lineSource } := by
  cases keep : s.settings.keep with
  | true =>
    have berths : (Vector.ofFn fun b => { s.berth b with halted := true && (s.berth b).halted }) = s.berths :=
      berths_ext fun b => by simp [berth]
    rw [blank_of_keep keep, berths]
    rfl
  | false => exact blank_of_default keep

/-- A berth after a control reset (R106, R114, R117, R121). -/
def berthReset (s : State) (b : BerthId) : Berth := Berth.follow { s.berth b with
  counts := { (s.berth b).counts with
    held := 0, granted := 0
    forfeited := raised 65535 (s.berth b).counts.forfeited (s.berth b).counts.granted }
  halted := s.settings.keep && (s.berth b).halted }

/-- The device after a control reset, but for an end of release (R173). -/
def resetTo (s : State) : State := { s with
  lanes := .ofFn fun l => (s.lane l).resetFor s.releaseActive .controlReset
  engine := none
  berths := .ofFn s.berthReset
  recovery := []
  journal := (s.recordAll s.resetRecords).journal
  frameSource := false
  lineSource := s.settings.keep && s.lineSource
  flags := 0
  settings := if s.settings.keep then s.settings else Settings.defaults
  silenceTimer := if s.settings.keep then s.silenceTimer else some 30
  lines := if s.settings.keep then s.lines else s.unmapped }

theorem lane_resetTo (s : State) (l : LaneId) :
    s.resetTo.lane l = (s.lane l).resetFor s.releaseActive .controlReset := by
  simp [resetTo, lane]

theorem follow_halted (x : Berth) (h : Bool) : { x.follow with halted := h } = Berth.follow { x with halted := h } := by
  have room : Berth.room { x with halted := h } = x.room := rfl
  simp only [Berth.follow, room]
  split_ifs <;> rfl

theorem blank_endEverything (sound : s.placesSound) : { s.endEverything.blank with frameSource := false } = s.resetTo := by
  obtain ⟨m, ended⟩ := endEverything_shape sound
  have settings : s.endEverything.settings = s.settings := by rw [ended]
  have berth (b : BerthId) : { s.endEverything.berth b with halted := s.settings.keep && (s.endEverything.berth b).halted } =
      s.berthReset b := by
    have emptied : s.endEverything.berth b = (s.berth b).counted
        (.releases (s.berth b).counts.held ∘ .forfeits (s.berth b).counts.granted) := by
      rw [ended]
      simp [State.berth]
    rw [emptied, Berth.emptied (sound.1 b).1, follow_halted, Berth.follow_halted]
    rfl
  rw [blank_shape, settings]
  simp only [berth]
  rw [ended]
  rfl

theorem workOutRelease_resetTo (followed : s.linesFollowed) : s.resetTo.workOutRelease = { s.resetTo with
    lanes := .ofFn fun l => if s.releaseActive = true ∧ (s.settings.keep && s.lineSource) = false
      then ((s.lane l).resetFor s.releaseActive .controlReset).releaseEnded (s.carriedBy l)
      else (s.lane l).resetFor s.releaseActive .controlReset
    releaseActive := s.settings.keep && s.lineSource
    flags := if s.releaseActive = true ∧ (s.settings.keep && s.lineSource) = false then 0x2000 else 0 } := by
  obtain ⟨agreed, -⟩ := id followed
  have pulled : s.resetTo.lineSource = true → s.resetTo.releaseActive = true := by
    show (s.settings.keep && s.lineSource) = true → s.releaseActive = true
    rw [agreed]
    cases s.frameSource <;> cases s.lineSource <;> simp
  have unflagged (m : Half) : s.resetTo.flags ||| m = m := BitVec.zero_or
  rw [workOutRelease_shape rfl pulled]
  simp only [lane_resetTo, unflagged]
  rfl

/-- A control reset as one end of what admits and one of release (R173). -/
theorem controlReset_eq (sound : s.placesSound) (followed : s.linesFollowed) :
    s.controlReset = s.resetTo.workOutRelease := by
  obtain ⟨agreed, -⟩ := id followed
  obtain ⟨m, ended⟩ := endEverything_shape sound
  have pulled : (s.endEverything.blank.frameSource || s.endEverything.blank.lineSource) = true →
      s.endEverything.blank.releaseActive = true := by
    rw [blank_shape, ended]
    show (s.frameSource || (s.settings.keep && s.lineSource)) = true → s.releaseActive = true
    rw [agreed]
    cases s.frameSource <;> cases s.lineSource <;> simp
  have kept : s.endEverything.releaseActive = (s.endEverything.frameSource || s.endEverything.lineSource) := by
    rw [ended]
    exact agreed
  have calm : s.resetTo.workOutRelease.arbitrate = s.resetTo.workOutRelease := by
    rw [workOutRelease_resetTo followed]
    refine arbitrate_of_atRest fun _ l => ?_
    have waits : (if s.releaseActive = true ∧ (s.settings.keep && s.lineSource) = false
        then ((s.lane l).resetFor s.releaseActive .controlReset).releaseEnded (s.carriedBy l)
        else (s.lane l).resetFor s.releaseActive .controlReset).txn.isWaiting = false := by
      split_ifs
      · rw [txn_releaseEnded, Lane.txn_resetFor]
        rfl
      · rw [Lane.txn_resetFor]
        rfl
    simpa [lane] using waits
  rw [controlReset, clearAndDefault_eq kept, workOutRelease_twice pulled, blank_endEverything sound, calm]

end State
end Sys2Proof.Machine
end

section
/-! CONTROL RESET (spec/10, R173). -/

namespace Sys2Proof.Machine

theorem Lane.countP_resetRecords (x : Lane) (l : LaneId) :
    (x.resetRecords l).countP (·.1) = if x.txn.reserves then 1 else 0 := by
  have forfeits : (x.forfeitRecords l false).countP (·.1) = 0 := by
    unfold Lane.forfeitRecords
    split
    · split_ifs <;> rfl
    · rfl
  rw [Lane.resetRecords, List.countP_append, forfeits]
  cases x.txn with
  | writing image w => 
    cases reserved : w.reservation
    all_goals
      rw [Transaction.reserves, Transaction.unresolvedRecords, reserved]
      rfl
  | _ => rfl

/-- What a reset keeps of a lane's modes (R38). -/
theorem Lane.modes_resetFor (x : Lane) (release : Bool) (reason : ResetReason) :
    (x.resetFor release reason).mode = x.mode ∧ (x.resetFor release reason).savedMode = x.savedMode := by
  have gated (y : Lane) : (y.gated release).savedMode = y.savedMode := by
    unfold Lane.gated
    dsimp only
    split_ifs <;> rfl
  have freed (y : Lane) : (y.freed release).savedMode = y.savedMode := by
    unfold Lane.freed
    split_ifs <;> rfl
  obtain ⟨mode, -⟩ := x.resetFor_frame release reason
  refine ⟨mode, ?_⟩
  rw [Lane.resetFor, freed, gated]

theorem Lane.mode_releaseEnded (x : Lane) (carried : Bool) : (x.releaseEnded carried).mode = x.savedMode := by
  unfold Lane.releaseEnded
  dsimp only
  split
  · rfl
  · split <;> rfl

theorem Lane.savedMode_of_lawful {x : Lane} (lawful : x.lawful true = true) : x.savedMode = x.mode := by
  simp only [Lane.lawful, Bool.and_eq_true] at lawful
  exact eq_of_beq (by simpa using lawful.2)

namespace State

variable {s : State}

/-- The records of a control reset take every reservation there is (R147). -/
theorem countP_resetRecords (s : State) : s.resetRecords.countP (·.1) = s.reservationsHeld := by
  have lanes (ls : List LaneId) : (ls.flatMap fun l => (s.lane l).resetRecords l).countP (·.1) =
      ls.countP fun l => (s.lane l).txn.reserves := by
    induction ls with
    | nil => rfl
    | cons l ls ih => rw [List.flatMap_cons, List.countP_append, ih, Lane.countP_resetRecords, List.countP_cons, Nat.add_comm]
  rw [resetRecords, List.countP_append, lanes, List.countP_map]
  rfl

theorem journal_withDepot (s t : State) (rs : List (Bool × Draft)) :
    ((s.withDepot t).recordAll rs).journal = (s.recordAll rs).journal :=
  by rw [show (s.withDepot t).recordAll rs = (s.recordAll rs).withDepot t from
    recordAll_comm (g := (·.withDepot t)) (fun u r d => withDepot_record u t r d) rs s]; rfl

end State
end Sys2Proof.Machine
open Sys2Proof Sys2Proof.Machine

/-- Settles O15. -/
theorem controlResetEndsEverythingInFlight : Obligations.ControlResetEndsEverythingInFlight := by
  intro s free sound followed tag
  obtain ⟨-, depotOut, -⟩ := s.goodFrame.depot_controlReset rfl
  have ran := exec_controlReset_of_free tag free
  have reset : s.goodFrame.controlReset = _ := (State.controlReset_eq (s := s.goodFrame) sound followed).trans
    (State.workOutRelease_resetTo (s := s.goodFrame) followed)
  have journal : s.goodFrame.controlReset.journal = (s.recordAll s.resetRecords).journal := by
    rw [reset]
    exact State.journal_withDepot s s.goodFrame _
  have lineSource : s.goodFrame.controlReset.lineSource = (s.settings.keep && s.lineSource) := by
    rw [reset]
    rfl
  have releaseActive : s.goodFrame.controlReset.releaseActive = (s.settings.keep && s.lineSource) := by rw [reset]; rfl
  have ended : s.goodFrame.controlReset.engine = none ∧ s.goodFrame.controlReset.recovery = [] ∧
      s.goodFrame.controlReset.frameSource = false := by
    rw [reset]
    exact ⟨rfl, rfl, rfl⟩
  have lane (l : LaneId) : s.goodFrame.controlReset.lane l =
      if s.releaseActive = true ∧ (s.settings.keep && s.lineSource) = false
      then ((s.lane l).resetFor s.releaseActive .controlReset).releaseEnded (s.carriedBy l)
      else (s.lane l).resetFor s.releaseActive .controlReset := by
    rw [reset, State.lane]
    simp only [Fin.getElem_fin, Vector.getElem_ofFn]
    rfl
  have berth (b : BerthId) : s.goodFrame.controlReset.berth b = s.berthReset b := by
    rw [reset, State.berth]
    simp only [State.resetTo, Fin.getElem_fin, Vector.getElem_ofFn]
    rfl
  have kept : s.goodFrame.controlReset.bankA = s.bankA ∧ s.goodFrame.controlReset.bankB = s.bankB ∧
      s.goodFrame.controlReset.active = s.active ∧ s.goodFrame.controlReset.pendingActivation = s.pendingActivation ∧
      s.goodFrame.controlReset.clock = s.clock ∧ s.goodFrame.controlReset.pier = s.pier ∧
      s.goodFrame.controlReset.turn = s.turn ∧ s.goodFrame.controlReset.lastPolled = s.lastPolled ∧
      s.goodFrame.controlReset.lastGranted = s.lastGranted := by
    rw [reset]
    dsimp only [State.resetTo, State.goodFrame]
    exact ⟨rfl, rfl, rfl, rfl, rfl, rfl, rfl, rfl, rfl⟩
  have depotLost : s.goodFrame.controlReset.depotLost = false := by
    rw [reset]
    rfl
  have settings : s.goodFrame.controlReset.settings = if s.settings.keep then s.settings else Settings.defaults := by
    rw [reset]
    rfl
  have silence : s.goodFrame.controlReset.silenceTimer = if s.settings.keep then s.silenceLoaded else some 30 := by
    rw [reset]
    rfl
  have lines : s.goodFrame.controlReset.lines = if s.settings.keep then s.lines else s.unmapped := by
    rw [reset]
    rfl
  have flags : s.goodFrame.controlReset.flags =
      if s.releaseActive = true ∧ (s.settings.keep && s.lineSource) = false then 0x2000 else 0 := by
    rw [reset]
    rfl
  clear reset
  generalize s.goodFrame.controlReset = u at *
  obtain ⟨free_engine, none_left, frame⟩ := ended
  refine ⟨_, ran, ⟨free_engine, none_left, ?_, frame, lineSource, releaseActive.trans lineSource.symm⟩, fun l => ?_, berth,
    journal, ?_, kept, ⟨depotLost, ?_⟩, ?_, ?_⟩
  · obtain ⟨-, -, -, -, -, -, -, reservations, -⟩ := sound
    show u.journal.reservations = 0
    rw [journal, State.reservations_recordAll, State.countP_resetRecords, reservations, Nat.sub_self]
  · have same : u.lane l = if s.releaseActive = true ∧ u.releaseActive = false
        then ((s.lane l).resetFor s.releaseActive .controlReset).releaseEnded (s.carriedBy l)
        else (s.lane l).resetFor s.releaseActive .controlReset := by
      rw [releaseActive]
      exact lane l
    refine ⟨?_, same⟩
    obtain ⟨mode, savedMode⟩ := (s.lane l).modes_resetFor s.releaseActive .controlReset
    refine (congrArg Lane.mode (lane l)).trans ?_
    split_ifs with ends
    · have lawful := sound.lane_lawful l
      rw [ends.1] at lawful
      rw [Lane.mode_releaseEnded, savedMode, Lane.savedMode_of_lawful lawful]
    · exact mode
  · obtain ⟨rest, appended⟩ := s.records_recordAll s.resetRecords
    show u.journal.records.take s.journal.records.length = s.journal.records
    rw [journal, ← appended, List.take_left]
  · show if s.settings.keep then u.settings = s.settings ∧ u.silenceTimer = s.silenceLoaded ∧ u.lines = s.lines else
      u.settings = Settings.defaults ∧ u.silenceTimer = some 30 ∧ ∀ i : LineId, u.line i = _
    cases keep : s.settings.keep with
    | true =>
      rw [keep] at settings silence lines
      exact ⟨settings, silence, lines⟩
    | false =>
      rw [keep] at settings silence lines
      refine ⟨settings, silence, fun i => ?_⟩
      rw [State.line, lines]
      simp [State.unmapped, PierLine.remap, show LineEntry.unused.isOutput = false from rfl]
  · show u.flags = if s.releaseActive = true ∧ u.releaseActive = false then 0x2000 else 0
    rw [flags, releaseActive]
  · rw [State.reply_depotOut]
    show u.depotOut ++ noticeFor 0 u ++ _ = _
    rw [depotOut]
    rfl
end

section
/-! What no command but those of the Table Store, the lines and release touches: the banks, the lines and release. -/

namespace Sys2Proof.Machine

/-- The Table Store stands as it was, and the validation in flight references the bank it did, or none does. -/
structure State.TablesKept (s t : State) : Prop where
  bankA : t.bankA = s.bankA
  bankB : t.bankB = s.bankB
  active : t.active = s.active
  pendingActivation : t.pendingActivation = s.pendingActivation
  request : t.request = s.request
  referenced : t.referencedBank = none ∨ t.referencedBank = s.referencedBank

/-- The Table Store, the lines, the halts and release stand as they were. -/
structure State.Steady (s t : State) : Prop where
  tables : s.TablesKept t
  lines : s.LinesKept t
  release : t.releaseActive = s.releaseActive

namespace State

variable {s t u : State}

theorem TablesKept.refl (s : State) : s.TablesKept s := ⟨rfl, rfl, rfl, rfl, rfl, .inr rfl⟩

theorem TablesKept.trans (h : s.TablesKept t) (k : t.TablesKept u) : s.TablesKept u :=
  ⟨k.bankA.trans h.bankA, k.bankB.trans h.bankB, k.active.trans h.active,
    k.pendingActivation.trans h.pendingActivation, k.request.trans h.request,
    k.referenced.elim .inl fun same => h.referenced.imp same.trans same.trans⟩

theorem Steady.refl (s : State) : s.Steady s := ⟨.refl s, .refl s, rfl⟩

theorem Steady.trans (h : s.Steady t) (k : t.Steady u) : s.Steady u :=
  ⟨h.tables.trans k.tables, h.lines.trans k.lines, k.release.trans h.release⟩

theorem Works.tablesKept {gated : LaneId → Prop} (h : s.Works gated t) : s.TablesKept t :=
  ⟨Works.bankA h, Works.bankB h, Works.active h, Works.pendingActivation h, Works.request h, Works.referencedBank h⟩

theorem Works.steady {gated : LaneId → Prop} (h : s.Works gated t) : s.Steady t :=
  ⟨Works.tablesKept h, Works.linesKept h, Works.releaseActive h⟩

/-- A change of what the Table Store, the lines and release are no part of. -/
theorem steady_of_same (bankA : t.bankA = s.bankA := by rfl) (bankB : t.bankB = s.bankB := by rfl)
    (active : t.active = s.active := by rfl) (pending : t.pendingActivation = s.pendingActivation := by rfl)
    (request : t.request = s.request := by rfl) (engine : t.engine = s.engine := by rfl) (lines : t.lines = s.lines := by rfl)
    (frameSource : t.frameSource = s.frameSource := by rfl) (lineSource : t.lineSource = s.lineSource := by rfl)
    (release : t.releaseActive = s.releaseActive := by rfl)
    (halted : ∀ b, (t.berth b).halted = (s.berth b).halted := by exact fun _ => rfl) : s.Steady t :=
  ⟨⟨bankA, bankB, active, pending, request, .inr (by rw [referencedBank, engine, referencedBank])⟩,
    ⟨lines, frameSource, lineSource, halted⟩, release⟩

/-- A change of one berth that leaves its halt flag. -/
theorem steady_onBerth (s : State) {b : BerthId} {f : Berth → Berth} (halt : (f (s.berth b)).halted = (s.berth b).halted) :
    s.Steady (s.onBerth b f) :=
  Works.steady (gated := fun _ => True) (.single (.berth s b f halt))

theorem steady_notify (s : State) (before : Half) : s.Steady (s.notify before) := by
  rw [notify_eq_noticed]
  exact steady_of_same

theorem steady_reply (s : State) (kind : RequestKind) (tag : Byte) (body : ReplyBody) : s.Steady (s.reply kind tag body) :=
  steady_of_same

/-! ### Owners that leave the Table Store, the lines and release alone -/

theorem steady_takeArrive (vessel capacity aboard : Half) (reserve band : Byte) (b : BerthId) :
    s.Steady (takeArrive vessel capacity aboard reserve band b s).1 := by
  unfold takeArrive
  split
  · exact .refl s
  · split
    · refine s.steady_onBerth ?_
      rfl
    · exact .refl s

theorem steady_takeOpen (b : BerthId) : s.Steady (takeOpen b s).1 := by
  unfold takeOpen
  split
  · exact Works.steady (gated := fun _ => True)
      (s.works_atBerth b (fun x => { x with state := .boarding }.loadQuiet s.settings.quietUnit) rfl)
  · exact .refl s

theorem steady_takeClose (b : BerthId) : s.Steady (takeClose b s).1 := by
  unfold takeClose
  split
  · dsimp only
    refine s.steady_onBerth ?_
    rfl
  · exact .refl s

theorem works_turnover (s : State) (b : BerthId) : s.Works (fun _ => True) (s.turnover b) :=
  (((s.works_eachLane fun t _ => t.works_turnoverForfeit b trivial).trans
    (works_eachLane _ fun t l => t.works_turnoverOrphan b l)).trans (works_closeEntries _ false _)).trans
      (works_finishTurnover _ b)

theorem steady_takeDepart (b : BerthId) : s.Steady (takeDepart b s).1 := by
  unfold takeDepart
  split
  · exact .refl s
  · exact Works.steady (s.works_turnover b)

theorem steady_takeSource (source : Byte) (b : BerthId) : s.Steady (takeSource source b s).1 := by
  unfold takeSource
  split
  · exact .refl s
  · split
    · exact .refl s
    · dsimp only
      refine s.steady_onBerth ?_
      rfl

theorem steady_takeLaneSetup (lane mode berth : Byte) : s.Steady (takeLaneSetup lane mode berth s).1 := by
  unfold takeLaneSetup
  split
  · next l m _ _ =>
    split
    · exact .refl s
    · split
      · rw [takeMode_eq]
        refine Steady.trans ?_ (Works.steady ((works_onLane_gate _ (gated := fun _ => True) trivial (.takeMode m)
          (lawful_takeMode m)).trans (works_renewGate _ trivial)))
        exact steady_of_same
      · exact .refl s
  · exact .refl s

theorem steady_takeJournalRelease (sequence : Quad) : s.Steady (takeJournalRelease sequence s).1 := by
  unfold takeJournalRelease
  split
  · exact steady_of_same
  · exact .refl s

theorem steady_takeJournalStatus (option : Byte) : s.Steady (takeJournalStatus option s).1 := by
  unfold takeJournalStatus
  split
  · exact steady_of_same
  · exact .refl s

theorem steady_takeSettingWrite (setting berth : Byte) (value : Half) :
    s.Steady (takeSettingWrite setting berth value s).1 := by
  unfold takeSettingWrite
  split
  · exact .refl s
  · split
    · exact .refl s
    · rw [putSetting_shape]
      exact steady_of_same

/-! ### Operations that leave the engine alone -/

theorem engine_forfeitAll (s : State) (l : LaneId) (release : Bool) : (s.forfeitAll l release).engine = s.engine := by
  unfold forfeitAll forfeit
  split
  · rfl
  · dsimp only
    rw [record_engine]
    split
    · rw [forfeitPlaces, atBerth_shape]
      rfl
    · rfl

theorem engine_reworkGate (s : State) (l : LaneId) : (s.reworkGate l).engine = s.engine := by rw [reworkGate_shape]

theorem engine_closeEntry (s : State) (release : Bool) (e : RecoveryEntry) : (s.closeEntry release e).engine = s.engine := by
  rw [closeEntry_shape]

theorem engine_handOver (s : State) (l : LaneId) (card : CardNo) (w : CardWrite) :
    (s.handOver l card w).engine = s.engine := by
  have way : (s.makeWay card).engine = s.engine := by
    unfold makeWay
    split
    · exact engine_closeEntry _ _ _
    · split_ifs
      · split
        · exact engine_closeEntry _ _ _
        · rfl
      · rfl
  exact way

theorem engine_writeUncertain (s : State) (l : LaneId) (image : CardImage) (w : CardWrite) :
    (s.writeUncertain l image w).engine = s.engine := by
  unfold writeUncertain
  split
  · exact s.record_engine _ _
  · rw [askShow_shape]
    exact s.engine_handOver l image.card w

theorem engine_showLastCall (s : State) (b : BerthId) : (s.showLastCall b).engine = s.engine := by
  unfold showLastCall
  split
  · rfl
  · have shown (ls : List LaneId) (u : State) : (ls.foldl (fun t l =>
        if (t.lane l).mode = .entry b then t.askShow l .lastCall else t) u).engine = u.engine := by
      induction ls generalizing u with
      | nil => rfl
      | cons l ls ih =>
        rw [List.foldl_cons, ih]
        split_ifs
        · rw [askShow_shape]
        · rfl
    exact shown allLanes s

/-! ### Every command that leaves them alone -/

/-- How a command ends that leaves the Table Store, the lines and release alone: with the reference as it was, with the
end of an event, or, while no request is in progress, with an answer, before which the arbiter may have searched. -/
inductive Ends (s : State) : State → Prop
  | still {t : State} (steady : s.Steady t) (referenced : t.referencedBank = s.referencedBank) : Ends s t
  | event {u : State} (steady : s.Steady u) (before : Half) : Ends s (u.endEvent before)
  | asked {t : State} (free : s.request = none) (steady : s.Steady t) : Ends s t
  | arbitrated {u t : State} (free : s.request = none) (steady : s.Steady u) (after : u.arbitrate.Steady t) : Ends s t

theorem Ends.refl (s : State) : s.Ends s := .still (.refl s) rfl

/-- An event that leaves the engine alone. -/
theorem Ends.notified {u : State} (steady : s.Steady u) (engine : u.engine = s.engine) (before : Half) :
    s.Ends (u.notify before) := by
  refine .still (steady.trans (u.steady_notify before)) ?_
  rw [notify_eq_noticed, referencedBank, referencedBank, show (u.noticed before).engine = s.engine from engine]

theorem ends_answer (s : State) (kind : RequestKind) (tag : Byte) {owner : State → State × ReplyBody}
    (steady : ∀ u : State, u.Steady (owner u).1) : s.Ends (s.answer kind tag owner) := by
  have heard : s.Steady s.goodFrame := steady_of_same
  unfold answer
  dsimp only
  split
  · exact .still (heard.trans (steady_reply _ _ _ _)) rfl
  · next free => exact .asked free (((heard.trans (steady _)).trans (steady_notify _ _)).trans (steady_reply _ _ _ _))

theorem ends_answer_inRange (s : State) (kind : RequestKind) (tag : Byte) {α : Type} (unit : Option α)
    {owner : α → State → State × ReplyBody} (steady : ∀ x (u : State), u.Steady (owner x u).1) :
    s.Ends (s.answer kind tag (inRange unit owner)) := by
  refine s.ends_answer kind tag fun u => ?_
  unfold inRange
  split
  · exact steady _ u
  · exact .refl u

theorem ends_laneReset (s : State) (tag : Byte) (l : LaneId) : s.Ends (s.answer .laneReset tag (takeLaneReset l)) := by
  have heard : s.Steady s.goodFrame := steady_of_same
  unfold answer
  dsimp only
  split
  · exact .still (heard.trans (steady_reply _ _ _ _)) rfl
  · next free =>
    exact .arbitrated free (heard.trans (Works.steady (s.goodFrame.works_laneReset (gated := fun _ => True) trivial .depot)))
      ((steady_notify _ _).trans (steady_reply _ _ _ _))

theorem ends_atStage (s : State) (stage : Stage) {run : State → Validation → State}
    (steady : ∀ v, s.engine = some v → s.Steady (run s v)) : s.Ends (s.atStage stage run) := by
  unfold atStage
  split
  · next v busy =>
    split
    · exact .event (steady v busy) _
    · exact .refl s
  · exact .refl s

theorem steady_runRecoveryMatch {v : Validation} (busy : s.engine = some v) : s.Steady (s.runRecoveryMatch v) := by
  have refused (e : RecoveryEntry) (code : RefusalCode) : s.Steady (s.refuse v (some e) code) :=
    Works.steady (gated := fun _ => True) (s.works_refuse v _ code)
  unfold runRecoveryMatch
  split
  · next e _ =>
    unfold resolve
    split_ifs
    · exact refused e _
    · exact refused e _
    · exact Works.steady (gated := fun _ => True) (s.works_took trivial e)
    · exact refused e _
    · exact Works.steady (gated := fun _ => True) (s.works_retry v e)
    · have engine : (s.closeEntry false e).engine = some v := (s.engine_closeEntry false e).trans busy
      exact Works.steady (gated := fun _ => True) ((s.works_closeEntry false e).trans (works_goOn engine _ _))
  · exact Works.steady (gated := fun _ => True) (works_goOn busy _ _)

theorem ends_execPollTurn (h : execPollTurn s = .next t) : s.Ends t := by
  obtain rfl := Host.Outcome.next.inj h
  split
  · exact .still steady_of_same rfl
  · exact .refl s

theorem ends_execAnswer {bytes : List Byte} (h : execAnswer bytes s = .next t) : s.Ends t := by
  obtain rfl := Host.Outcome.next.inj h
  split
  · exact .event (Steady.trans (t := { s with turn := none }) steady_of_same
      (Works.steady (works_endTurn (gated := fun _ => True) _ trivial bytes))) _
  · exact .refl s

theorem ends_execAnswerWindowExpiry (h : execAnswerWindowExpiry s = .next t) : s.Ends t := by
  obtain rfl := Host.Outcome.next.inj h
  split
  · split
    · exact .refl s
    · exact .event (Steady.trans (t := { s with turn := none }) steady_of_same
        (Works.steady (works_missedTurn (gated := fun _ => True) _ trivial))) _
  · exact .refl s

theorem ends_execAnswerBegins (h : execAnswerBegins s = .next t) : s.Ends t := by
  obtain rfl := Host.Outcome.next.inj h
  split
  · exact .still steady_of_same rfl
  · exact .refl s

theorem ends_execHoldTimerExpiry {l : LaneId} (h : execHoldTimerExpiry l s = .next t) : s.Ends t := by
  obtain rfl := Host.Outcome.next.inj h
  split
  · refine .notified (Steady.trans (t := s.onLane l fun x => { x with holdTimer := none }) steady_of_same (Works.steady
      (gated := fun _ => True) ((works_forfeitAll _ trivial false).trans (works_reworkGate _ trivial)))) ?_ _
    rw [engine_reworkGate, engine_forfeitAll]
    rfl
  · exact .refl s

theorem ends_execWriteTimerExpiry {l : LaneId} (h : execWriteTimerExpiry l s = .next t) : s.Ends t := by
  obtain rfl := Host.Outcome.next.inj h
  split
  · exact .notified (Works.steady (gated := fun _ => True) (s.works_writeUncertain l _ _)) (s.engine_writeUncertain l _ _) _
  · exact .refl s

theorem ends_execRecoveryExpiry {card : CardNo} (h : execRecoveryExpiry card s = .next t) : s.Ends t := by
  obtain rfl := Host.Outcome.next.inj h
  split
  · exact .notified (Works.steady (gated := fun _ => True) (s.works_closeEntry false _)) (s.engine_closeEntry false _) _
  · exact .refl s

theorem ends_execQuietTimerExpiry {b : BerthId} (h : execQuietTimerExpiry b s = .next t) : s.Ends t := by
  obtain rfl := Host.Outcome.next.inj h
  split
  · have called : s.Works (fun _ => True) (s.onBerth b (.callLast s.settings.quietUnit)) := .single (.berth s b _ rfl)
    exact .notified (Works.steady ((called.trans (works_raise _ _)).trans (works_showLastCall _ b)))
      (engine_showLastCall _ b) _
  · exact .refl s

theorem ends_execSilenceTimerExpiry (h : execSilenceTimerExpiry s = .next t) : s.Ends t := by
  obtain rfl := Host.Outcome.next.inj h
  split
  · have lost : s.Steady (State.raise { s with silenceTimer := none, depotLost := true } .depotLost) := steady_of_same
    exact .notified lost rfl _
  · exact .refl s

end State

/-- The commands of the Table Store, the clock, the lines, release and the power. -/
def touchesTablesOrLines : Instr → Bool
  | .powerOn | .controlReset .. | .lineDebounce .. | .lineLevelChange .. | .lineSetup .. | .releaseStart .. | .releaseEnd ..
  | .tableWrite .. | .cardInsert .. | .cardRemove .. | .tableClear .. | .tableCopy .. | .tableActivate .. | .tableWorkDone
  | .clockAdvance | .clockSet .. => true
  | _ => false

open State in
theorem exec_ends {c : Instr} {s t : State} (h : exec c s = .next t) (elsewhere : touchesTablesOrLines c = false) :
    s.Ends t := by
  have stage {st : Stage} {run : State → Validation → State}
      (works : ∀ v, s.engine = some v → s.Works (fun _ => False) (run s v))
      (h : Host.Outcome.next (s.atStage st run) = (.next t : Host.Outcome State Fault Refusal)) : s.Ends t :=
    Host.Outcome.next.inj h ▸ s.ends_atStage st fun v busy => Works.steady (works v busy)
  have request {kind : RequestKind} {tag : Byte} {owner : State → State × ReplyBody}
      (steady : ∀ u : State, u.Steady (owner u).1)
      (h : Host.Outcome.next (s.answer kind tag owner) = (.next t : Host.Outcome State Fault Refusal)) : s.Ends t :=
    Host.Outcome.next.inj h ▸ s.ends_answer kind tag steady
  have unitRequest {kind : RequestKind} {tag : Byte} {α : Type} {unit : Option α} {owner : α → State → State × ReplyBody}
      (steady : ∀ x (u : State), u.Steady (owner x u).1)
      (h : Host.Outcome.next (s.answer kind tag (inRange unit owner)) = (.next t : Host.Outcome State Fault Refusal)) :
      s.Ends t := Host.Outcome.next.inj h ▸ s.ends_answer_inRange kind tag unit steady
  cases c with
  | stageService => exact stage (fun _ => works_runService) h
  | stageRecoveryMatch =>
    exact Host.Outcome.next.inj h ▸ s.ends_atStage .recoveryMatch fun v busy => steady_runRecoveryMatch busy
  | stageCardStatus => exact stage (fun _ => works_runCardStatus) h
  | stageProduct => exact stage (fun _ => works_runProduct) h
  | stagePassback => exact stage (fun _ => works_runPassback) h
  | stageBerthState => exact stage (fun _ => works_runBerthState) h
  | stageFare => exact stage (fun _ => works_runFare) h
  | stageLaneRoom => exact stage (fun _ => works_runLaneRoom) h
  | decisionEvent => exact stage (fun v _ => s.works_runDecision v) h
  | depotBadFrame => exact Host.Outcome.next.inj h ▸ .refl s
  | depotUnknownFrame kind tag => exact Host.Outcome.next.inj h ▸ .still steady_of_same rfl
  | tableStatus tag => exact Host.Outcome.next.inj h ▸ .still steady_of_same rfl
  | berthArrive => exact unitRequest (fun b u => u.steady_takeArrive _ _ _ _ _ b) h
  | berthOpen => exact unitRequest (fun b u => u.steady_takeOpen b) h
  | berthClose => exact unitRequest (fun b u => u.steady_takeClose b) h
  | berthDepart => exact unitRequest (fun b u => u.steady_takeDepart b) h
  | berthCapacity => exact unitRequest (fun b u => Works.steady (gated := fun _ => True) (u.works_takeCapacity _ _ b)) h
  | berthSource => exact unitRequest (fun b u => u.steady_takeSource _ b) h
  | laneRead => exact unitRequest (fun l u => Works.steady (gated := fun _ => True) (u.works_takeLaneRead _ l)) h
  | berthRead | journalRead => exact unitRequest (fun _ u => .refl u) h
  | laneSetup => exact request (fun u => u.steady_takeLaneSetup _ _ _) h
  | journalRelease => exact request (fun u => u.steady_takeJournalRelease _) h
  | journalStatus => exact request (fun u => u.steady_takeJournalStatus _) h
  | settingWrite => exact request (fun u => u.steady_takeSettingWrite _ _ _) h
  | noticeClear => exact request (fun u => steady_of_same) h
  | clockRead | settingRead | lineRead | noticeRead | identify => exact request (fun u => .refl u) h
  | laneReset tag lane =>
    obtain rfl := Host.Outcome.next.inj h
    cases on_lane : laneOf lane with
    | none => exact s.ends_answer .laneReset tag fun u => .refl u
    | some l => exact s.ends_laneReset tag l
  | pollTurn => exact ends_execPollTurn h
  | answer bytes => exact ends_execAnswer h
  | answerWindowExpiry => exact ends_execAnswerWindowExpiry h
  | answerBegins => exact ends_execAnswerBegins h
  | holdTimerExpiry lane => exact ends_execHoldTimerExpiry h
  | writeTimerExpiry lane => exact ends_execWriteTimerExpiry h
  | recoveryExpiry card => exact ends_execRecoveryExpiry h
  | quietTimerExpiry b => exact ends_execQuietTimerExpiry h
  | silenceTimerExpiry => exact ends_execSilenceTimerExpiry h
  | _ => cases elsewhere

end Sys2Proof.Machine
end

section
/-! Every step keeps release and the halt flags on their sources (R121, R157, R160). -/

namespace Sys2Proof.Machine
namespace State

variable {s t u : State}

/-- The line source and the halts follow the lines, and an OUTPUT stands high (R155, R157). -/
structure LinesTold (s : State) : Prop where
  source : s.lineSource = s.releaseLineLow
  halts : ∀ b, (s.berth b).halted = s.haltCondition b
  outputs : ∀ i, (s.line i).entry.isOutput = true → (s.line i).debounced = .high

theorem linesFollowed.told (followed : s.linesFollowed) : s.LinesTold := ⟨followed.2.1, followed.2.2.1, followed.2.2.2⟩

theorem LinesTold.followed (told : s.LinesTold) (release : s.releaseActive = (s.frameSource || s.lineSource)) :
    s.linesFollowed := ⟨release, told.source, told.halts, told.outputs⟩

theorem LinesKept.told (kept : s.LinesKept t) (told : s.LinesTold) : t.LinesTold where
  source := by rw [kept.lineSource, kept.releaseLineLow, told.source]
  halts b := by rw [kept.halted, kept.haltCondition, told.halts]
  outputs i output := by
    rw [kept.line] at output ⊢
    exact told.outputs i output

theorem LinesKept.followed (kept : s.LinesKept t) (release : t.releaseActive = s.releaseActive)
    (followed : s.linesFollowed) : t.linesFollowed := by
  refine (kept.told followed.told).followed ?_
  rw [release, kept.frameSource, kept.lineSource]
  exact followed.1

theorem LinesTold.sourced (told : s.LinesTold) (source : Bool) : ({ s with frameSource := source } : State).LinesTold :=
  ⟨told.source, told.halts, told.outputs⟩

/-- Release worked out from lines that are told (R160). -/
theorem LinesTold.workOutRelease (told : s.LinesTold) : s.workOutRelease.linesFollowed := by
  have kept := s.linesKept_workOutRelease
  refine (kept.told told).followed ?_
  rw [releaseActive_workOutRelease, kept.frameSource, kept.lineSource]

/-- Whatever the lines, they are told once they are read again. -/
theorem LinesTold.reread (outputs : ∀ i, (s.line i).entry.isOutput = true → (s.line i).debounced = .high) :
    s.reread.LinesTold where
  source := rfl
  halts b := by
    show (State.berth { s with berths := .ofFn fun b => { s.berth b with halted := s.haltCondition b } } b).halted =
      s.haltCondition b
    simp [berth]
  outputs := outputs

/-! ### The commands of the lines and of release -/

theorem arbitrate_followed (followed : s.linesFollowed) : s.arbitrate.linesFollowed :=
  s.linesKept_arbitrate.1.followed s.linesKept_arbitrate.2 followed

theorem endEvent_followed (followed : s.linesFollowed) (before : Half) : (s.endEvent before).linesFollowed :=
  (s.endEvent_linesKept before).1.followed (s.endEvent_linesKept before).2 followed

theorem Steady.followed (steady : s.Steady t) (followed : s.linesFollowed) : t.linesFollowed :=
  steady.lines.followed steady.release followed

theorem Ends.followed (ends : s.Ends t) (followed : s.linesFollowed) : t.linesFollowed := by
  cases ends with
  | still steady => exact steady.followed followed
  | event steady before => exact endEvent_followed (steady.followed followed) before
  | asked _ steady => exact steady.followed followed
  | arbitrated _ steady after => exact after.followed (arbitrate_followed (steady.followed followed))

/-- An answer keeps what its owner keeps. -/
theorem answer_followed {kind : RequestKind} {tag : Byte} {owner : State → State × ReplyBody}
    (keeps : ∀ u : State, u.linesFollowed → (owner u).1.linesFollowed) (followed : s.linesFollowed) :
    (s.answer kind tag owner).linesFollowed := by
  have heard : s.goodFrame.linesFollowed := followed
  unfold answer
  dsimp only
  split
  · exact heard
  · exact ((steady_notify _ _).trans (steady_reply _ _ _ _)).followed (keeps _ heard)

theorem takeRelease_followed (source : Bool) (followed : s.linesFollowed) : (takeRelease source s).1.linesFollowed := by
  exact arbitrate_followed (followed.told.sourced source).workOutRelease

theorem takeLineSetup_followed (line entry parameter options : Byte) (followed : s.linesFollowed) :
    (takeLineSetup line entry parameter options s).1.linesFollowed := by
  unfold takeLineSetup
  split
  · next i e _ _ =>
    dsimp only
    rw [followLines_eq (by exact followed.1)]
    refine arbitrate_followed (LinesTold.workOutRelease (.reread fun j output => ?_))
    rw [line_onLine] at output ⊢
    split_ifs at output ⊢ with same
    · exact if_pos (by rw [show e.isOutput = true from output]; rfl)
    · exact followed.2.2.2 j output
  · exact followed

theorem execLineDebounce_followed {i : LineId} (h : execLineDebounce i s = .next t) (followed : s.linesFollowed) :
    t.linesFollowed := by
  obtain rfl := Host.Outcome.next.inj h
  split
  · next measuring =>
    have input : (s.line i).entry.isOutput = false := by
      simp only [PierLine.measuring, Bool.and_eq_true, Bool.not_eq_true'] at measuring
      exact measuring.1
    have kept := Works.linesKept (gated := fun _ => True) ((s.debounce i).works_pulse i)
    have release : ((s.debounce i).pulse i).releaseActive = s.releaseActive :=
      Works.releaseActive (gated := fun _ => True) (s := s.debounce i) ((s.debounce i).works_pulse i)
    refine endEvent_followed ?_ _
    show ((s.debounce i).pulse i).followLines.linesFollowed
    rw [followLines_eq (by rw [release, kept.frameSource, kept.lineSource]; exact followed.1)]
    refine LinesTold.workOutRelease (.reread fun j output => ?_)
    rw [kept.line, line_debounce] at output ⊢
    split_ifs at output ⊢ with same
    · exact absurd (input.symm.trans output) (by decide)
    · exact followed.2.2.2 j output
  · exact followed

theorem execLineLevelChange_followed (i : LineId) (level : Level) (followed : s.linesFollowed) :
    (s.onLine i fun x => { x with level := level }).linesFollowed := by
  obtain ⟨release, source, halts, outputs⟩ := followed
  have pulls (e : LineEntry) (j : LineId) :
      ((s.onLine i fun x => { x with level := level }).line j).pulls e = (s.line j).pulls e := by
    rw [line_onLine]
    split_ifs with same
    · subst same
      rfl
    · rfl
  refine ⟨release, ?_, fun b => ?_, fun j output => ?_⟩
  · simp only [releaseLineLow, pulls]
    exact source
  · simp only [haltCondition, pulls]
    exact halts b
  · rw [line_onLine] at output ⊢
    split_ifs at output ⊢ with same
    · subst same
      exact outputs _ output
    · exact outputs j output

/-! ### A control reset and the power -/

theorem linesKept_endEverything (s : State) :
    s.LinesKept s.endEverything ∧ s.endEverything.releaseActive = s.releaseActive := by
  have works : s.Works (fun _ => True) s.endEverything :=
    ((s.works_eachLane fun t _ => t.works_laneReset trivial .controlReset).tail (.free _)).trans (works_closeEntries _ false _)
  exact ⟨Works.linesKept works, Works.releaseActive works⟩

theorem blank_told (told : s.LinesTold) : s.blank.LinesTold := by
  cases keep : s.settings.keep with
  | true =>
    rw [blank_of_keep keep]
    exact LinesKept.told (s := s) ⟨rfl, rfl, rfl, fun _ => rfl⟩ told
  | false =>
    set v : State := { s with flags := 0, settings := Settings.defaults, silenceTimer := some 30 } with cleared
    have read := v.reread_unmapped
    rw [blank_of_default keep]
    refine read ▸ LinesTold.reread fun i output => ?_
    have unused : (State.line { v with lines := v.unmapped } i).entry = .unused := by
      simp [unmapped, line, PierLine.remap]
    rw [unused] at output
    cases output

theorem controlReset_followed (followed : s.linesFollowed) : s.controlReset.linesFollowed := by
  obtain ⟨kept, release⟩ := s.linesKept_endEverything
  have ended : s.endEverything.linesFollowed := kept.followed release followed
  have blank := blank_told ended.told
  have cleared : s.endEverything.clearAndDefault.linesFollowed := by
    rw [clearAndDefault_eq ended.1]
    exact blank.workOutRelease
  exact arbitrate_followed (cleared.told.sourced false).workOutRelease

theorem powerOn_followed (s : State) : s.powerOn.linesFollowed := by
  have line (i : LineId) : s.powerOn.line i = { PierLine.powerOn with level := (s.line i).level } := by
    simp [powerOn, State.line]
  have none_pulls (e : LineEntry) (i : LineId) : (s.powerOn.line i).pulls e = false := by
    rw [line, PierLine.pulls]
    exact Bool.and_false _
  have low : s.powerOn.releaseLineLow = false := by simp [releaseLineLow, none_pulls]
  have halts (b : BerthId) : s.powerOn.haltCondition b = false := by simp [haltCondition, none_pulls]
  refine ⟨rfl, ?_, fun b => ?_, fun i _ => ?_⟩
  · rw [low]
    rfl
  · rw [halts]
    simp [powerOn, reset, berth, Berth.powerOn]
  · rw [line]
    rfl

/-! ### The commands of the Table Store and the clock -/

theorem linesKept_takeTable (s : State) (r : TableRequest) :
    s.LinesKept (s.takeTable r).1 ∧ (s.takeTable r).1.releaseActive = s.releaseActive := by
  rw [takeTable_shape]
  exact ⟨⟨rfl, rfl, rfl, fun _ => rfl⟩, rfl⟩

theorem takeWaiting_followed (followed : s.linesFollowed) : s.takeWaiting.1.linesFollowed := by
  rcases s.takeWaiting_cases with same | ⟨j, -, -, -, ⟨-, taken⟩ | ⟨-, taken⟩⟩
  · rw [same]
    exact followed
  all_goals
    rw [taken]
    obtain ⟨kept, release⟩ := s.linesKept_takeTable j.request
    exact LinesKept.followed (s := (s.takeTable j.request).1) ⟨rfl, rfl, rfl, fun _ => rfl⟩ rfl
      (kept.followed release followed)

theorem arrive_followed (tag : Byte) (r : TableRequest) (followed : s.linesFollowed) : (s.arrive tag r).linesFollowed := by
  unfold arrive
  dsimp only
  split
  · exact followed
  · have waiting : State.linesFollowed { s.goodFrame with request := some ⟨tag, r, .waiting⟩ } := followed
    exact Steady.followed ((steady_notify _ _).trans steady_of_same) (takeWaiting_followed waiting)

theorem handTime_followed (followed : s.linesFollowed) : s.handTime.linesFollowed := by
  obtain same | ⟨swapped, -⟩ := s.handTime_cases
  · rw [same]
    exact followed
  · rw [swapped, swap_shape]
    exact LinesKept.followed (s := s) ⟨rfl, rfl, rfl, fun _ => rfl⟩ rfl followed

theorem advanceClock_followed (followed : s.linesFollowed) : s.advanceClock.linesFollowed := by
  unfold advanceClock
  split <;> exact followed

theorem execTableWorkDone_followed (h : execTableWorkDone s = .next t) (followed : s.linesFollowed) : t.linesFollowed := by
  obtain rfl := Host.Outcome.next.inj h
  split
  · next tag request body _ =>
    rw [workTable_shape]
    exact followed
  · exact followed

theorem execClockAdvance_followed (h : execClockAdvance s = .next t) (followed : s.linesFollowed) : t.linesFollowed := by
  obtain rfl := Host.Outcome.next.inj h
  split
  · exact (steady_notify _ _).followed (handTime_followed (advanceClock_followed followed))
  · exact followed

theorem execControlReset_followed {tag : Byte} (h : execControlReset tag s = .next t) (followed : s.linesFollowed) :
    t.linesFollowed := by
  obtain rfl := Host.Outcome.next.inj h
  have heard : s.goodFrame.linesFollowed := followed
  split
  · exact heard
  · exact ((steady_notify _ _).trans (steady_reply _ _ _ _)).followed (controlReset_followed heard)

end State

open State in
/-- Every command keeps release and the halt flags on their sources. -/
theorem exec_followed {c : Instr} {s t : State} (h : exec c s = .next t) (followed : s.linesFollowed) :
    t.linesFollowed := by
  have request {kind : RequestKind} {tag : Byte} {owner : State → State × ReplyBody}
      (keeps : ∀ u : State, u.linesFollowed → (owner u).1.linesFollowed)
      (h : Host.Outcome.next (s.answer kind tag owner) = (.next t : Host.Outcome State Fault Refusal)) :
      t.linesFollowed := Host.Outcome.next.inj h ▸ answer_followed keeps followed
  have table {tag : Byte} {r : TableRequest}
      (h : Host.Outcome.next (s.arrive tag r) = (.next t : Host.Outcome State Fault Refusal)) : t.linesFollowed :=
    Host.Outcome.next.inj h ▸ arrive_followed tag r followed
  by_cases touches : touchesTablesOrLines c = true
  · cases c with
    | powerOn => exact Host.Outcome.next.inj h ▸ s.powerOn_followed
    | tableWrite | cardInsert | cardRemove | tableClear | tableCopy | tableActivate => exact table h
    | tableWorkDone => exact execTableWorkDone_followed h followed
    | clockAdvance => exact execClockAdvance_followed h followed
    | clockSet => exact request (fun u kept => handTime_followed (s := u.setClock _ _) kept) h
    | lineDebounce i => exact execLineDebounce_followed h followed
    | lineLevelChange i level => exact Host.Outcome.next.inj h ▸ execLineLevelChange_followed i level followed
    | lineSetup => exact request (fun u => takeLineSetup_followed _ _ _ _) h
    | releaseStart | releaseEnd => exact request (fun u => takeRelease_followed _) h
    | controlReset tag => exact execControlReset_followed h followed
    | _ => cases touches
  · exact (exec_ends h (Bool.eq_false_of_not_eq_true touches)).followed followed

end Sys2Proof.Machine
open Sys2Proof Sys2Proof.Machine

/-- Settles O57: the lines' own commands tell them anew, and no other command touches them. -/
theorem everyStepKeepsReleaseAndHaltsOnTheirLines : Obligations.EveryStepKeepsReleaseAndHaltsOnTheirLines :=
  fun _ _ => step_keeps (fun _ _ => id) fun _ _ _ followed ran => exec_followed ran followed
end

section
/-! Every edit of a bank leaves it sound (R130, R131): the lists ascending and within their bounds, the fields in their
ranges. -/

namespace Sys2Proof.Machine

theorem Bank.sound_empty : Bank.empty.sound := by
  refine ⟨⟨.nil, nofun⟩, Nat.zero_le _, ⟨.nil, nofun⟩, Nat.zero_le _, fun i => ?_, fun i => ?_, fun i => ?_⟩
  · simp [Bank.empty, Product.blank]
  · simp [Bank.empty]
  · simp [Bank.empty, RiderClass.blank]

/-! ### Lists that grow at their end -/

/-- What lies above the last entry of an ascending list lies above all of them. -/
theorem ascending_append {α : Type} {key : α → Nat} {xs : List α} (ascending : xs.Pairwise fun x y => key x < key y) {e : α}
    (above : ∀ x, xs.getLast? = some x → key x < key e) : (xs ++ [e]).Pairwise fun x y => key x < key y := by
  refine List.pairwise_append.mpr ⟨ascending, List.pairwise_singleton _ _, fun x member y same => ?_⟩
  obtain rfl := List.mem_singleton.mp same
  cases xs using List.reverseRecOn with
  | nil => cases member
  | append_singleton front last =>
    have below_last := above last List.getLast?_concat
    obtain early | same := List.mem_append.mp member
    · exact lt_trans ((List.pairwise_append.mp ascending).2.2 x early last List.mem_cons_self) below_last
    · obtain rfl := List.mem_singleton.mp same
      exact below_last

/-- A card list as a bank may hold it. -/
def CardsSound (cards : List CardEntry) : Prop :=
  cards.Pairwise (fun x y => x.card < y.card) ∧ (∀ x ∈ cards, cardInRange x.card = true) ∧ cards.length ≤ 4096

/-- A time-band list as a bank may hold it. -/
def BandsSound (bands : List Boundary) : Prop :=
  bands.Pairwise (fun x y => x.start < y.start) ∧ (∀ x ∈ bands, x.start ≤ 1439) ∧ bands.length ≤ 7

theorem Bank.sound_iff (k : Bank) : k.sound ↔ CardsSound k.cards ∧ BandsSound k.bands ∧ k.fieldsInRange := by
  unfold CardsSound BandsSound
  tauto

theorem putCard_sound {cards after : List CardEntry} {n : Nat} {r : RawCard} (sound : CardsSound cards)
    (put : putCard cards n r = .ok after) : CardsSound after := by
  rw [putCard_eq] at put
  dsimp only at put
  split_ifs at put with passed
  obtain rfl := Except.ok.inj put
  unfold cardCheck at passed
  split_ifs at passed with unlawful order duplicate full
  obtain ⟨ascending, inRange, -⟩ := sound
  refine ⟨ascending_append (key := fun e : CardEntry => e.card.toNat) ascending fun x last => ?_, fun x member => ?_, ?_⟩
  · simp only [last, Option.any_some, decide_eq_true_eq, beq_iff_eq, BitVec.lt_def, ← BitVec.toNat_inj] at order duplicate
    exact lt_of_le_of_ne (Nat.le_of_not_lt order) (Ne.symm duplicate)
  · obtain old | new := List.mem_append.mp member
    · exact inRange x old
    · obtain rfl := List.mem_singleton.mp new
      rw [Bool.not_eq_false, cardLawful, ← cardInRange_eq, Bool.and_eq_true] at unlawful
      exact unlawful.1
  · rw [List.length_append, List.length_singleton]
    omega

theorem putBoundary_sound {bands after : List Boundary} {n : Nat} {r : RawBoundary} (sound : BandsSound bands)
    (put : putBoundary bands n r = .ok after) : BandsSound after := by
  rw [putBoundary_eq] at put
  dsimp only at put
  split_ifs at put with passed
  obtain rfl := Except.ok.inj put
  unfold boundaryCheck at passed
  split_ifs at passed with unlawful order full
  obtain ⟨ascending, inRange, -⟩ := sound
  refine ⟨ascending_append (key := Boundary.start) ascending fun x last => ?_, fun x member => ?_, ?_⟩
  · simp only [last, Option.any_some, decide_eq_true_eq] at order
    exact Nat.lt_of_not_le order
  · obtain old | new := List.mem_append.mp member
    · exact inRange x old
    · obtain rfl := List.mem_singleton.mp new
      simp only [boundaryLawful, Bool.not_eq_false, Bool.and_eq_true, decide_eq_true_eq] at unlawful
      exact unlawful.1
  · rw [List.length_append, List.length_singleton]
    omega

/-- An ordered list keeps what each entry put keeps and the empty list has. -/
theorem writeOrdered_keeps {ρ α : Type} {put : List α → Nat → ρ → Except Result (List α)} {P : List α → Prop}
    (keeps : ∀ t n r t', P t → put t n r = .ok t' → P t') (empty : P []) (start : Nat) {present : List α} (es : List ρ)
    (sound : P present) : P (writeOrdered put start present es).1 := by
  unfold writeOrdered
  split_ifs
  · exact writeEach_keeps keeps es 0 empty
  · exact writeEach_keeps keeps es 0 sound
  · exact sound

/-! ### Indexed tables -/

/-- An indexed table keeps a property of its entries that every entry in its ranges has. -/
theorem writeIndexed_keeps {ρ α : Type} {k : Nat} {read : ρ → Option α} {P : α → Prop}
    (reads : ∀ r e, read r = some e → P e) (start : Nat) {table : Vector α k} (es : List ρ)
    (sound : ∀ i : Fin k, P table[i]) (i : Fin k) : P (writeEach (putIndexed read start) table 0 es).1[i] := by
  refine writeEach_keeps (P := fun t : Vector α k => ∀ i : Fin k, P t[i]) (fun t n r t' kept put i => ?_) es 0 sound i
  unfold putIndexed at put
  split at put
  · next inside =>
    split at put
    · next e read_e =>
      obtain rfl := Except.ok.inj put
      by_cases same : start + n = i.val
      · rw [Fin.getElem_fin, Vector.getElem_set, if_pos same]
        exact reads r e read_e
      · rw [Fin.getElem_fin, Vector.getElem_set, if_neg same]
        exact kept i
    · cases put
  · cases put

theorem productOf_inRange {r : RawProduct} {p : Product} (read : productOf r = some p) :
    1 ≤ p.riders ∧ p.riders ≤ 6 ∧ p.window ≤ 240 ∧ p.allowance ≤ 9999 := by
  rw [productOf_eq] at read
  split_ifs at read with lawful
  obtain rfl := Option.some.inj read
  simp only [productLawful, Bool.and_eq_true, decide_eq_true_eq] at lawful
  obtain ⟨⟨⟨⟨-, least⟩, most⟩, window⟩, allowance⟩ := lawful
  exact ⟨least, most, window, allowance⟩

theorem fareOf_inRange {r : Half} {fare : Nat} (read : fareOf r = some fare) : fare ≤ 9999 := by
  unfold fareOf at read
  split_ifs at read with inRange
  exact Option.some.inj read ▸ inRange

theorem classOf_inRange {r : RawClass} {c : RiderClass} (read : classOf r = some c) :
    c.concession ≤ 100 ∧ c.cap ≤ 65535 := by
  rw [classOf_eq] at read
  split_ifs at read with lawful
  obtain rfl := Option.some.inj read
  simp only [classLawful, Bool.and_eq_true, decide_eq_true_eq] at lawful
  exact ⟨lawful.1, Nat.le_of_lt_succ r.cap.isLt⟩

/-! ### The edits of a bank -/

namespace Bank

variable {k : Bank}

theorem fieldsInRange_write (start : Nat) (body : TableBody) (fields : k.fieldsInRange) :
    (k.write start body).1.fieldsInRange := by
  obtain ⟨products, fares, classes⟩ := fields
  cases body with
  | products es => exact ⟨writeIndexed_keeps (fun _ _ => productOf_inRange) start es products, fares, classes⟩
  | fares es => exact ⟨products, writeIndexed_keeps (fun _ _ => fareOf_inRange) start es fares, classes⟩
  | classes es => exact ⟨products, fares, writeIndexed_keeps (fun _ _ => classOf_inRange) start es classes⟩
  | _ => exact ⟨products, fares, classes⟩

theorem sound_write (start : Nat) (body : TableBody) (sound : k.sound) : (k.write start body).1.sound := by
  rw [sound_iff] at sound ⊢
  obtain ⟨cards, bands, fields⟩ := sound
  refine ⟨?_, ?_, fieldsInRange_write start body fields⟩
  · cases body with
    | cards es => exact writeOrdered_keeps (fun _ _ _ _ => putCard_sound) ⟨.nil, nofun, Nat.zero_le _⟩ start es cards
    | _ => exact cards
  · cases body with
    | timeBands es =>
      exact writeOrdered_keeps (fun _ _ _ _ => putBoundary_sound) ⟨.nil, nofun, Nat.zero_le _⟩ start es bands
    | _ => exact bands

theorem fieldsInRange_writeChecked (start : Nat) (body : TableBody) (fields : k.fieldsInRange) :
    (k.writeChecked start body).1.fieldsInRange := by
  unfold writeChecked
  split
  · exact fields
  · exact fieldsInRange_write start body fields

theorem sound_writeChecked (start : Nat) (body : TableBody) (sound : k.sound) : (k.writeChecked start body).1.sound := by
  unfold writeChecked
  split
  · exact sound
  · exact sound_write start body sound

/-- A CARD INSERT changes the card list alone. -/
theorem insert_shape (k : Bank) (r : RawCard) : (k.insert r).1 = { k with cards := (k.insert r).1.cards } := by
  rw [insert_eq]
  split_ifs <;> rfl

/-- A CARD REMOVE changes the card list alone. -/
theorem remove_shape (k : Bank) (card : CardNo) : (k.remove card).1 = { k with cards := (k.remove card).1.cards } := by
  unfold remove
  split_ifs <;> rfl

theorem fieldsInRange_insert (r : RawCard) (fields : k.fieldsInRange) : (k.insert r).1.fieldsInRange := by
  rw [insert_shape]
  exact fields

theorem fieldsInRange_remove (card : CardNo) (fields : k.fieldsInRange) : (k.remove card).1.fieldsInRange := by
  rw [remove_shape]
  exact fields

theorem sound_insert (r : RawCard) (sound : k.sound) : (k.insert r).1.sound := by
  obtain ⟨cards, most, bands, few, fields⟩ := sound
  refine ⟨cardsAscend_insert cards r, ?_, ?_, ?_, fieldsInRange_insert r fields⟩
  · rw [insert_eq]
    split_ifs with done
    · exact (length_insertCard _ _).trans_le (insertOutcome_done done).2.2
    · exact most
  · rw [insert_shape]
    exact bands
  · rw [insert_shape]
    exact few

theorem sound_remove (card : CardNo) (sound : k.sound) : (k.remove card).1.sound := by
  obtain ⟨cards, most, bands, few, fields⟩ := sound
  refine ⟨cardsAscend_remove cards card, ?_, ?_, ?_, fieldsInRange_remove card fields⟩
  · unfold remove
    split_ifs
    · exact List.eraseP_sublist.length_le.trans most
    · exact most
  · rw [remove_shape]
    exact bands
  · rw [remove_shape]
    exact few

end Bank
end Sys2Proof.Machine
end

section
/-! Every step keeps the tables sound (R72, R130, R131, R137, R140). -/

namespace Sys2Proof.Machine
namespace State

variable {s t u : State}

/-- The Table Store in the midst of an event: as `tablesSound` says, but a request may wait on a lock that has just been
freed. -/
structure StoreSound (s : State) : Prop where
  bank : ∀ i, (s.bank i).sound
  active : ∀ i, s.active = some i → (s.bank i).bands ≠ []
  referenced : ∀ i, s.referencedBank = some i → (s.bank i).bands ≠ [] ∧ s.active ≠ none
  pending : s.pendingActivation ≠ none → s.shadowBank.bands ≠ [] ∧ s.readLocked = false
  works : s.request.any TableJob.works = true → s.pendingActivation = none ∧ s.readLocked = false

/-- A request waits only on a locked shadow (R140). -/
def NoneWaits (s : State) : Prop := s.request.any TableJob.waits = true → s.readLocked = true

theorem tablesSound_iff : s.tablesSound ↔ s.StoreSound ∧ s.NoneWaits := by
  constructor
  · rintro ⟨a, b, active, referenced, pending, waits, works⟩
    exact ⟨⟨fun i => by cases i <;> assumption, active, referenced, pending, works⟩, waits⟩
  · rintro ⟨⟨bank, active, referenced, pending, works⟩, waits⟩
    exact ⟨bank .a, bank .b, active, referenced, pending, waits, works⟩

theorem noneWaits_of_free (free : s.request = none) : s.NoneWaits := by
  intro waits
  rw [free] at waits
  cases waits

/-! ### What leaves the Table Store alone -/

theorem TablesKept.bank (h : s.TablesKept t) (i : BankId) : t.bank i = s.bank i := by
  cases i
  · exact h.bankA
  · exact h.bankB

theorem TablesKept.shadow (h : s.TablesKept t) : t.shadow = s.shadow := by rw [State.shadow, h.active, State.shadow]

theorem TablesKept.unlocked (h : s.TablesKept t) (unlocked : s.readLocked = false) : t.readLocked = false := by
  rw [readLocked, h.shadow]
  obtain dropped | kept := h.referenced
  · rw [dropped]
    rfl
  · rw [kept]
    exact unlocked

theorem TablesKept.storeSound (h : s.TablesKept t) (sound : s.StoreSound) : t.StoreSound where
  bank i := by
    rw [h.bank]
    exact sound.bank i
  active i points := by
    rw [h.bank]
    exact sound.active i (h.active.symm.trans points)
  referenced i refers := by
    rw [h.bank, h.active]
    obtain dropped | kept := h.referenced
    · cases dropped.symm.trans refers
    · exact sound.referenced i (kept.symm.trans refers)
  pending waits := by
    rw [h.pendingActivation] at waits
    obtain ⟨bands, unlocked⟩ := sound.pending waits
    refine ⟨?_, h.unlocked unlocked⟩
    rw [shadowBank, h.shadow, h.bank]
    exact bands
  works working := by
    rw [h.request] at working
    obtain ⟨none_pending, unlocked⟩ := sound.works working
    exact ⟨h.pendingActivation.trans none_pending, h.unlocked unlocked⟩

theorem TablesKept.noneWaits (h : s.TablesKept t) (same : t.referencedBank = s.referencedBank) (none : s.NoneWaits) :
    t.NoneWaits := by
  intro waits
  rw [readLocked, same, h.shadow]
  rw [h.request] at waits
  exact none waits

theorem TablesKept.of_same (bankA : t.bankA = s.bankA := by rfl) (bankB : t.bankB = s.bankB := by rfl)
    (active : t.active = s.active := by rfl) (pending : t.pendingActivation = s.pendingActivation := by rfl)
    (request : t.request = s.request := by rfl) (engine : t.engine = s.engine := by rfl) : s.TablesKept t :=
  ⟨bankA, bankB, active, pending, request, .inr (by rw [referencedBank, engine, referencedBank])⟩

/-! ### The arbiter and the end of an event (R42, R140) -/

/-- A validation that references the shadow keeps the engine BUSY. -/
theorem busy_of_locked (locked : s.readLocked = true) : s.engine ≠ none := by
  intro idle
  rw [readLocked, referencedBank, idle] at locked
  cases locked

theorem shadow_ne_of_active {i : BankId} (points : s.active = some i) : i ≠ s.shadow := by
  rw [shadow, points]
  cases i <;> decide

/-- The reference of a grant is the active bank, which is not the shadow (R43). -/
theorem StoreSound.arbitrated (sound : s.StoreSound) : s.arbitrate.StoreSound := by
  obtain same | ⟨l, image, -, granted⟩ := s.arbitrate_cases
  · rw [same]
    exact sound
  · rw [granted]
    have unlocked : ((s.active == some s.shadow) : Bool) = false := by
      cases points : s.active with
      | none => rfl
      | some i => simpa using shadow_ne_of_active points
    refine ⟨sound.bank, sound.active, fun i refers => ?_, fun waits => ⟨(sound.pending waits).1, unlocked⟩,
      fun working => ⟨(sound.works working).1, unlocked⟩⟩
    have points : s.active = some i := refers
    exact ⟨sound.active i points, fun absent => by cases absent.symm.trans points⟩

theorem request_arbitrate (s : State) : s.arbitrate.request = s.request := by
  obtain same | ⟨l, image, -, granted⟩ := s.arbitrate_cases
  · rw [same]
  · rw [granted]
    rfl

theorem noneWaits_arbitrate (none : s.NoneWaits) : s.arbitrate.NoneWaits := by
  intro waits
  rw [request_arbitrate] at waits
  have locked := none waits
  rw [arbitrate_of_atRest fun idle => absurd idle (busy_of_locked locked)]
  exact locked

theorem StoreSound.noticed (sound : s.StoreSound) (before : Half) : (s.notify before).StoreSound :=
  (steady_notify s before).tables.storeSound sound

/-- A state that no request is in progress in, where an event ends. -/
theorem StoreSound.tablesSound_of_free (sound : s.StoreSound) (free : s.request = none) : s.tablesSound :=
  tablesSound_iff.mpr ⟨sound, noneWaits_of_free free⟩

theorem tablesSound_of_kept (kept : s.TablesKept t) (same : t.referencedBank = s.referencedBank) (sound : s.tablesSound) :
    t.tablesSound := by
  obtain ⟨store, none⟩ := tablesSound_iff.mp sound
  exact tablesSound_iff.mpr ⟨kept.storeSound store, kept.noneWaits same none⟩

/-! ### The swap and the taking of a request (R136 to R139) -/

theorem referencedBank_swap (s : State) : s.swap.referencedBank = s.referencedBank := by
  rw [swap_shape]
  rfl

theorem bank_swap (s : State) (i : BankId) : s.swap.bank i = s.bank i := by
  rw [swap_shape]
  cases i <;> rfl

theorem active_swap (s : State) : s.swap.active = some s.shadow := by rw [swap_shape]

theorem StoreSound.swapped (sound : s.StoreSound) (bands : s.shadowBank.bands ≠ [])
    (idle : s.request.any TableJob.works = false) : s.swap.StoreSound where
  bank i := by
    rw [bank_swap]
    exact sound.bank i
  active i points := by
    rw [active_swap] at points
    obtain rfl := Option.some.inj points
    rw [bank_swap]
    exact bands
  referenced i refers := by
    rw [referencedBank_swap] at refers
    rw [bank_swap, active_swap]
    exact ⟨(sound.referenced i refers).1, nofun⟩
  pending waits := by
    rw [swap_shape] at waits
    exact absurd rfl waits
  works working := by
    rw [swap_shape] at working
    rw [show s.request.any TableJob.works = true from working] at idle
    cases idle

/-- A time handed on carries out what is pending, while no work is under way (R67, R138). -/
theorem StoreSound.timeHanded (sound : s.StoreSound) : s.handTime.StoreSound := by
  obtain same | ⟨swapped, i, waits, -⟩ := s.handTime_cases
  · rw [same]
    exact sound
  · rw [swapped]
    have pending : s.pendingActivation ≠ none := by rw [waits]; exact nofun
    refine sound.swapped (sound.pending pending).1 (Bool.eq_false_of_not_eq_true fun working => ?_)
    exact pending (sound.works working).1

theorem request_handTime (s : State) : s.handTime.request = s.request := by
  obtain same | ⟨swapped, -⟩ := s.handTime_cases
  · rw [same]
  · rw [swapped, swap_shape]

theorem tablesSound_handTime (sound : s.tablesSound) : s.handTime.tablesSound := by
  obtain ⟨store, none⟩ := tablesSound_iff.mp sound
  refine tablesSound_iff.mpr ⟨store.timeHanded, ?_⟩
  obtain same | ⟨swapped, i, pending, -⟩ := s.handTime_cases
  · rw [same]
    exact none
  · intro waits
    rw [request_handTime] at waits
    have unlocked := (store.pending (by rw [pending]; exact nofun)).2
    rw [none waits] at unlocked
    cases unlocked

/-- Another version of the shadow's contents. -/
theorem StoreSound.versioned (sound : s.StoreSound) (version : Quad) :
    (s.withShadow { s.shadowBank with version := version }).StoreSound ∧
      (s.withShadow { s.shadowBank with version := version }).shadowBank.bands = s.shadowBank.bands := by
  set v := s.withShadow { s.shadowBank with version := version } with written
  have bands (i : BankId) : (v.bank i).bands = (s.bank i).bands := by
    rw [written, withShadow, bank_withBank]
    split_ifs with same
    · rw [same]
      rfl
    · rfl
  have shape : v.active = s.active ∧ v.engine = s.engine ∧ v.pendingActivation = s.pendingActivation ∧
      v.request = s.request := by
    rw [written, withShadow_shape]
    exact ⟨rfl, rfl, rfl, rfl⟩
  obtain ⟨active, engine, pending, request⟩ := shape
  have shadow : v.shadow = s.shadow := by rw [State.shadow, active, State.shadow]
  have refers : v.referencedBank = s.referencedBank := by rw [referencedBank, engine, referencedBank]
  have locked : v.readLocked = s.readLocked := by rw [readLocked, refers, shadow, readLocked]
  have shadowBands : v.shadowBank.bands = s.shadowBank.bands := by rw [shadowBank, shadow, bands, shadowBank]
  refine ⟨⟨fun i => ?_, fun i => ?_, fun i => ?_, ?_, ?_⟩, shadowBands⟩
  · rw [written, withShadow, bank_withBank]
    split_ifs
    · exact sound.bank s.shadow
    · exact sound.bank i
  · rw [active, bands]
    exact sound.active i
  · rw [refers, active, bands]
    exact sound.referenced i
  · rw [pending, shadowBands, locked]
    exact sound.pending
  · rw [request, pending, locked]
    exact sound.works

theorem StoreSound.pended (sound : s.StoreSound) (bands : s.shadowBank.bands ≠ []) (unlocked : s.readLocked = false)
    (idle : s.request.any TableJob.works = false) (i : Instant) :
    ({ s with pendingActivation := some i } : State).StoreSound := by
  refine ⟨sound.bank, sound.active, sound.referenced, fun _ => ⟨bands, unlocked⟩, fun working => ?_⟩
  rw [show s.request.any TableJob.works = true from working] at idle
  cases idle

/-- A TABLE ACTIVATE taken over a free lock, with the request still noted as waiting (R137). -/
theorem StoreSound.activated (sound : s.StoreSound) (unlocked : s.readLocked = false)
    (idle : s.request.any TableJob.works = false) (version : Quad) (expected : Half) (timing : Byte) (day : Half)
    (secs : Quad) : (s.takeActivate version expected timing day secs).1.StoreSound := by
  unfold takeActivate
  split
  · exact sound
  · split
    · next ready =>
      have bands : s.shadowBank.bands ≠ [] := by
        simp only [Bank.ready, Bool.and_eq_true, Bool.not_eq_true', List.isEmpty_eq_false_iff] at ready
        exact ready.2
      obtain ⟨versioned, same⟩ := sound.versioned version
      have request : (s.withShadow { s.shadowBank with version := version }).request = s.request := by
        rw [withShadow_shape]
      have swapped := versioned.swapped (same ▸ bands) (request ▸ idle)
      dsimp only
      split
      · exact swapped
      · split
        · exact swapped
        · refine versioned.pended ?_ ?_ ?_ _
          · rw [same]
            exact bands
          · rw [readLocked, withShadow_shape]
            exact unlocked
          · rw [request]
            exact idle
    · exact sound

theorem StoreSound.cancelled (sound : s.StoreSound) :
    s.cancelActivation.StoreSound ∧ s.cancelActivation.pendingActivation = none := by
  rw [cancelActivation_shape]
  exact ⟨⟨sound.bank, sound.active, sound.referenced, absurd rfl, fun working => ⟨rfl, (sound.works working).2⟩⟩, rfl⟩

theorem readLocked_cancelActivation (s : State) : s.cancelActivation.readLocked = s.readLocked := by
  rw [cancelActivation_shape]
  rfl

theorem StoreSound.asked (sound : s.StoreSound) {job : Option TableJob}
    (works : job.any TableJob.works = true → s.pendingActivation = none ∧ s.readLocked = false) :
    ({ s with request := job } : State).StoreSound :=
  ⟨sound.bank, sound.active, sound.referenced, sound.pending, works⟩

/-- A free lock lets the waiting request be taken (R128, R140). -/
theorem StoreSound.taken (sound : s.StoreSound) : s.takeWaiting.1.tablesSound := by
  obtain same | ⟨j, job, waits, unlocked, ⟨edits, taken⟩ | ⟨activates, taken⟩⟩ := s.takeWaiting_cases
  · rw [same]
    refine tablesSound_iff.mpr ⟨sound, fun waits => ?_⟩
    by_contra unlocked
    cases job : s.request with
    | none =>
      rw [job] at waits
      cases waits
    | some j =>
      obtain ⟨tag, request, phase⟩ := j
      have waiting : phase = .waiting := by
        rw [job] at waits
        simpa [TableJob.waits] using waits
      subst waiting
      have busy : s.takeWaiting.1.request ≠ s.request := by
        rw [takeWaiting, job]
        dsimp only
        rw [if_neg unlocked]
        split_ifs
        · simp
        · exact nofun
      exact busy (by rw [same])
  · rw [taken, s.takeTable_edit (by rintro v e t d c same; rw [same] at edits; cases edits)]
    obtain ⟨kept, none_pending⟩ := sound.cancelled
    refine tablesSound_iff.mpr ⟨kept.asked fun _ => ⟨none_pending, ?_⟩, fun waits => ?_⟩
    · exact (s.readLocked_cancelActivation).trans unlocked
    · cases (waits :)
  · rw [taken]
    refine StoreSound.tablesSound_of_free (StoreSound.asked ?_ nofun) rfl
    have idle : s.request.any TableJob.works = false := by
      rw [job]
      simp [TableJob.works, TableJob.waits, waits]
    cases request : j.request with
    | activate version expected timing day secs => exact sound.activated unlocked idle version expected timing day secs
    | _ =>
      rw [request] at activates
      cases activates

theorem StoreSound.ended (sound : s.StoreSound) (before : Half) : (s.endEvent before).tablesSound := by
  obtain ⟨store, none⟩ := tablesSound_iff.mp sound.taken
  have served : s.takeWaiting.1.arbitrate.tablesSound :=
    tablesSound_iff.mpr ⟨store.arbitrated, noneWaits_arbitrate none⟩
  have sent : s.takeWaiting.1.arbitrate.Steady (s.endEvent before) := (steady_notify _ _).trans steady_of_same
  refine tablesSound_of_kept sent.tables ?_ served
  rw [endEvent, notify_eq_noticed]
  rfl

theorem Ends.tablesSound (ends : s.Ends t) (sound : s.tablesSound) : t.tablesSound := by
  obtain ⟨store, none⟩ := tablesSound_iff.mp sound
  cases ends with
  | still steady same => exact tablesSound_of_kept steady.tables same sound
  | event steady before => exact (steady.tables.storeSound store).ended before
  | asked free steady => exact (steady.tables.storeSound store).tablesSound_of_free (steady.tables.request.trans free)
  | arbitrated free steady after =>
    refine (after.tables.storeSound (steady.tables.storeSound store).arbitrated).tablesSound_of_free ?_
    rw [after.tables.request, request_arbitrate, steady.tables.request, free]

/-! ### The commands of the lines, of release and of the power -/

theorem tablesKept_foldl {α : Type} {f : State → α → State} (kept : ∀ (u : State) x, u.TablesKept (f u x)) (xs : List α)
    (s : State) : s.TablesKept (xs.foldl f s) := by
  induction xs generalizing s with
  | nil => exact .refl s
  | cons x xs ih => exact (kept s x).trans (ih _)

theorem tablesKept_workOutRelease (s : State) : s.TablesKept s.workOutRelease := by
  unfold workOutRelease
  split_ifs
  · obtain ⟨u, before, after⟩ := s.works_releaseBegins
    exact (Works.tablesKept before).trans (TablesKept.trans .of_same (Works.tablesKept after))
  · obtain ⟨u, before, after⟩ := s.works_releaseEnds
    exact (Works.tablesKept before).trans (TablesKept.trans .of_same (Works.tablesKept after))
  · exact .refl s

theorem tablesKept_followLines (s : State) : s.TablesKept s.followLines := by
  have told : s.TablesKept s.tellHalts :=
    tablesKept_foldl (f := fun t b => t.onBerth b fun x => { x with halted := s.haltCondition b })
      (fun _ _ => .of_same) allBerths s
  unfold followLines
  dsimp only
  split
  · exact told
  · exact told.trans (TablesKept.trans .of_same (tablesKept_workOutRelease _))

theorem tablesKept_controlReset (s : State) : ∃ u, s.TablesKept u ∧ s.controlReset = u.arbitrate := by
  have ended : s.TablesKept s.endEverything :=
    Works.tablesKept (((s.works_eachLane fun t _ => t.works_laneReset (gated := fun _ => True) trivial .controlReset).tail
      (.free _)).trans (works_closeEntries _ false _))
  have defaulted (v : State) : v.TablesKept v.defaultSettings := by
    have unmapped := tablesKept_foldl (f := fun (t : State) i => t.onLine i (.remap .unused)) (fun _ _ => .of_same) allLines
      { v with settings := Settings.defaults }
    have from_v : v.TablesKept { v with settings := Settings.defaults } := .of_same
    refine (from_v.trans unmapped).trans (TablesKept.trans ?_ (tablesKept_followLines _))
    exact .of_same
  have cleared (v : State) : v.TablesKept v.clearAndDefault := by
    have flags : v.TablesKept { v with flags := 0 } := .of_same
    unfold clearAndDefault
    dsimp only
    split
    · exact flags
    · exact flags.trans (defaulted _)
  have sourced (v : State) : v.TablesKept { v with frameSource := false } := .of_same
  exact ⟨_, (ended.trans (cleared _)).trans ((sourced _).trans (tablesKept_workOutRelease _)), rfl⟩

/-- A request that meets none in progress. -/
theorem tablesSound_answer {kind : RequestKind} {tag : Byte} {owner : State → State × ReplyBody}
    (keeps : ∀ u : State, u.request = none → u.StoreSound → (owner u).1.StoreSound ∧ (owner u).1.request = none)
    (sound : s.tablesSound) : (s.answer kind tag owner).tablesSound := by
  have heard : s.goodFrame.tablesSound := sound
  unfold answer
  dsimp only
  split
  · exact heard
  · next free =>
    obtain ⟨store, still⟩ := keeps s.goodFrame free (tablesSound_iff.mp heard).1
    have sent : (owner s.goodFrame).1.Steady ((((owner s.goodFrame).1.notify s.flags).reply kind tag (owner s.goodFrame).2)) :=
      (steady_notify _ _).trans (steady_reply _ _ _ _)
    exact (sent.tables.storeSound store).tablesSound_of_free (sent.tables.request.trans still)

/-- An owner that ends with the arbiter's search. -/
theorem keeps_of_arbitrated {u v : State} (kept : u.TablesKept v) (free : u.request = none) (sound : u.StoreSound) :
    v.arbitrate.StoreSound ∧ v.arbitrate.request = none :=
  ⟨(kept.storeSound sound).arbitrated, (request_arbitrate v).trans (kept.request.trans free)⟩

theorem takeRelease_storeSound (source : Bool) (free : s.request = none) (sound : s.StoreSound) :
    (takeRelease source s).1.StoreSound ∧ (takeRelease source s).1.request = none := by
  have sourced : s.TablesKept { s with frameSource := source } := .of_same
  exact keeps_of_arbitrated (sourced.trans (tablesKept_workOutRelease _)) free sound

theorem takeLineSetup_storeSound (line entry parameter options : Byte) (free : s.request = none) (sound : s.StoreSound) :
    (takeLineSetup line entry parameter options s).1.StoreSound ∧
      (takeLineSetup line entry parameter options s).1.request = none := by
  unfold takeLineSetup
  split
  · next i e _ _ =>
    have mapped : s.TablesKept (s.onLine i (.remap e)) := .of_same
    exact keeps_of_arbitrated (mapped.trans (tablesKept_followLines _)) free sound
  · exact ⟨sound, free⟩

theorem execLineDebounce_tablesSound {i : LineId} (h : execLineDebounce i s = .next t) (sound : s.tablesSound) :
    t.tablesSound := by
  obtain rfl := Host.Outcome.next.inj h
  split
  · have kept := Works.tablesKept (gated := fun _ => True) ((s.debounce i).works_pulse i)
    have debounced : s.TablesKept (s.debounce i) := .of_same
    exact ((debounced.trans (kept.trans (tablesKept_followLines _))).storeSound (tablesSound_iff.mp sound).1).ended _
  · exact sound

theorem execControlReset_tablesSound {tag : Byte} (h : execControlReset tag s = .next t) (sound : s.tablesSound) :
    t.tablesSound := by
  obtain rfl := Host.Outcome.next.inj h
  have heard : s.goodFrame.tablesSound := sound
  split
  · exact heard
  · next free =>
    obtain ⟨u, kept, reset⟩ := s.goodFrame.tablesKept_controlReset
    obtain ⟨store, still⟩ := keeps_of_arbitrated kept free (tablesSound_iff.mp heard).1
    rw [← reset] at store still
    have sent := (steady_notify s.goodFrame.controlReset 0).trans (steady_reply _ .controlReset tag (.plain .done))
    exact (sent.tables.storeSound store).tablesSound_of_free (sent.tables.request.trans still)

theorem powerOn_tablesSound (s : State) : s.powerOn.tablesSound :=
  ⟨Bank.sound_empty, Bank.sound_empty, nofun, nofun, absurd rfl, nofun, nofun⟩

/-! ### The commands of the Table Store and the clock -/

theorem arrive_tablesSound (tag : Byte) (r : TableRequest) (sound : s.tablesSound) : (s.arrive tag r).tablesSound := by
  have heard : s.goodFrame.tablesSound := sound
  unfold arrive
  dsimp only
  split
  · exact heard
  · have waiting : StoreSound { s.goodFrame with request := some ⟨tag, r, .waiting⟩ } :=
      (tablesSound_iff.mp heard).1.asked fun works => by cases (works :)
    set u := State.takeWaiting { s.goodFrame with request := some ⟨tag, r, .waiting⟩ }
    have sent : u.1.Steady ((u.1.notify s.flags).send u.2) := (steady_notify _ _).trans steady_of_same
    refine tablesSound_of_kept sent.tables ?_ waiting.taken
    rw [notify_eq_noticed]
    rfl

theorem advanceClock_kept (s : State) : s.TablesKept s.advanceClock ∧ s.advanceClock.referencedBank = s.referencedBank := by
  unfold advanceClock
  split <;> exact ⟨.of_same, rfl⟩

theorem execClockAdvance_tablesSound (h : execClockAdvance s = .next t) (sound : s.tablesSound) : t.tablesSound := by
  obtain rfl := Host.Outcome.next.inj h
  split
  · obtain ⟨kept, same⟩ := s.advanceClock_kept
    refine tablesSound_of_kept (steady_notify _ _).tables ?_ (tablesSound_handTime (tablesSound_of_kept kept same sound))
    rw [notify_eq_noticed]
    rfl
  · exact sound

theorem takeClockSet_storeSound (day : Half) (secs : Quad) (free : s.request = none) (sound : s.StoreSound) :
    (takeClockSet day secs s).1.StoreSound ∧ (takeClockSet day secs s).1.request = none := by
  set u := s.setClock day.toNat (min secs.toNat (Config.secondsPerDay - 1))
  have kept : s.TablesKept u := .of_same
  exact ⟨(kept.storeSound sound).timeHanded, (request_handTime u).trans free⟩

/-- The work of a request writes a sound bank in the shadow's place, or nothing. -/
theorem workTable_bank (sound : ∀ i, (s.bank i).sound) (r : TableRequest) :
    ∃ k : Bank, k.sound ∧ s.workTable r = s.withShadow k := by
  have same : s = s.withShadow s.shadowBank := (s.withBank_bank s.shadow).symm
  cases r with
  | write start body => exact ⟨_, Bank.sound_writeChecked _ _ (sound _), rfl⟩
  | insert entry => exact ⟨_, Bank.sound_insert _ (sound _), rfl⟩
  | remove card => exact ⟨_, Bank.sound_remove _ (sound _), rfl⟩
  | clear => exact ⟨_, Bank.sound_empty, rfl⟩
  | copy =>
    cases points : s.active with
    | none => exact ⟨_, sound s.shadow, by rw [workTable, points]; exact same⟩
    | some i => exact ⟨_, sound i, by rw [workTable, points]⟩
  | activate => exact ⟨_, sound s.shadow, same⟩

/-- Work in a shadow that is neither locked nor pending (R128, R141). -/
theorem StoreSound.shadowWritten (sound : s.StoreSound) (none_pending : s.pendingActivation = none)
    (unlocked : s.readLocked = false) {k : Bank} (written : k.sound) : (s.withShadow k).StoreSound := by
  have other {i : BankId} (differs : i ≠ s.shadow) : (s.withShadow k).bank i = s.bank i := by
    rw [withShadow, bank_withBank, if_neg differs]
  have shape : (s.withShadow k).active = s.active ∧ (s.withShadow k).engine = s.engine ∧
      (s.withShadow k).pendingActivation = s.pendingActivation := by
    rw [withShadow_shape]
    exact ⟨rfl, rfl, rfl⟩
  obtain ⟨active, engine, pending⟩ := shape
  have shadow : (s.withShadow k).shadow = s.shadow := by rw [State.shadow, active, State.shadow]
  have refers : (s.withShadow k).referencedBank = s.referencedBank := by rw [referencedBank, engine, referencedBank]
  refine ⟨fun i => ?_, fun i points => ?_, fun i points => ?_, fun waits => absurd (pending.trans none_pending) waits,
    fun _ => ⟨pending.trans none_pending, by rw [readLocked, refers, shadow]; exact unlocked⟩⟩
  · rw [withShadow, bank_withBank]
    split_ifs
    · exact written
    · exact sound.bank i
  · rw [active] at points
    rw [other (shadow_ne_of_active points)]
    exact sound.active i points
  · rw [refers] at points
    have differs : i ≠ s.shadow := by
      rintro rfl
      rw [readLocked, points] at unlocked
      simp at unlocked
    rw [other differs, active]
    exact sound.referenced i points

theorem execTableWorkDone_tablesSound (h : execTableWorkDone s = .next t) (sound : s.tablesSound) : t.tablesSound := by
  obtain rfl := Host.Outcome.next.inj h
  split
  · next tag request body job =>
    have store := (tablesSound_iff.mp sound).1
    obtain ⟨none_pending, unlocked⟩ := store.works (by rw [job]; rfl)
    obtain ⟨k, written, worked⟩ := workTable_bank store.bank request
    rw [worked]
    have done : ({ s.withShadow k with request := none } : State).StoreSound :=
      (store.shadowWritten none_pending unlocked written).asked nofun
    exact ((steady_reply _ _ _ _).tables.storeSound done).tablesSound_of_free rfl
  · exact sound

end State

open State in
/-- Every command keeps the tables sound. -/
theorem exec_tablesSound {c : Instr} {s t : State} (h : exec c s = .next t) (sound : s.tablesSound) : t.tablesSound := by
  have request {kind : RequestKind} {tag : Byte} {owner : State → State × ReplyBody}
      (keeps : ∀ u : State, u.request = none → u.StoreSound → (owner u).1.StoreSound ∧ (owner u).1.request = none)
      (h : Host.Outcome.next (s.answer kind tag owner) = (.next t : Host.Outcome State Fault Refusal)) :
      t.tablesSound := Host.Outcome.next.inj h ▸ tablesSound_answer keeps sound
  have table {tag : Byte} {r : TableRequest}
      (h : Host.Outcome.next (s.arrive tag r) = (.next t : Host.Outcome State Fault Refusal)) : t.tablesSound :=
    Host.Outcome.next.inj h ▸ arrive_tablesSound tag r sound
  by_cases touches : touchesTablesOrLines c = true
  · cases c with
    | powerOn => exact Host.Outcome.next.inj h ▸ s.powerOn_tablesSound
    | tableWrite | cardInsert | cardRemove | tableClear | tableCopy | tableActivate => exact table h
    | tableWorkDone => exact execTableWorkDone_tablesSound h sound
    | clockAdvance => exact execClockAdvance_tablesSound h sound
    | clockSet => exact request (fun _ => takeClockSet_storeSound _ _) h
    | lineDebounce i => exact execLineDebounce_tablesSound h sound
    | lineLevelChange i level => exact Host.Outcome.next.inj h ▸ sound
    | lineSetup => exact request (fun _ => takeLineSetup_storeSound _ _ _ _) h
    | releaseStart | releaseEnd => exact request (fun _ => takeRelease_storeSound _) h
    | controlReset tag => exact execControlReset_tablesSound h sound
    | _ => cases touches
  · exact (exec_ends h (Bool.eq_false_of_not_eq_true touches)).tablesSound sound

end Sys2Proof.Machine
open Sys2Proof Sys2Proof.Machine

/-- Settles O56: a lock that is freed lets the waiting request be taken in the same event, and work is done in a shadow
that nothing reads. -/
theorem everyStepKeepsTheTablesSound : Obligations.EveryStepKeepsTheTablesSound :=
  fun _ _ => step_keeps (fun _ _ => id) fun _ _ _ sound ran => exec_tablesSound ran sound
end

section
/-! The books of the pier (R106, R114, R117, R147): what the berths and the Journal have entered as held, granted and
reserved, and what the lanes and the recovery entries own of it. -/

namespace Sys2Proof.Machine

/-- Held places, granted places, and reservations; what is owed stands below zero. -/
abbrev Books := (BerthId → Int) × (BerthId → Int) × Int

def heldBook (b : BerthId) (n : Int) : Books := (Pi.single b n, 0, 0)
def grantedBook (b : BerthId) (n : Int) : Books := (0, Pi.single b n, 0)
def reservedBook (reserved : Bool) : Books := (0, 0, if reserved then 1 else 0)

theorem heldBook_zero (b : BerthId) : heldBook b 0 = 0 := by
  rw [heldBook, Pi.single_zero]
  rfl

theorem grantedBook_zero (b : BerthId) : grantedBook b 0 = 0 := by
  rw [grantedBook, Pi.single_zero]
  rfl

theorem grantedBook_add (b : BerthId) (m n : Int) : grantedBook b (m + n) = grantedBook b m + grantedBook b n := by
  rw [grantedBook, Pi.single_add]
  simp [grantedBook]

theorem heldBook_neg (b : BerthId) (n : Int) : heldBook b (-n) = -heldBook b n := by
  rw [heldBook, Pi.single_neg]
  simp [heldBook]

theorem grantedBook_neg (b : BerthId) (n : Int) : grantedBook b (-n) = -grantedBook b n := by
  rw [grantedBook, Pi.single_neg]
  simp [grantedBook]

theorem reservedBook_false : reservedBook false = 0 := rfl

/-! ### What lanes and entries own -/

/-- What a transaction owns: an orphaned write its reservation alone (R90, R147). -/
def Transaction.books : Transaction → Books
  | .writing _ w => (if w.orphaned then 0 else heldBook w.berth w.riders) + reservedBook w.reservation
  | _ => 0

/-- The credits of an ENTRY lane (R117). -/
def Lane.creditBook (x : Lane) : Books :=
  match x.mode with
  | .entry b => grantedBook b x.credits
  | _ => 0

def Lane.books (x : Lane) : Books := x.txn.books + x.creditBook

/-- What a recovery entry owns (R91). -/
def RecoveryEntry.books (e : RecoveryEntry) : Books := heldBook e.berth e.riders + reservedBook e.reservation

theorem Transaction.books_writing {image : CardImage} {w : CardWrite} (live : w.orphaned = false) :
    (Transaction.writing image w).books = heldBook w.berth w.riders + reservedBook w.reservation := by
  simp [Transaction.books, live]

theorem Transaction.books_orphaned {image : CardImage} {w : CardWrite} (orphan : w.orphaned = true) :
    (Transaction.writing image w).books = reservedBook w.reservation := by
  simp [Transaction.books, orphan]

theorem Lane.creditBook_entry {x : Lane} {b : BerthId} (mode : x.mode = .entry b) :
    x.creditBook = grantedBook b x.credits := by
  rw [Lane.creditBook, mode]

theorem Lane.creditBook_of_none {x : Lane} (none_left : x.credits = 0) : x.creditBook = 0 := by
  unfold Lane.creditBook
  split
  · rw [none_left]
    exact grantedBook_zero _
  · rfl

theorem Lane.creditBook_congr {x y : Lane} (mode : y.mode = x.mode) (credits : y.credits = x.credits) :
    y.creditBook = x.creditBook := by rw [creditBook, creditBook, mode, credits]

theorem Lane.books_congr {x y : Lane} (txn : y.txn = x.txn) (mode : y.mode = x.mode) (credits : y.credits = x.credits) :
    y.books = x.books := by rw [books, books, txn, creditBook_congr mode credits]

theorem Lane.books_held (x : Lane) (b : BerthId) : x.books.1 b = x.txn.ridersAt b := by
  have credits : x.creditBook.1 = 0 := by
    unfold creditBook
    split <;> rfl
  have owned : x.txn.books.1 b = x.txn.ridersAt b := by
    cases txn : x.txn with
    | writing image w =>
      cases orphan : w.orphaned with
      | true => simp [Transaction.books_orphaned orphan, reservedBook, Transaction.ridersAt, orphan]
      | false =>
        by_cases same : w.berth = b
        · subst same
          simp [Transaction.books_writing orphan, reservedBook, heldBook, Transaction.ridersAt, orphan]
        · simp [Transaction.books_writing orphan, reservedBook, heldBook, Transaction.ridersAt, same]
    | _ => rfl
  rw [books, Prod.fst_add, Pi.add_apply, credits, owned]
  exact add_zero _

theorem Lane.books_granted (x : Lane) (b : BerthId) : x.books.2.1 b = x.creditsAt b := by
  have txn : x.txn.books.2.1 = 0 := by
    cases x.txn with
    | writing image w =>
      cases orphan : w.orphaned with
      | true => simp [Transaction.books_orphaned orphan, reservedBook]
      | false => simp [Transaction.books_writing orphan, reservedBook, heldBook]
    | _ => rfl
  rw [books, Prod.snd_add, Prod.fst_add, txn, zero_add, creditsAt]
  cases mode : x.mode with
  | entry c =>
    rw [creditBook_entry mode]
    by_cases same : c = b
    · subst same
      simp [grantedBook]
    · simp [grantedBook, same]
  | _ => simp [creditBook, mode]

theorem Lane.books_reserved (x : Lane) : x.books.2.2 = if x.txn.reserves then 1 else 0 := by
  have credits : x.creditBook.2.2 = 0 := by
    unfold creditBook
    split <;> rfl
  rw [books, Prod.snd_add, Prod.snd_add, credits, add_zero]
  cases x.txn with
  | writing image w =>
    cases orphan : w.orphaned with
    | true =>
      rw [Transaction.books_orphaned orphan]
      rfl
    | false =>
      rw [Transaction.books_writing orphan, Prod.snd_add, Prod.snd_add]
      exact zero_add _
  | _ => rfl

theorem RecoveryEntry.books_held (e : RecoveryEntry) (b : BerthId) : e.books.1 b = e.ridersAt b := by
  by_cases same : e.berth = b
  · subst same
    simp [books, heldBook, reservedBook, ridersAt]
  · simp [books, heldBook, reservedBook, ridersAt, same]

theorem RecoveryEntry.books_granted (e : RecoveryEntry) : e.books.2.1 = 0 := by simp [books, heldBook, reservedBook]

theorem RecoveryEntry.books_reserved (e : RecoveryEntry) : e.books.2.2 = if e.reservation then 1 else 0 := by
  simp [books, heldBook, reservedBook]

/-! ### The books of the device -/

namespace State

variable {s t : State}

/-- What the lanes and the recovery entries own. -/
def owned (s : State) : Books := ∑ l : LaneId, (s.lane l).books + (s.recovery.map RecoveryEntry.books).sum

/-- What the berths and the Journal have entered. -/
def entered (s : State) : Books :=
  (fun b => (s.berth b).counts.held, fun b => (s.berth b).counts.granted, s.journal.reservations)

/-- What is entered and has no owner. -/
def balance (s : State) : Books := s.entered - s.owned

theorem sum_allLanes (f : LaneId → Nat) : ((allLanes.map f).sum : Int) = ∑ l : LaneId, (f l : Int) := by
  have listed : allLanes = List.finRange 16 := rfl
  rw [listed, ← Nat.cast_sum, Fin.sum_univ_def]

theorem countP_eq_sum {α : Type} (p : α → Bool) (xs : List α) : xs.countP p = (xs.map fun x => if p x then 1 else 0).sum := by
  induction xs with
  | nil => rfl
  | cons x xs ih => rw [List.countP_cons, List.map_cons, List.sum_cons, ih, Nat.add_comm]

theorem sum_books_held (es : List RecoveryEntry) (b : BerthId) :
    (es.map RecoveryEntry.books).sum.1 b = (es.map (·.ridersAt b)).sum := by
  induction es with
  | nil => rfl
  | cons e es ih =>
    rw [List.map_cons, List.sum_cons, Prod.fst_add, Pi.add_apply, ih, e.books_held, List.map_cons, List.sum_cons,
      Nat.cast_add]

theorem sum_books_granted (es : List RecoveryEntry) : (es.map RecoveryEntry.books).sum.2.1 = 0 := by
  induction es with
  | nil => rfl
  | cons e es ih => rw [List.map_cons, List.sum_cons, Prod.snd_add, Prod.fst_add, ih, e.books_granted, add_zero]

theorem sum_books_reserved (es : List RecoveryEntry) : (es.map RecoveryEntry.books).sum.2.2 = es.countP (·.reservation) := by
  induction es with
  | nil => rfl
  | cons e es ih =>
    rw [List.map_cons, List.sum_cons, Prod.snd_add, Prod.snd_add, ih, e.books_reserved, List.countP_cons]
    split_ifs <;> simp [add_comm]

theorem owned_held (s : State) (b : BerthId) : s.owned.1 b = s.heldFor b := by
  rw [owned, Prod.fst_add, Pi.add_apply, sum_books_held, Prod.fst_sum, Finset.sum_apply, heldFor, Nat.cast_add,
    sum_allLanes]
  simp only [Lane.books_held]

theorem owned_granted (s : State) (b : BerthId) : s.owned.2.1 b = s.creditsFor b := by
  rw [owned, Prod.snd_add, Prod.fst_add, Pi.add_apply, sum_books_granted, Prod.snd_sum, Prod.fst_sum, Finset.sum_apply,
    creditsFor, sum_allLanes]
  simp only [Lane.books_granted]
  exact add_zero _

theorem owned_reserved (s : State) : s.owned.2.2 = s.reservationsHeld := by
  rw [owned, Prod.snd_add, Prod.snd_add, sum_books_reserved, Prod.snd_sum, Prod.snd_sum, reservationsHeld, Nat.cast_add,
    countP_eq_sum _ allLanes, sum_allLanes]
  simp only [Lane.books_reserved, Nat.cast_ite, Nat.cast_one, Nat.cast_zero]

/-- Balanced books: every place and reservation has its owner. -/
theorem balance_eq_zero_iff (s : State) : s.balance = 0 ↔
    (∀ b, (s.berth b).counts.held = s.heldFor b) ∧ (∀ b, (s.berth b).counts.granted = s.creditsFor b) ∧
      s.journal.reservations = s.reservationsHeld := by
  rw [balance, sub_eq_zero, Prod.ext_iff, Prod.ext_iff, funext_iff, funext_iff]
  simp only [owned_held, owned_granted, owned_reserved, entered, Nat.cast_inj]

/-! ### How the books change -/

theorem entered_of_same (berths : ∀ b, (t.berth b).counts.held = (s.berth b).counts.held ∧
    (t.berth b).counts.granted = (s.berth b).counts.granted) (reservations : t.journal.reservations = s.journal.reservations) :
    t.entered = s.entered := by
  simp only [entered, berths, reservations]

theorem owned_onLane (s : State) (l : LaneId) (f : Lane → Lane) :
    (s.onLane l f).owned = s.owned + ((f (s.lane l)).books - (s.lane l).books) := by
  have others : ∑ m ∈ Finset.univ.erase l, ((s.onLane l f).lane m).books = ∑ m ∈ Finset.univ.erase l, (s.lane m).books :=
    Finset.sum_congr rfl fun m other => by
      rw [lane_onLane_of_ne s (Finset.ne_of_mem_erase other)]
  have split (u : State) : ∑ m : LaneId, (u.lane m).books = (u.lane l).books + ∑ m ∈ Finset.univ.erase l, (u.lane m).books :=
    (Finset.add_sum_erase _ (fun m => (u.lane m).books) (Finset.mem_univ l)).symm
  rw [owned, owned, split, split, others, lane_onLane_self, onLane_recovery]
  abel

theorem balance_onLane (s : State) (l : LaneId) (f : Lane → Lane) :
    (s.onLane l f).balance = s.balance + (s.lane l).books - (f (s.lane l)).books := by
  rw [balance, balance, owned_onLane, show (s.onLane l f).entered = s.entered from rfl]
  abel

theorem entered_onBerth (s : State) (b : BerthId) (f : Berth → Berth) : (s.onBerth b f).entered = s.entered +
    heldBook b ((f (s.berth b)).counts.held - (s.berth b).counts.held) +
    grantedBook b ((f (s.berth b)).counts.granted - (s.berth b).counts.granted) := by
  refine Prod.ext (funext fun c => ?_) (Prod.ext (funext fun c => ?_) ?_)
  · by_cases same : c = b
    · subst same
      simp [entered, heldBook, grantedBook]
    · simp [entered, heldBook, grantedBook, berth_onBerth, same, Pi.single_eq_of_ne]
  · by_cases same : c = b
    · subst same
      simp [entered, heldBook, grantedBook]
    · simp [entered, heldBook, grantedBook, berth_onBerth, same, Pi.single_eq_of_ne]
  · simp [entered, heldBook, grantedBook]

theorem balance_onBerth (s : State) (b : BerthId) (f : Berth → Berth) : (s.onBerth b f).balance = s.balance +
    heldBook b ((f (s.berth b)).counts.held - (s.berth b).counts.held) +
    grantedBook b ((f (s.berth b)).counts.granted - (s.berth b).counts.granted) := by
  rw [balance, balance, entered_onBerth, show (s.onBerth b f).owned = s.owned from rfl]
  abel

theorem owned_recovery (s : State) (es : List RecoveryEntry) : ({ s with recovery := es } : State).owned =
    s.owned - (s.recovery.map RecoveryEntry.books).sum + (es.map RecoveryEntry.books).sum := by
  rw [owned, owned, show ∑ l, (({ s with recovery := es } : State).lane l).books = ∑ l, (s.lane l).books from rfl]
  abel

theorem sum_eraseP {es : List RecoveryEntry} {e : RecoveryEntry} (distinct : (es.map (·.card)).Nodup) (member : e ∈ es) :
    (es.map RecoveryEntry.books).sum = e.books + ((es.eraseP (·.card == e.card)).map RecoveryEntry.books).sum := by
  induction es with
  | nil => cases member
  | cons x xs ih =>
    rw [List.map_cons, List.nodup_cons] at distinct
    obtain ⟨fresh, distinct⟩ := distinct
    by_cases same : x.card = e.card
    · have own : x = e := by
        obtain rfl | later := List.mem_cons.mp member
        · rfl
        · exact absurd (same ▸ List.mem_map_of_mem later) fresh
      rw [List.eraseP_cons_of_pos (by simpa using same), own, List.map_cons, List.sum_cons]
    · have later : e ∈ xs := (List.mem_cons.mp member).resolve_left fun own => same (own ▸ rfl)
      rw [List.eraseP_cons_of_neg (by simpa using same), List.map_cons, List.sum_cons, List.map_cons, List.sum_cons,
        ih distinct later]
      abel

end State
end Sys2Proof.Machine
end

section
/-! The laws of admission in the midst of an event: the books may be out of balance by what is under way, a lane may
wait for an engine that has just been freed, and the lane of a decision may have left the engine already. -/

namespace Sys2Proof.Machine

/-! ### The law of a berth (R106) -/

/-- A berth's state agrees with its counts, and no place is committed twice. -/
def Berth.Law (y : Berth) : Prop := y.lawful = true ∧ y.counts.committed ≤ y.effective

/-- As `Berth.Law`, but for the state that follows room. -/
def Berth.Unfollowed (y : Berth) : Prop :=
  y.counts.committed ≤ y.effective ∧
  (y.state = .idle → y.vessel = none ∧ y.effective = 0 ∧ y.counts = Counts.zero) ∧ (y.state ≠ .idle → y.vessel.isSome) ∧
  (y.state = .alongside → y.counts.held = 0 ∧ y.counts.granted = 0)

theorem Berth.Law.unfollowed {y : Berth} (law : y.Law) : y.Unfollowed := by
  obtain ⟨lawful, fits⟩ := law
  refine ⟨fits, ?_, ?_, ?_⟩ <;> unfold Berth.lawful at lawful <;> cases state : y.state <;> simp_all

/-- The state that follows room makes the law whole (R106). -/
theorem Berth.Unfollowed.law {y : Berth} (law : y.Unfollowed) : y.follow.Law := by
  obtain ⟨fits, idle, moored, alongside⟩ := law
  unfold Berth.follow
  cases state : y.state with
  | idle =>
    obtain ⟨vessel, effective, counts⟩ := idle state
    rw [if_neg (by decide)]
    exact ⟨by simp [Berth.lawful, state, vessel, effective, counts], fits⟩
  | alongside =>
    obtain ⟨held, granted⟩ := alongside state
    rw [if_neg (by decide)]
    exact ⟨by simp [Berth.lawful, state, moored, held, granted], fits⟩
  | closed =>
    rw [if_neg (by decide)]
    exact ⟨by simp [Berth.lawful, state, moored], fits⟩
  | boarding | full =>
    have vessel := moored (by rw [state]; decide)
    rw [if_pos (by decide)]
    refine ⟨?_, fits⟩
    by_cases room : y.room ≤ 0
    · rw [if_pos room]
      show (y.vessel.isSome && decide (y.room ≤ 0)) = true
      simp [vessel, room]
    · rw [if_neg room]
      show (y.vessel.isSome && decide (0 < y.room)) = true
      simp [vessel, Int.not_le.mp room]

theorem Berth.follow_frame (y : Berth) : y.follow.counts = y.counts ∧ y.follow.effective = y.effective := by
  unfold Berth.follow
  split_ifs <;> exact ⟨rfl, rfl⟩

/-! ### The law of a lane's place at the engine (R42, R43, R53) -/

/-- A tap that has not been decided (R20). -/
def Transaction.isUndecided : Transaction → Bool
  | .waiting _ | .validating _ => true
  | _ => false

/-- How far an event has come: nothing waits that could be granted; a lane may wait for a free engine; the transaction
of this lane has ended and the engine has not been freed yet; or this lane has gone OFFLINE and is about to be reset. -/
inductive Phase where
  | rest
  | midway
  | ended (l : LaneId)
  | parting (l : LaneId)

/-- The lane that may be OFFLINE with its work still to be ended (R12). -/
def Phase.parts : Phase → LaneId → Bool
  | .parting l, m => l == m
  | _, _ => false

/-- What `Lane.lawful` says, but that a lane which parts may be OFFLINE with a transaction or credits. -/
structure Lane.Law (release parts : Bool) (x : Lane) : Prop where
  txn : x.txnLawful release = true
  leaf : ∀ n, x.leaf = .opened n → 1 ≤ n ∧ n ≤ 15 ∧ x.mode.berth?.isSome = true ∧ release = false
  timer : x.holdTimer.isSome = decide (0 < x.credits)
  online : parts = true ∨ x.status = .online ∨ x.txn = .none ∧ x.credits = 0
  saved : release = true → x.savedMode = x.mode

theorem Lane.lawful_iff {x : Lane} {release : Bool} : x.lawful release = true ↔ x.Law release false := by
  have leaf : (match x.leaf with
      | .opened n => decide (1 ≤ n) && decide (n ≤ 15) && x.mode.berth?.isSome && !release
      | _ => true) = true ↔ ∀ n, x.leaf = .opened n → 1 ≤ n ∧ n ≤ 15 ∧ x.mode.berth?.isSome = true ∧ release = false := by
    cases x.leaf <;> simp [and_assoc]
  constructor
  · intro lawful
    simp only [Lane.lawful, Bool.and_eq_true, Bool.or_eq_true, beq_iff_eq, Bool.not_eq_true'] at lawful
    obtain ⟨⟨⟨⟨txn, open_⟩, timer⟩, online⟩, saved⟩ := lawful
    exact ⟨txn, leaf.mp open_, timer, .inr online, fun active => saved.resolve_left (by rw [active]; decide)⟩
  · rintro ⟨txn, open_, timer, online, saved⟩
    simp only [Lane.lawful, Bool.and_eq_true, Bool.or_eq_true, beq_iff_eq, Bool.not_eq_true']
    refine ⟨⟨⟨⟨txn, leaf.mpr open_⟩, timer⟩, online.resolve_left (by decide)⟩, ?_⟩
    cases release with
    | true => exact .inr (saved rfl)
    | false => exact .inl rfl

/-- The validation in flight is this lane's (R43, R53). -/
def Validation.InFlight (v : Validation) (x : Lane) : Prop :=
  x.txn = .validating v.image ∧ x.mode = .entry v.berth ∧
    ∀ q, v.product = some q → 1 ≤ q.riders ∧ (v.stage = .decision → x.credits + q.riders ≤ 15)

/-- What `engineSound` says of one lane. -/
structure Lane.EngineLaw (p : Phase) (e : Option Validation) (l : LaneId) (x : Lane) : Prop where
  ended : p = .ended l → x.txn.isUndecided = false
  inFlight : p ≠ .ended l → ∀ v, e = some v → v.lane = l → v.InFlight x
  owned : ∀ image, x.txn = .validating image → ∃ v, e = some v ∧ v.lane = l
  rest : p = .rest → e = none → x.txn.isWaiting = false

namespace Lane

variable {p : Phase} {e : Option Validation} {l : LaneId} {x y : Lane}

theorem EngineLaw.opened (law : x.EngineLaw .rest e l) : x.EngineLaw .midway e l :=
  ⟨nofun, fun _ => law.inFlight nofun, law.owned, nofun⟩

/-- A change that leaves the transaction, or ends one that is not at the engine. -/
structure Eased (x y : Lane) : Prop where
  kept : y.txn = x.txn ∧ (y.txn.isUndecided = true → y.mode = x.mode ∧ y.credits ≤ x.credits) ∨
    x.txn.isUndecided = false ∧ y.txn.isUndecided = false

theorem isUndecided_of_validating {image : CardImage} (h : x.txn = .validating image) : x.txn.isUndecided = true := by
  rw [h]
  rfl

theorem isWaiting_of_decided (h : x.txn.isUndecided = false) : x.txn.isWaiting = false := by
  cases txn : x.txn <;> simp_all [Transaction.isUndecided, Transaction.isWaiting]

theorem EngineLaw.eased (law : x.EngineLaw p e l) (eased : x.Eased y) : y.EngineLaw p e l := by
  obtain ⟨same, kept⟩ | ⟨before, after⟩ := eased.kept
  · refine ⟨fun ended => same ▸ law.ended ended, fun flying v busy own => ?_, fun image at_engine => ?_, fun rest idle => ?_⟩
    · obtain ⟨at_engine, mode, product⟩ := law.inFlight flying v busy own
      have undecided : y.txn.isUndecided = true := isUndecided_of_validating (same.trans at_engine)
      obtain ⟨same_mode, credits⟩ := kept undecided
      refine ⟨same.trans at_engine, same_mode.trans mode, fun q found => ?_⟩
      obtain ⟨riders, room⟩ := product q found
      exact ⟨riders, fun last => (Nat.add_le_add_right credits _).trans (room last)⟩
    · exact law.owned image (same.symm.trans at_engine)
    · rw [same]
      exact law.rest rest idle
  · refine ⟨fun _ => after, fun flying v busy own => ?_, fun image at_engine => ?_, fun _ _ => isWaiting_of_decided after⟩
    · rw [isUndecided_of_validating (law.inFlight flying v busy own).1] at before
      cases before
    · rw [isUndecided_of_validating at_engine] at after
      cases after

end Lane

/-! ### The laws together -/

/-- The recovery list (R91, R93, R95, R162). -/
structure RecoverySound (release : Bool) (es : List RecoveryEntry) : Prop where
  few : es.length ≤ 8
  distinct : (es.map (·.card)).Nodup
  riders : ∀ e ∈ es, 1 ≤ e.riders
  release : release = true → es = []

/-- The laws of admission in the phase `p`, with the books out of balance by `d`. -/
structure State.Sound (d : Books) (p : Phase) (s : State) : Prop where
  balance : s.balance = d
  berth : ∀ b, (s.berth b).Law
  lane : ∀ l, (s.lane l).Law s.releaseActive (p.parts l)
  engine : ∀ l, (s.lane l).EngineLaw p s.engine l
  recovery : RecoverySound s.releaseActive s.recovery
  occupancy : s.journal.occupancy ≤ 2048
  fields : s.bankA.fieldsInRange ∧ s.bankB.fieldsInRange

namespace State

variable {s t : State} {d d' : Books} {p : Phase} {l : LaneId} {b : BerthId}

theorem engineSound_of_free (idle : s.engine = none) :
    s.engineSound = true ↔ ∀ l, (s.lane l).txn.isUndecided = false := by
  rw [engineSound, idle]
  constructor
  · intro sound l
    have free := List.all_eq_true.mp sound l (mem_allLanes l)
    cases txn : (s.lane l).txn with
    | waiting _ | validating _ =>
      rw [txn] at free
      cases free
    | none | writing _ _ => rfl
  · intro decided
    refine List.all_eq_true.mpr fun l _ => ?_
    have none_here := decided l
    cases txn : (s.lane l).txn with
    | waiting _ | validating _ =>
      rw [txn] at none_here
      cases none_here
    | none | writing _ _ =>
      rfl

theorem engineSound_of_busy {v : Validation} (busy : s.engine = some v) : s.engineSound = true ↔
    v.InFlight (s.lane v.lane) ∧ ∀ l image, (s.lane l).txn = .validating image → l = v.lane := by
  rw [engineSound, busy]
  simp only [Bool.and_eq_true, beq_iff_eq]
  have others : (allLanes.all (fun l => l == v.lane || !((s.lane l).txn matches .validating _)) = true) ↔
      ∀ l image, (s.lane l).txn = .validating image → l = v.lane := by
    constructor
    · intro sound l image at_engine
      have here := List.all_eq_true.mp sound l (mem_allLanes l)
      rw [at_engine] at here
      simpa using here
    · intro own
      refine List.all_eq_true.mpr fun l _ => ?_
      by_cases same : l = v.lane
      · simp [same]
      · cases txn : (s.lane l).txn with
        | validating image => exact absurd (own l image txn) same
        | _ => exact Bool.or_true _
  have product : (v.product.all fun q => decide (1 ≤ q.riders) &&
      (v.stage != .decision || decide ((s.lane v.lane).credits + q.riders ≤ 15))) = true ↔
      ∀ q, v.product = some q → 1 ≤ q.riders ∧ (v.stage = .decision → (s.lane v.lane).credits + q.riders ≤ 15) := by
    simp only [Option.all_eq_true, Bool.and_eq_true, Bool.or_eq_true, decide_eq_true_eq, bne_iff_ne, ne_eq, or_iff_not_imp_left,
      not_not]
  rw [Validation.InFlight, ← product]
  exact ⟨fun ⟨⟨⟨txn, mode⟩, all⟩, found⟩ => ⟨⟨txn, mode, found⟩, others.mp all⟩,
    fun ⟨⟨txn, mode, found⟩, all⟩ => ⟨⟨⟨txn, mode⟩, others.mpr all⟩, found⟩⟩

theorem engineSound_iff : s.engineSound = true ↔ ∀ l, (s.lane l).EngineLaw .rest s.engine l := by
  cases engine : s.engine with
  | none =>
    rw [engineSound_of_free engine]
    constructor
    · intro all l
      refine ⟨nofun, fun _ _ busy => by (cases busy), fun image at_engine => ?_, fun _ _ => Lane.isWaiting_of_decided (all l)⟩
      have undecided := Lane.isUndecided_of_validating at_engine
      rw [all l] at undecided
      cases undecided
    · intro law l
      cases txn : (s.lane l).txn with
      | waiting image =>
        have waits := (law l).rest rfl rfl
        rw [txn] at waits
        cases waits
      | validating image =>
        obtain ⟨v, busy, -⟩ := (law l).owned image txn
        cases busy
      | _ => rfl
  | some v =>
    rw [engineSound_of_busy engine]
    constructor
    · rintro ⟨flying, others⟩ l
      refine ⟨nofun, ?_, fun image validating => ⟨v, rfl, (others l image validating).symm⟩, nofun⟩
      rintro - _ ⟨⟩ rfl
      exact flying
    · intro law
      refine ⟨(law v.lane).inFlight nofun v rfl rfl, fun l image validating => ?_⟩
      obtain ⟨w, busy, of_l⟩ := (law l).owned image validating
      cases busy
      exact of_l.symm

theorem placesSound_iff : s.placesSound ↔ s.Sound 0 .rest := by
  constructor
  · rintro ⟨berths, lanes, engine, few, distinct, riders, release, reservations, occupancy, bankA, bankB⟩
    exact ⟨s.balance_eq_zero_iff.mpr ⟨fun b => (berths b).2.1, fun b => (berths b).2.2.1, reservations⟩,
      fun b => ⟨(berths b).1, (berths b).2.2.2⟩, fun l => Lane.lawful_iff.mp (lanes l), engineSound_iff.mp engine, ⟨few, distinct, riders, release⟩,
      occupancy, bankA, bankB⟩
  · rintro ⟨balance, berth, lane, engine, ⟨few, distinct, riders, release⟩, occupancy, bankA, bankB⟩
    obtain ⟨held, granted, reservations⟩ := s.balance_eq_zero_iff.mp balance
    exact ⟨fun b => ⟨(berth b).1, held b, granted b, (berth b).2⟩, fun l => Lane.lawful_iff.mpr (lane l), engineSound_iff.mpr engine, few, distinct, riders,
      release, reservations, occupancy, bankA, bankB⟩

namespace Sound

theorem cast (sound : s.Sound d p) (same : d = d') : s.Sound d' p := same ▸ sound

theorem opened (sound : s.Sound d .rest) : s.Sound d .midway :=
  ⟨sound.balance, sound.berth, sound.lane, fun l => (sound.engine l).opened, sound.recovery, sound.occupancy, sound.fields⟩

/-! ### Reading the books -/

theorem held_eq (sound : s.Sound d p) (b : BerthId) : ((s.berth b).counts.held : Int) = d.1 b + s.heldFor b := by
  rw [← sound.balance, State.balance, Prod.fst_sub, Pi.sub_apply, owned_held]
  exact (Int.sub_add_cancel _ _).symm

theorem granted_eq (sound : s.Sound d p) (b : BerthId) : ((s.berth b).counts.granted : Int) = d.2.1 b + s.creditsFor b := by
  rw [← sound.balance, State.balance, Prod.snd_sub, Prod.fst_sub, Pi.sub_apply, owned_granted]
  exact (Int.sub_add_cancel _ _).symm

theorem reserved_eq (sound : s.Sound d p) : (s.journal.reservations : Int) = d.2.2 + s.reservationsHeld := by
  rw [← sound.balance, State.balance, Prod.snd_sub, Prod.snd_sub, owned_reserved]
  exact (Int.sub_add_cancel _ _).symm

theorem le_heldFor_of_lane (s : State) (l : LaneId) (b : BerthId) : (s.lane l).txn.ridersAt b ≤ s.heldFor b :=
  Nat.le_add_right_of_le (List.single_le_sum (fun _ _ => Nat.zero_le _) _ (List.mem_map_of_mem (mem_allLanes l)))

theorem le_heldFor_of_entry {e : RecoveryEntry} (member : e ∈ s.recovery) : e.riders ≤ s.heldFor e.berth := by
  refine Nat.le_add_left_of_le (le_trans ?_
    (List.single_le_sum (fun _ _ => Nat.zero_le _) _ (List.mem_map_of_mem (f := (·.ridersAt e.berth)) member)))
  exact (if_pos rfl).ge

theorem le_creditsFor (s : State) (l : LaneId) (b : BerthId) : (s.lane l).creditsAt b ≤ s.creditsFor b :=
  List.single_le_sum (fun _ _ => Nat.zero_le _) _ (List.mem_map_of_mem (mem_allLanes l))

theorem reservationsHeld_of_lane (reserves : (s.lane l).txn.reserves = true) : 1 ≤ s.reservationsHeld :=
  Nat.le_add_right_of_le (List.countP_pos_iff.mpr ⟨l, mem_allLanes l, reserves⟩)

theorem reservationsHeld_of_entry {e : RecoveryEntry} (member : e ∈ s.recovery) (reserves : e.reservation = true) :
    1 ≤ s.reservationsHeld :=
  Nat.le_add_left_of_le (List.countP_pos_iff.mpr ⟨e, member, reserves⟩)

/-! ### Changes that are no part of the laws -/

/-- A change of what the laws of admission do not speak of. -/
theorem of_same (sound : s.Sound d p) (lanes : ∀ l, t.lane l = s.lane l := by exact fun _ => rfl)
    (berths : ∀ b, t.berth b = s.berth b := by exact fun _ => rfl) (release : t.releaseActive = s.releaseActive := by rfl)
    (engine : t.engine = s.engine := by rfl) (recovery : t.recovery = s.recovery := by rfl)
    (reservations : t.journal.reservations = s.journal.reservations := by rfl)
    (records : t.journal.records.length ≤ s.journal.records.length := by exact le_rfl) (bankA : t.bankA = s.bankA := by rfl)
    (bankB : t.bankB = s.bankB := by rfl) : t.Sound d p where
  balance := by
    have owned : t.owned = s.owned := by simp only [State.owned, lanes, recovery]
    rw [← sound.balance, State.balance, State.balance, owned,
      entered_of_same (fun b => by rw [berths]; exact ⟨rfl, rfl⟩) reservations]
  berth b := by
    rw [berths]
    exact sound.berth b
  lane l := by
    rw [lanes, release]
    exact sound.lane l
  engine l := by
    rw [lanes, engine]
    exact sound.engine l
  recovery := by
    rw [release, recovery]
    exact sound.recovery
  occupancy := by
    have before := sound.occupancy
    rw [Journal.occupancy] at before ⊢
    omega
  fields := by
    rw [bankA, bankB]
    exact sound.fields

theorem raise (sound : s.Sound d p) (x : NoticeFlag) : (s.raise x).Sound d p := sound.of_same

theorem raiseIf (sound : s.Sound d p) (c : Bool) (x : NoticeFlag) : (s.raiseIf c x).Sound d p := by
  cases c
  · exact sound
  · exact sound.raise x

theorem notify (sound : s.Sound d p) (before : Half) : (s.notify before).Sound d p := by
  rw [notify_eq_noticed]
  exact sound.of_same

/-! ### Lanes -/

/-- A change of one lane. -/
theorem onLane (sound : s.Sound d p) {f : Lane → Lane} (lawful : (f (s.lane l)).Law s.releaseActive (p.parts l))
    (eased : (s.lane l).Eased (f (s.lane l))) :
    (s.onLane l f).Sound (d + (s.lane l).books - (f (s.lane l)).books) p where
  balance := by rw [balance_onLane, sound.balance]
  berth := sound.berth
  lane m := by
    rw [lane_onLane]
    split_ifs with same
    · subst same
      exact lawful
    · exact sound.lane m
  engine m := by
    rw [lane_onLane]
    split_ifs with same
    · subst same
      exact (sound.engine _).eased eased
    · exact sound.engine m
  recovery := sound.recovery
  occupancy := sound.occupancy
  fields := sound.fields

end Sound
end State
end Sys2Proof.Machine
end

section
/-! The reasoning rules of the laws of admission: one for each operation on a lane, a berth, the Journal and the recovery
list. -/

namespace Sys2Proof.Machine

/-- A change of a lane that leaves alone what the laws of admission speak of. -/
structure Lane.Aside (x y : Lane) : Prop where
  mode : y.mode = x.mode := by rfl
  txn : y.txn = x.txn := by rfl
  leaf : y.leaf = x.leaf := by rfl
  holdTimer : y.holdTimer = x.holdTimer := by rfl
  status : y.status = x.status := by rfl
  savedMode : y.savedMode = x.savedMode := by rfl

theorem Lane.Aside.credits {x y : Lane} (aside : x.Aside y) : y.credits = x.credits := congrArg Leaf.credits aside.leaf

theorem Lane.Aside.law {x y : Lane} (aside : x.Aside y) {release parts : Bool} (law : x.Law release parts) :
    y.Law release parts where
  txn := by
    have kept := law.txn
    simp only [Lane.txnLawful] at kept ⊢
    simpa only [aside.mode, aside.txn, aside.credits] using kept
  leaf n opened := by
    rw [aside.mode]
    exact law.leaf n (aside.leaf.symm.trans opened)
  timer := by
    rw [aside.holdTimer, aside.credits]
    exact law.timer
  online := by
    rw [aside.status, aside.txn, aside.credits]
    exact law.online
  saved active := by
    rw [aside.savedMode, aside.mode]
    exact law.saved active

theorem Lane.Aside.eased {x y : Lane} (aside : x.Aside y) : x.Eased y :=
  ⟨.inl ⟨aside.txn, fun _ => ⟨aside.mode, aside.credits.le⟩⟩⟩

namespace State
namespace Sound

variable {s t : State} {d : Books} {p : Phase} {l : LaneId} {b : BerthId}

/-! ### The slots, the gate orders and the counters of a lane -/

theorem onLane_aside (sound : s.Sound d p) {f : Lane → Lane} (aside : (s.lane l).Aside (f (s.lane l))) :
    (s.onLane l f).Sound d p :=
  (sound.onLane (aside.law (sound.lane l)) aside.eased).cast (by
    rw [Lane.books_congr aside.txn aside.mode aside.credits, add_sub_cancel_right])

/-- A change of one lane that leaves what it owns. -/
theorem onLane_balanced (sound : s.Sound d p) {f : Lane → Lane} (lawful : (f (s.lane l)).Law s.releaseActive (p.parts l))
    (eased : (s.lane l).Eased (f (s.lane l))) (same : (f (s.lane l)).books = (s.lane l).books) : (s.onLane l f).Sound d p :=
  (sound.onLane lawful eased).cast (by rw [same, add_sub_cancel_right])

theorem onLink (sound : s.Sound d p) (l : LaneId) (f : Link → Link) : (s.onLink l f).Sound d p :=
  sound.onLane_aside (f := fun x => { x with link := f x.link }) {}

theorem askGate (sound : s.Sound d p) (l : LaneId) : (s.askGate l).Sound d p := by
  unfold State.askGate
  split
  · exact sound.onLane_aside {}
  · exact sound

theorem askShow (sound : s.Sound d p) (l : LaneId) (code : DisplayCode) : (s.askShow l code).Sound d p := by
  unfold State.askShow
  split
  · exact sound.onLane_aside {}
  · exact sound

theorem askCardWrite (sound : s.Sound d p) (l : LaneId) (card : CardNo) (image : NewImage) :
    (s.askCardWrite l card image).Sound d p := by
  unfold State.askCardWrite
  split
  · exact sound.onLane_aside {}
  · exact sound

theorem renewGate (sound : s.Sound d p) (l : LaneId) : (s.renewGate l).Sound d p :=
  Sound.askGate (s := s.setOrder l) (sound.onLane_aside {}) l

theorem reworkGate (sound : s.Sound d p) (l : LaneId) : (s.reworkGate l).Sound d p := by
  unfold State.reworkGate
  split
  · exact sound
  · exact sound.renewGate l

theorem showFreeExit (sound : s.Sound d p) (l : LaneId) : (s.showFreeExit l).Sound d p := by
  unfold State.showFreeExit
  split
  · exact sound.askShow l _
  · exact sound

theorem onCounters (sound : s.Sound d p) (l : LaneId) (f : LaneCounters → LaneCounters) : (s.onCounters l f).Sound d p :=
  sound.onLane_aside {}

/-! ### The berths -/

theorem onBerth (sound : s.Sound d p) {f : Berth → Berth} (law : (f (s.berth b)).Law) : (s.onBerth b f).Sound (d +
    heldBook b ((f (s.berth b)).counts.held - (s.berth b).counts.held) +
    grantedBook b ((f (s.berth b)).counts.granted - (s.berth b).counts.granted)) p where
  balance := by rw [balance_onBerth, sound.balance]
  berth c := by
    rw [berth_onBerth]
    split_ifs
    · exact law
    · exact sound.berth c
  lane := sound.lane
  engine := sound.engine
  recovery := sound.recovery
  occupancy := sound.occupancy
  fields := sound.fields

/-- A change of a berth that moves no place. -/
theorem onBerth_aside (sound : s.Sound d p) {f : Berth → Berth} (law : (f (s.berth b)).Law)
    (held : (f (s.berth b)).counts.held = (s.berth b).counts.held)
    (granted : (f (s.berth b)).counts.granted = (s.berth b).counts.granted) : (s.onBerth b f).Sound d p := by
  refine (sound.onBerth law).cast ?_
  rw [held, granted, Int.sub_self, Int.sub_self, heldBook_zero, grantedBook_zero, add_zero, add_zero]

/-- A change of a berth after which its state follows room (R106). -/
theorem atBerth (sound : s.Sound d p) {f : Berth → Berth} (law : (f (s.berth b)).Unfollowed) {held granted : Int}
    (moved : ((f (s.berth b)).counts.held : Int) = (s.berth b).counts.held + held)
    (given : ((f (s.berth b)).counts.granted : Int) = (s.berth b).counts.granted + granted) :
    (s.atBerth b f).Sound (d + heldBook b held + grantedBook b granted) p := by
  have followed := sound.onBerth (b := b) (f := fun _ => (f (s.berth b)).follow) law.law
  rw [(Berth.follow_frame _).1, moved, given, add_sub_cancel_left, add_sub_cancel_left] at followed
  exact followed.raiseIf _ _

/-- A change of a berth that moves no place, after which its state follows room. -/
theorem atBerth_aside (sound : s.Sound d p) {f : Berth → Berth} (law : (f (s.berth b)).Unfollowed)
    (held : (f (s.berth b)).counts.held = (s.berth b).counts.held)
    (granted : (f (s.berth b)).counts.granted = (s.berth b).counts.granted) : (s.atBerth b f).Sound d p := by
  refine (sound.atBerth law (held := 0) (granted := 0) (by rw [held, add_zero]) (by rw [granted, add_zero])).cast ?_
  rw [heldBook_zero, grantedBook_zero, add_zero, add_zero]

end Sound
end State

namespace Berth

variable {y : Berth}

/-- Counts changed at a berth that has a vessel. -/
theorem Law.onCounts (law : y.Law) {f : Counts → Counts} (fits : (f y.counts).committed ≤ y.effective)
    (busy : y.state ≠ .idle) (moored : y.state = .alongside → (f y.counts).held = 0 ∧ (f y.counts).granted = 0) :
    (y.onCounts f).Unfollowed :=
  ⟨fits, fun idle => absurd idle busy, law.unfollowed.2.2.1, moored⟩

theorem Law.zero_of_idle (law : y.Law) (idle : y.state = .idle) : y.counts = Counts.zero := (law.unfollowed.2.1 idle).2.2

/-- A berth that holds N places takes passengers and has the room, whether or not its reserve counts (R112). -/
theorem room_of_held {n : Nat} {priority : Bool} (held : y.holdRefusal n priority = none) :
    y.state.takesPassengers = true ∧ (n : Int) ≤ y.room := by
  unfold holdRefusal at held
  split_ifs at held with closed staff halted reserved full
  · exact ⟨by simpa using closed, not_lt.mp full⟩
  · next full => exact ⟨by simpa using closed, by omega⟩

theorem Law.none_of_alongside (law : y.Law) (alongside : y.state = .alongside) :
    y.counts.held = 0 ∧ y.counts.granted = 0 := law.unfollowed.2.2.2 alongside

end Berth

namespace State
namespace Sound

variable {s t : State} {d : Books} {p : Phase} {l : LaneId} {b : BerthId}

/-- A count request of a berth, which IDLE does not apply (R111, log 15). -/
theorem countRequest (sound : s.Sound d p) {f : Berth → Berth} {held granted : Int}
    (busy : (s.berth b).state ≠ .idle → (f (s.berth b)).Unfollowed ∧
      ((f (s.berth b)).counts.held : Int) = (s.berth b).counts.held + held ∧
      ((f (s.berth b)).counts.granted : Int) = (s.berth b).counts.granted + granted)
    (idle : (s.berth b).counts = Counts.zero → held = 0 ∧ granted = 0) :
    (s.atBerth b fun y => if y.state = .idle then y else f y).Sound (d + heldBook b held + grantedBook b granted) p := by
  have law := sound.berth b
  by_cases state : (s.berth b).state = .idle
  · obtain ⟨rfl, rfl⟩ := idle (law.zero_of_idle state)
    refine sound.atBerth ?_ ?_ ?_
    · rw [if_pos state]
      exact law.unfollowed
    · rw [if_pos state, add_zero]
    · rw [if_pos state, add_zero]
  · obtain ⟨whole, moved, given⟩ := busy state
    refine sound.atBerth ?_ ?_ ?_
    · rw [if_neg state]
      exact whole
    · rw [if_neg state]
      exact moved
    · rw [if_neg state]
      exact given

/-- A count request that moves no place. -/
theorem countRequest_aside (sound : s.Sound d p) {f : Berth → Berth}
    (busy : (s.berth b).state ≠ .idle → (f (s.berth b)).Unfollowed ∧
      (f (s.berth b)).counts.held = (s.berth b).counts.held ∧ (f (s.berth b)).counts.granted = (s.berth b).counts.granted) :
    (s.atBerth b fun y => if y.state = .idle then y else f y).Sound d p := by
  refine (sound.countRequest (held := 0) (granted := 0) (fun state => ?_) fun _ => ⟨rfl, rfl⟩).cast ?_
  · obtain ⟨whole, held, granted⟩ := busy state
    exact ⟨whole, by rw [held, add_zero], by rw [granted, add_zero]⟩
  · rw [heldBook_zero, grantedBook_zero, add_zero, add_zero]

theorem release (sound : s.Sound d p) {n : Nat} (held : n ≤ (s.berth b).counts.held) :
    (s.release b n).Sound (d - heldBook b n) p := by
  have law := sound.berth b
  have fits := law.2
  refine (sound.countRequest (f := fun y => y.onCounts _) (held := -n) (granted := 0) (fun state => ⟨law.onCounts ?_ state
    fun alongside => ?_, ?_, (add_zero _).symm⟩) fun zero => ?_).cast ?_
  · simp only [Counts.committed] at fits ⊢
    omega
  · obtain ⟨none_held, none_granted⟩ := law.none_of_alongside alongside
    exact ⟨by simp only [none_held, Nat.zero_sub], none_granted⟩
  · exact (Nat.cast_sub held).trans Int.sub_eq_add_neg
  · rw [zero] at held
    exact ⟨by rw [Nat.le_zero.mp held]; rfl, rfl⟩
  · rw [grantedBook_zero, add_zero, heldBook_neg, sub_eq_add_neg]

theorem convert (sound : s.Sound d p) {n : Nat} (held : n ≤ (s.berth b).counts.held) (charge : Nat) :
    (s.convert b n charge).Sound (d - heldBook b n + grantedBook b n) p := by
  have law := sound.berth b
  have fits := law.2
  have counted (busy : (s.berth b).state ≠ .idle) : ((s.berth b).onCounts fun c => { c with
      held := c.held - n, granted := c.granted + n, admissions := saturate top16 c.admissions 1
      revenue := saturate top32 c.revenue charge }).Unfollowed := by
    refine law.onCounts ?_ busy fun alongside => ?_
    · simp only [Counts.committed] at fits ⊢
      omega
    · obtain ⟨none_held, none_granted⟩ := law.none_of_alongside alongside
      dsimp only
      omega
  refine (sound.countRequest (held := -n) (granted := n) (fun state => ⟨?_, ?_, ?_⟩) fun zero => ?_).cast ?_
  · dsimp only
    split_ifs
    · exact counted state
    · exact counted state
  · refine Eq.trans ?_ ((Nat.cast_sub held).trans Int.sub_eq_add_neg)
    dsimp only
    split_ifs <;> rfl
  · refine Eq.trans ?_ (Nat.cast_add _ n)
    dsimp only
    split_ifs <;> rfl
  · rw [zero] at held
    rw [Nat.le_zero.mp held]
    exact ⟨rfl, rfl⟩
  · rw [heldBook_neg, sub_eq_add_neg]

/-- Places held where the berth has room for them (R112). -/
theorem hold (sound : s.Sound d p) {n : Nat} {priority : Bool} (room : (s.berth b).holdRefusal n priority = none) :
    (s.hold b n).Sound (d + heldBook b n) p := by
  have law := sound.berth b
  have fits := law.2
  obtain ⟨takes, enough⟩ := Berth.room_of_held room
  refine (sound.atBerth (f := fun y => y.onCounts _) (held := n) (granted := 0) (law.onCounts ?_ ?_ ?_)
    (Nat.cast_add _ n) (add_zero _).symm).cast ?_
  · simp only [Berth.room, Counts.committed] at fits enough ⊢
    omega
  · rintro idle
    rw [idle] at takes
    cases takes
  · rintro alongside
    rw [alongside] at takes
    cases takes
  · rw [grantedBook_zero, add_zero]

theorem pass (sound : s.Sound d p) (granted : 1 ≤ (s.berth b).counts.granted) :
    (s.pass b).Sound (d - grantedBook b 1) p := by
  have law := sound.berth b
  have fits := law.2
  refine (sound.countRequest (f := fun y => y.onCounts _) (held := 0) (granted := -1) (fun state => ⟨law.onCounts ?_ state
    fun alongside => ?_, (add_zero _).symm, ?_⟩) fun zero => ?_).cast ?_
  · simp only [Counts.committed] at fits ⊢
    omega
  · exact absurd (law.none_of_alongside alongside).2 (Nat.ne_of_gt granted)
  · exact (Nat.cast_sub granted).trans Int.sub_eq_add_neg
  · rw [zero] at granted
    cases granted
  · rw [heldBook_zero, add_zero, grantedBook_neg, sub_eq_add_neg]

theorem reverse (sound : s.Sound d p) (b : BerthId) : (s.reverse b).Sound d p := by
  have law := sound.berth b
  have fits := law.2
  refine sound.countRequest_aside (f := fun y => y.onCounts _) fun state => ⟨law.onCounts ?_ state
    law.none_of_alongside, rfl, rfl⟩
  simp only [Counts.committed] at fits ⊢
  omega

theorem unpaid (sound : s.Sound d p) (b : BerthId) : (s.unpaid b).Sound d p := by
  have law := sound.berth b
  exact sound.countRequest_aside (f := fun y => y.onCounts _) fun state => ⟨law.onCounts law.2 state
    law.none_of_alongside, rfl, rfl⟩

theorem tally (sound : s.Sound d p) (b : BerthId) : (s.tally b).Sound d p := by
  have law := sound.berth b
  unfold State.tally
  by_cases counts : ((s.berth b).source == .tally && (s.berth b).state.takesPassengers) = true
  · have takes := (Bool.and_eq_true_iff.mp counts).2
    refine sound.atBerth_aside ?_ ?_ ?_
    · rw [if_pos counts]
      refine law.onCounts law.2 ?_ law.none_of_alongside
      rintro idle
      rw [idle] at takes
      cases takes
    · rw [if_pos counts]
      rfl
    · rw [if_pos counts]
      rfl
  · refine sound.atBerth_aside ?_ ?_ ?_
    · rw [if_neg counts]
      exact law.unfollowed
    · rw [if_neg counts]
    · rw [if_neg counts]

theorem countHoldRefusal (sound : s.Sound d p) (b : BerthId) : (s.countHoldRefusal b).Sound d p := by
  have law := sound.berth b
  unfold State.countHoldRefusal
  by_cases idle : (s.berth b).state = .idle
  · refine sound.onBerth_aside ?_ ?_ ?_
    · rw [if_pos idle]
      exact law
    · rw [if_pos idle]
    · rw [if_pos idle]
  · refine sound.onBerth_aside ?_ ?_ ?_
    · rw [if_neg idle]
      refine ⟨Eq.trans ?_ law.1, law.2⟩
      unfold Berth.lawful
      cases state : (s.berth b).state with
      | idle => exact absurd state idle
      | boarding | full =>
        simp only [Berth.onCounts, state]
        rfl
      | alongside | closed => simp only [Berth.onCounts, state]
    · rw [if_neg idle]
      rfl
    · rw [if_neg idle]
      rfl

theorem forfeitPlaces (sound : s.Sound d p) {n : Nat} (granted : n ≤ (s.berth b).counts.granted) :
    (s.forfeitPlaces b n).Sound (d - grantedBook b n) p := by
  have law := sound.berth b
  have fits := law.2
  unfold State.forfeitPlaces
  by_cases state : (s.berth b).state = .idle ∨ (s.berth b).state = .alongside
  · have none_granted : n = 0 := by
      have zero : (s.berth b).counts.granted = 0 := state.elim (fun idle => by rw [law.zero_of_idle idle]; rfl) fun alongside =>
        (law.none_of_alongside alongside).2
      omega
    refine (sound.atBerth_aside ?_ ?_ ?_).cast ?_
    · rw [if_pos state]
      exact law.unfollowed
    · rw [if_pos state]
    · rw [if_pos state]
    · rw [none_granted, Nat.cast_zero, grantedBook_zero, sub_zero]
  · obtain ⟨busy, open_⟩ := not_or.mp state
    refine (sound.atBerth (held := 0) (granted := -n) ?_ ?_ ?_).cast ?_
    · rw [if_neg state]
      refine law.onCounts ?_ busy fun alongside => absurd alongside open_
      simp only [Counts.committed] at fits ⊢
      omega
    · rw [if_neg state]
      exact (add_zero _).symm
    · rw [if_neg state]
      exact (Nat.cast_sub granted).trans Int.sub_eq_add_neg
    · rw [heldBook_zero, add_zero, grantedBook_neg, sub_eq_add_neg]

/-! ### The Journal (R144, R147) -/

theorem balance_of_journal (lanes : t.lanes = s.lanes) (berths : t.berths = s.berths) (recovery : t.recovery = s.recovery) :
    t.balance = s.balance + (0, 0, (t.journal.reservations : Int) - s.journal.reservations) := by
  have owned : t.owned = s.owned := by simp only [State.owned, lane_congr lanes, recovery]
  rw [State.balance, State.balance, owned, entered, entered]
  simp only [berth_congr berths]
  ext <;> simp

/-- A record, of which a reserved one has its slot (R144). -/
theorem record (sound : s.Sound d p) {reserved : Bool} (slot : reserved = true → 1 ≤ s.journal.reservations) (draft : Draft) :
    (s.record reserved draft).Sound (d - reservedBook reserved) p := by
  have before := sound.occupancy
  have reservations : ((s.record reserved draft).journal.reservations : Int) =
      s.journal.reservations - if reserved then 1 else 0 := by
    rw [record_eq]
    cases reserved with
    | true => exact Nat.cast_sub (slot rfl)
    | false =>
      unfold Journal.recorded
      split_ifs <;> simp_all [Journal.stored]
  have after : (s.record reserved draft).journal.occupancy ≤ 2048 := by
    rw [record_eq]
    rw [Journal.occupancy] at before ⊢
    unfold Journal.recorded
    split_ifs with own room
    · have some_reserved := slot own
      simp only [Journal.stored, List.length_append, List.length_singleton]
      omega
    · rw [Journal.occupancy] at room
      simp only [Journal.stored, List.length_append, List.length_singleton]
      omega
    · exact before
  refine ⟨?_, fun b => ?_, fun l => ?_, fun l => ?_, ?_, after, ?_⟩
  · have changed := balance_of_journal (s := s) (t := s.record reserved draft) (by rw [record_shape]) (by rw [record_shape])
      (by rw [record_shape])
    rw [changed, sound.balance, reservations, reservedBook]
    ext <;> simp
    omega
  · rw [berth_record]
    exact sound.berth b
  · rw [lane_record, record_shape]
    exact sound.lane l
  · rw [lane_record, record_engine]
    exact sound.engine l
  · rw [record_shape]
    exact sound.recovery
  · rw [record_shape]
    exact sound.fields

theorem record_free (sound : s.Sound d p) (draft : Draft) : (s.record false draft).Sound d p :=
  (sound.record (reserved := false) (fun own => by cases own) draft).cast (by rw [reservedBook_false, sub_zero])

theorem reserve (sound : s.Sound d p) (room : s.journal.occupancy < 2048) : s.reserve.Sound (d + reservedBook true) p := by
  have changed := balance_of_journal (s := s) (t := s.reserve) (by rw [reserve_shape]) (by rw [reserve_shape])
    (by rw [reserve_shape])
  have taken : (s.reserve.journal.reservations : Int) = s.journal.reservations + 1 := by
    rw [reserve_eq]
    rfl
  rw [sound.balance, taken, add_sub_cancel_left] at changed
  rw [reserve_eq] at changed ⊢
  refine ⟨changed, sound.berth, sound.lane, sound.engine, sound.recovery, ?_, sound.fields⟩
  rw [Journal.occupancy] at room ⊢
  dsimp only
  omega

/-! ### The recovery list (R91) -/

theorem removeEntry (sound : s.Sound d p) {e : RecoveryEntry} (member : e ∈ s.recovery) :
    (s.removeEntry e.card).Sound (d + e.books) p := by
  obtain ⟨few, distinct, riders, release⟩ := sound.recovery
  refine ⟨?_, sound.berth, sound.lane, sound.engine, ⟨?_, ?_, fun x listed => riders x (List.mem_of_mem_eraseP listed), ?_⟩,
    sound.occupancy, sound.fields⟩
  · rw [State.balance, State.removeEntry, owned_recovery, sum_eraseP distinct member, ← sound.balance, State.balance]
    rw [show State.entered { s with recovery := s.recovery.eraseP (·.card == e.card) } = s.entered from rfl]
    abel
  · exact List.eraseP_sublist.length_le.trans few
  · exact distinct.sublist (List.eraseP_sublist.map _)
  · intro active
    rw [release active] at member
    cases member

theorem appendEntry (sound : s.Sound d p) {e : RecoveryEntry} (room : s.recovery.length < 8)
    (fresh : e.card ∉ s.recovery.map (·.card)) (riders : 1 ≤ e.riders) (outside : s.releaseActive = false) :
    ({ s with recovery := s.recovery ++ [e] } : State).Sound (d - e.books) p := by
  obtain ⟨few, distinct, all_riders, -⟩ := sound.recovery
  refine ⟨?_, sound.berth, sound.lane, sound.engine, ⟨?_, ?_, fun x listed => ?_, ?_⟩, sound.occupancy, sound.fields⟩
  · rw [State.balance, owned_recovery, List.map_append, List.sum_append, List.map_singleton, List.sum_singleton,
      ← sound.balance, State.balance, show State.entered { s with recovery := s.recovery ++ [e] } = s.entered from rfl]
    abel
  · rw [List.length_append, List.length_singleton]
    omega
  · rw [List.map_append, List.map_singleton, List.nodup_append_comm]
    exact List.nodup_cons.mpr ⟨fresh, distinct⟩
  · obtain old | new := List.mem_append.mp listed
    · exact all_riders x old
    · rw [List.mem_singleton.mp new]
      exact riders
  · intro active
    cases outside.symm.trans active

end Sound
end State
end Sys2Proof.Machine
end

section
/-! The lane units under the laws of admission: how a transaction ends, how credits come and go. -/

namespace Sys2Proof.Machine

/-! ### What the law of a lane says of its transaction and its credits -/

namespace Lane

variable {x : Lane} {release parts : Bool} {image : CardImage} {w : CardWrite}

theorem exists_of_berth? {m : Mode} (h : m.berth?.isSome = true) : ∃ b, m = .entry b := by
  cases m with
  | entry b => exact ⟨b, rfl⟩
  | _ => cases h

theorem Law.of_credits (law : x.Law release parts) (credits : x.credits ≠ 0) :
    ∃ b, x.mode = .entry b ∧ release = false ∧ x.credits ≤ 15 := by
  obtain ⟨-, most, entry, outside⟩ := law.leaf _ (leaf_of_credits credits)
  obtain ⟨b, mode⟩ := exists_of_berth? entry
  exact ⟨b, mode, outside, most⟩

theorem Law.of_writing (law : x.Law release parts) (writing : x.txn = .writing image w) :
    (∃ b, x.mode = .entry b) ∧ 1 ≤ w.riders ∧
      (w.orphaned = false → x.mode = .entry w.berth ∧ release = false ∧ x.credits + w.riders ≤ 15) := by
  have txn := law.txn
  simp only [txnLawful, writing, Bool.and_eq_true, Bool.or_eq_true, decide_eq_true_eq, beq_iff_eq, Bool.not_eq_true'] at txn
  obtain ⟨⟨entry, riders⟩, live⟩ := txn
  refine ⟨exists_of_berth? entry, riders, fun here => ?_⟩
  obtain ⟨⟨mode, outside⟩, room⟩ := live.resolve_left (by rw [here]; decide)
  exact ⟨mode, outside, room⟩

theorem Law.of_undecided (law : x.Law release parts) (undecided : x.txn.isUndecided = true) :
    (∃ b, x.mode = .entry b) ∧ release = false := by
  have txn := law.txn
  cases at_lane : x.txn with
  | waiting image | validating image =>
    simp only [txnLawful, at_lane, Bool.and_eq_true, Bool.not_eq_true'] at txn
    exact ⟨exists_of_berth? txn.1, txn.2⟩
  | none | writing image w =>
    rw [at_lane] at undecided
    cases undecided

/-- A lane with work is ONLINE. -/
theorem Law.online_of_work (law : x.Law release false) (work : x.txn ≠ .none ∨ x.credits ≠ 0) : x.status = .online := by
  obtain parts | online | ⟨idle, none_left⟩ := law.online
  · cases parts
  · exact online
  · exact (work.elim (absurd idle) (absurd none_left))

theorem Law.txn_ended (law : x.Law release parts) : ({ x with txn := .none } : Lane).Law release parts :=
  ⟨rfl, law.leaf, law.timer, law.online.imp_right (.imp_right fun ⟨_, none_left⟩ => ⟨rfl, none_left⟩), law.saved⟩

theorem books_of_idle (idle : x.txn = .none) : x.books = x.creditBook := by
  rw [books, idle]
  exact zero_add _

theorem books_txn_ended (x : Lane) : ({ x with txn := .none } : Lane).books = x.books - x.txn.books := by
  rw [books_of_idle rfl, books, add_sub_cancel_left]
  rfl

theorem ridersAt_of_live (writing : x.txn = .writing image w) (live : w.orphaned = false) :
    x.txn.ridersAt w.berth = w.riders := by
  rw [writing]
  exact if_pos ⟨rfl, live⟩

theorem reserves_of_writing (writing : x.txn = .writing image w) : x.txn.reserves = w.reservation := by
  rw [writing]
  rfl

end Lane

namespace State

/-! ### The lanes behind operations on berths and entries -/

section Frames

variable (s : State)

theorem lane_atBerth (b : BerthId) (f : Berth → Berth) (l : LaneId) : (s.atBerth b f).lane l = s.lane l := by
  rw [atBerth_shape]
  rfl

theorem lane_closeEntry (release : Bool) (e : RecoveryEntry) (l : LaneId) : (s.closeEntry release e).lane l = s.lane l := by
  rw [closeEntry_shape]
  rfl

theorem makeWay_cases (card : CardNo) : (s.makeWay card = s ∧ s.entryFor card = none ∧ s.recovery.length < 8) ∨
    ∃ e ∈ s.recovery, s.makeWay card = s.closeEntry false e ∧ (e.card = card ∨ s.entryFor card = none) := by
  unfold makeWay
  split
  · next e found =>
    exact .inr ⟨e, List.mem_of_find?_eq_some found, rfl, .inl (by simpa using List.find?_some found)⟩
  · next none =>
    split_ifs with full
    · split
      · next e first =>
        exact .inr ⟨e, List.mem_of_head? first, rfl, .inr none⟩
      · next empty =>
        rw [List.head?_eq_none_iff] at empty
        rw [empty] at full
        cases full
    · exact .inl ⟨rfl, none, Nat.lt_of_not_le full⟩

theorem lane_makeWay (card : CardNo) (l : LaneId) : (s.makeWay card).lane l = s.lane l := by
  obtain ⟨same, -⟩ | ⟨e, -, closed, -⟩ := s.makeWay_cases card
  · rw [same]
  · rw [closed, lane_closeEntry]

end Frames

namespace Sound

variable {s t : State} {d : Books} {p : Phase} {l : LaneId} {b : BerthId} {image : CardImage} {w : CardWrite}

/-! ### The end of a transaction -/

theorem parting (sound : s.Sound d .midway) (l : LaneId) : s.Sound d (.parting l) :=
  ⟨sound.balance, sound.berth,
    fun m => ⟨(sound.lane m).txn, (sound.lane m).leaf, (sound.lane m).timer,
      (sound.lane m).online.imp_left fun parts => (by cases parts), (sound.lane m).saved⟩,
    fun m => ⟨nofun, fun _ => (sound.engine m).inFlight nofun, (sound.engine m).owned, nofun⟩,
    sound.recovery, sound.occupancy, sound.fields⟩

/-- A write that ends (R86, R87, R89). -/
theorem endTransaction (sound : s.Sound d p) (decided : (s.lane l).txn.isUndecided = false) :
    (s.endTransaction l).Sound (d + (s.lane l).txn.books) p := by
  refine (sound.onLane (f := fun x => { x with txn := .none }) (sound.lane l).txn_ended ⟨.inr ⟨decided, rfl⟩⟩).cast ?_
  rw [Lane.books_txn_ended]
  abel

/-- A decision's transaction ends before the engine is freed (R57). -/
theorem leaves (sound : s.Sound d .midway) (l : LaneId) :
    (s.endTransaction l).Sound (d + (s.lane l).txn.books) (.ended l) where
  balance := by
    rw [State.endTransaction, balance_onLane, sound.balance, Lane.books_txn_ended]
    abel
  berth := sound.berth
  lane m := by
    rw [State.endTransaction, lane_onLane]
    split_ifs with same
    · exact (sound.lane l).txn_ended
    · exact sound.lane m
  engine m := by
    rw [State.endTransaction, lane_onLane]
    split_ifs with same
    · subst same
      exact ⟨fun _ => rfl, fun flying => absurd rfl flying, nofun, nofun⟩
    · refine ⟨fun ended => ?_, fun _ => (sound.engine m).inFlight nofun, (sound.engine m).owned, nofun⟩
      cases ended
      exact absurd rfl same
  recovery := sound.recovery
  occupancy := sound.occupancy
  fields := sound.fields

/-- The engine is freed once its lane's transaction has ended (R57). -/
theorem freed (sound : s.Sound d (.ended l)) (own : ∀ v, s.engine = some v → v.lane = l) :
    ({ s with engine := none } : State).Sound d .midway where
  balance := sound.balance
  berth := sound.berth
  lane := sound.lane
  engine m := by
    refine ⟨nofun, fun _ v busy => (by cases busy), fun image validating => ?_, nofun⟩
    obtain ⟨v, busy, of_m⟩ := (sound.engine m).owned image validating
    have ended := (sound.engine m).ended (by rw [← of_m, own v busy])
    have undecided : (s.lane m).txn.isUndecided = true := Lane.isUndecided_of_validating validating
    cases ended.symm.trans undecided
  recovery := sound.recovery
  occupancy := sound.occupancy
  fields := sound.fields

theorem abandon_cases (s : State) (l : LaneId) : (s.abandon l = s ∧ ∀ v, s.engine = some v → v.lane ≠ l) ∨
    (s.abandon l = { s with engine := none } ∧ ∃ v, s.engine = some v ∧ v.lane = l) := by
  unfold abandon
  split
  · next v busy =>
    split_ifs with own
    · exact .inr ⟨rfl, v, busy, own⟩
    · refine .inl ⟨rfl, fun w other => ?_⟩
      cases busy.symm.trans other
      exact own
  · next idle => exact .inl ⟨rfl, fun v busy => by cases idle.symm.trans busy⟩

/-- A transaction that ends with its validation abandoned, if it is at the engine (R38, R58). -/
theorem drops (sound : s.Sound d (.parting l)) :
    ((s.endTransaction l).abandon l).Sound (d + (s.lane l).txn.books) (.parting l) := by
  have ended : (s.endTransaction l).balance = d + (s.lane l).txn.books := by
    rw [State.endTransaction, balance_onLane, sound.balance, Lane.books_txn_ended]
    abel
  have lanes (m : LaneId) : ((s.endTransaction l).lane m).Law s.releaseActive (Phase.parts (.parting l) m) := by
    rw [State.endTransaction, lane_onLane]
    split_ifs with same
    · subst same
      exact (sound.lane _).txn_ended
    · exact sound.lane m
  have idle : ((s.endTransaction l).lane l).txn = .none := by rw [State.endTransaction, lane_onLane_self]
  have other {m : LaneId} (differs : m ≠ l) : (s.endTransaction l).lane m = s.lane m := lane_onLane_of_ne s differs _
  obtain ⟨same, foreign⟩ | ⟨dropped, v, busy, own⟩ := abandon_cases (s.endTransaction l) l
  · rw [same]
    refine ⟨ended, sound.berth, lanes, fun m => ?_, sound.recovery, sound.occupancy, sound.fields⟩
    by_cases differs : m = l
    · subst differs
      refine ⟨nofun, fun _ v busy own => absurd own (foreign v busy), fun image validating => ?_, nofun⟩
      cases idle.symm.trans validating
    · rw [other differs]
      exact sound.engine m
  · rw [dropped]
    refine ⟨ended, sound.berth, lanes, fun m => ⟨nofun, fun _ v busy => (by cases busy), fun image validating => ?_, nofun⟩,
      sound.recovery, sound.occupancy, sound.fields⟩
    by_cases differs : m = l
    · subst differs
      cases idle.symm.trans validating
    · obtain ⟨u, held, of_m⟩ := (sound.engine m).owned image ((congrArg Lane.txn (other differs)).symm.trans validating)
      cases (show s.engine = some v from busy).symm.trans held
      exact absurd (of_m.symm.trans own) differs

/-! ### Entries closed and handed over (R92 to R95) -/

theorem closeEntry (sound : s.Sound 0 p) {e : RecoveryEntry} (member : e ∈ s.recovery) (release : Bool) :
    (s.closeEntry release e).Sound 0 p := by
  have places := sound.held_eq e.berth
  have riders := le_heldFor_of_entry member
  have held : e.riders ≤ (s.berth e.berth).counts.held := by
    simp only [Prod.fst_zero, Pi.zero_apply, zero_add, Nat.cast_inj] at places
    exact riders.trans places.ge
  have slot (reserves : e.reservation = true) : 1 ≤ (s.release e.berth e.riders).journal.reservations := by
    have taken := sound.reserved_eq
    have owned := reservationsHeld_of_entry member reserves
    simp only [Prod.snd_zero, zero_add, Nat.cast_inj] at taken
    rw [State.release, atBerth_shape]
    exact owned.trans taken.ge
  have listed : e ∈ (((s.release e.berth e.riders).record e.reservation (entryDraft .unresolved e.lane release e)).raise
      .recoveryUnresolved).recovery := by
    rw [raise_recovery, record_shape, State.release, atBerth_shape]
    exact member
  refine ((((sound.release held).record slot _).raise _).removeEntry listed).cast ?_
  rw [RecoveryEntry.books]
  abel

theorem entryFor_closeEntry (s : State) (release : Bool) {e : RecoveryEntry} {card : CardNo}
    (distinct : (s.recovery.map (·.card)).Nodup) (own : e.card = card ∨ s.entryFor card = none) :
    card ∉ (s.closeEntry release e).recovery.map (·.card) := by
  rw [closeEntry_shape]
  intro listed
  obtain ⟨x, member, same⟩ := List.mem_map.mp listed
  obtain rfl | absent := own
  · have apart : ∀ es : List RecoveryEntry, (es.map (·.card)).Nodup → x ∉ es.eraseP (·.card == e.card) := by
      intro es
      induction es with
      | nil => exact fun _ => nofun
      | cons y ys ih =>
        intro distinct
        rw [List.map_cons, List.nodup_cons] at distinct
        by_cases here : y.card = e.card
        · rw [List.eraseP_cons_of_pos (by simpa using here)]
          exact fun later => distinct.1 (here.trans same.symm ▸ List.mem_map_of_mem later)
        · rw [List.eraseP_cons_of_neg (by simpa using here)]
          intro later
          obtain rfl | later := List.mem_cons.mp later
          · exact here same
          · exact ih distinct.2 later
    exact apart _ distinct member
  · exact List.find?_eq_none.mp absent x (List.mem_of_mem_eraseP member) (by simpa using same)

/-- Room for a new entry (R94, R95). -/
theorem makeWay (sound : s.Sound 0 p) (card : CardNo) : (s.makeWay card).Sound 0 p ∧
    (s.makeWay card).recovery.length < 8 ∧ card ∉ (s.makeWay card).recovery.map (·.card) ∧
    (s.makeWay card).releaseActive = s.releaseActive := by
  obtain ⟨few, distinct, -, -⟩ := sound.recovery
  obtain ⟨same, absent, room⟩ | ⟨e, member, closed, own⟩ := s.makeWay_cases card
  · rw [same]
    refine ⟨sound, room, fun listed => ?_, rfl⟩
    obtain ⟨x, member, here⟩ := List.mem_map.mp listed
    exact List.find?_eq_none.mp absent x member (by simpa using here)
  · rw [closed]
    refine ⟨sound.closeEntry member false, ?_, entryFor_closeEntry s false distinct own, by rw [closeEntry_shape]⟩
    have shorter : (s.recovery.eraseP (·.card == e.card)).length = s.recovery.length - 1 :=
      List.length_eraseP_of_mem member (by simp)
    have some_entry := List.length_pos_of_mem member
    rw [closeEntry_shape]
    dsimp only
    omega

/-! ### The ends of a card write (R85 to R90) -/

theorem slot_of_writing (sound : s.Sound 0 p) (writing : (s.lane l).txn = .writing image w) (reserves : w.reservation = true) :
    1 ≤ s.journal.reservations := by
  have taken := sound.reserved_eq
  have owned := reservationsHeld_of_lane (s := s) (l := l) ((Lane.reserves_of_writing writing).trans reserves)
  simp only [Prod.snd_zero, zero_add, Nat.cast_inj] at taken
  exact owned.trans taken.ge

theorem held_of_writing (sound : s.Sound 0 p) (writing : (s.lane l).txn = .writing image w) (live : w.orphaned = false) :
    w.riders ≤ (s.berth w.berth).counts.held := by
  have places := sound.held_eq w.berth
  have riders := le_heldFor_of_lane s l w.berth
  rw [Lane.ridersAt_of_live writing live] at riders
  simp only [Prod.fst_zero, Pi.zero_apply, zero_add, Nat.cast_inj] at places
  exact riders.trans places.ge

theorem decided_of_writing (writing : (s.lane l).txn = .writing image w) : (s.lane l).txn.isUndecided = false := by
  rw [writing]
  rfl

/-- An orphaned write ends with its record alone (R90). -/
theorem endOrphaned (sound : s.Sound 0 p) (writing : (s.lane l).txn = .writing image w) (orphan : w.orphaned = true)
    (draft : Draft) : ((s.record w.reservation draft).endTransaction l).Sound 0 p := by
  have recorded := sound.record (fun reserves => sound.slot_of_writing writing reserves) draft
  refine (recorded.endTransaction (l := l) ?_).cast ?_
  · rw [lane_record]
    exact decided_of_writing writing
  · rw [lane_record, writing, Transaction.books_orphaned orphan]
    abel

/-- A write that gives its places back (R87, R90). -/
theorem endReleased (sound : s.Sound 0 p) (writing : (s.lane l).txn = .writing image w) (live : w.orphaned = false)
    (draft : Draft) : (((s.release w.berth w.riders).record w.reservation draft).endTransaction l).Sound 0 p := by
  have released := sound.release (sound.held_of_writing writing live)
  have recorded := released.record (reserved := w.reservation) (fun reserves => by
    rw [State.release, atBerth_shape]
    exact sound.slot_of_writing writing reserves) draft
  have lane : ((s.release w.berth w.riders).record w.reservation draft).lane l = s.lane l := by
    rw [lane_record, State.release, lane_atBerth]
  refine (recorded.endTransaction (l := l) ?_).cast ?_
  · rw [lane]
    exact decided_of_writing writing
  · rw [lane, writing, Transaction.books_writing live]
    abel

/-- A write that becomes a recovery entry (R93). -/
theorem endHandedOver (sound : s.Sound 0 p) (writing : (s.lane l).txn = .writing image w) (live : w.orphaned = false)
    (card : CardNo) : ((s.handOver l card w).endTransaction l).Sound 0 p := by
  obtain ⟨-, riders, here⟩ := (sound.lane l).of_writing writing
  obtain ⟨-, outside, -⟩ := here live
  obtain ⟨kept, room, fresh, release⟩ := sound.makeWay card
  have listed := kept.appendEntry (e := entryFrom l card w s.settings.recoveryTime) room fresh riders
    (release.trans outside)
  have lane : (s.handOver l card w).lane l = s.lane l := s.lane_makeWay card l
  refine (Sound.endTransaction (s := s.handOver l card w) listed ?_).cast ?_
  · rw [lane]
    exact decided_of_writing writing
  · rw [lane, writing, Transaction.books_writing live]
    show 0 - (heldBook w.berth w.riders + reservedBook w.reservation) + _ = _
    abel

/-- A write becomes orphaned (R90). -/
theorem orphan (sound : s.Sound 0 p) (l : LaneId) : (s.orphan l).Sound 0 p := by
  unfold State.orphan
  split
  · next image w writing =>
    split_ifs with orphan
    · exact sound
    · have live := Bool.eq_false_of_not_eq_true orphan
      have lane : (s.release w.berth w.riders).lane l = s.lane l := lane_atBerth ..
      have law := sound.lane l
      obtain ⟨⟨b, mode⟩, riders, -⟩ := law.of_writing writing
      have released := sound.release (sound.held_of_writing writing live)
      refine (released.onLane (l := l) (f := fun x => { x with txn := .writing image { w with orphaned := true } }) ?_
        ⟨.inr ⟨?_, rfl⟩⟩).cast ?_
      · rw [lane, show (s.release w.berth w.riders).releaseActive = s.releaseActive by rw [State.release, atBerth_shape]]
        refine ⟨?_, law.leaf, law.timer, law.online.imp_right (.imp_right fun idle => ?_), law.saved⟩
        · simp [Lane.txnLawful, mode, Mode.berth?, riders]
        · cases writing.symm.trans idle.1
      · rw [lane]
        exact decided_of_writing writing
      · rw [lane, Lane.books, Lane.books, writing, Transaction.books_writing live, Transaction.books_orphaned rfl]
        rw [show Lane.creditBook { s.lane l with txn := .writing image { w with orphaned := true } } =
          (s.lane l).creditBook from rfl]
        abel
  · exact sound

end Sound
end State
end Sys2Proof.Machine
end

section
/-! Credits, passages, taps, lane resets and turns under the laws of admission (spec/01, spec/02). -/

namespace Sys2Proof.Machine

namespace Lane

theorem Aside.trans {x y z : Lane} (h : x.Aside y) (k : y.Aside z) : x.Aside z :=
  ⟨k.mode.trans h.mode, k.txn.trans h.txn, k.leaf.trans h.leaf, k.holdTimer.trans h.holdTimer, k.status.trans h.status,
    k.savedMode.trans h.savedMode⟩

theorem aside_askingGate (x : Lane) (carried : Bool) : x.Aside (x.askingGate carried) := by
  unfold askingGate
  split_ifs <;> exact {}

theorem aside_askingShow (x : Lane) (code : DisplayCode) : x.Aside (x.askingShow code) := by
  unfold askingShow
  split_ifs <;> exact {}

theorem aside_renewed (x : Lane) (release carried : Bool) : x.Aside (x.renewed release carried) :=
  Aside.trans (y := x.ordered release) {} (aside_askingGate _ _)

theorem aside_freed (x : Lane) (release : Bool) : x.Aside (x.freed release) := by
  rw [freed_eq]
  split_ifs
  · exact x.aside_askingShow _
  · exact {}

/-- A lane's transaction stays lawful while it loses credits (R53). -/
theorem txnLawful_of_fewer {x y : Lane} {release : Bool} (lawful : x.txnLawful release = true) (txn : y.txn = x.txn)
    (mode : y.mode = x.mode) (fewer : y.credits ≤ x.credits) : y.txnLawful release = true := by
  unfold txnLawful at lawful ⊢
  rw [txn, mode]
  cases at_lane : x.txn with
  | writing image w =>
    rw [at_lane] at lawful
    simp only [Bool.and_eq_true, Bool.or_eq_true, decide_eq_true_eq, beq_iff_eq] at lawful ⊢
    exact ⟨lawful.1, lawful.2.imp_right fun ⟨here, room⟩ => ⟨here, (Nat.add_le_add_right fewer _).trans room⟩⟩
  | none => rfl
  | waiting image | validating image =>
    rw [at_lane] at lawful
    exact lawful

theorem txnLawful_of_idle {x : Lane} {release : Bool} (idle : x.txn = .none) : x.txnLawful release = true := by
  rw [txnLawful, idle]

end Lane

namespace State

theorem lane_forfeit (s : State) (l : LaneId) (n : Nat) (release : Bool) :
    (s.lane l).Aside ((s.forfeit l n release).lane l) := by
  unfold forfeit
  dsimp only
  rw [lane_record]
  split
  · rw [forfeitPlaces, onCounters, lane_onLane_self, lane_atBerth]
    exact {}
  · rw [onCounters, lane_onLane_self]
    exact {}

/-- A lane behind a forfeit of all its credits (R27). -/
theorem lane_forfeitAll (s : State) (l : LaneId) (release : Bool) :
    ((s.forfeitAll l release).lane l).credits = 0 ∧ ((s.forfeitAll l release).lane l).txn = (s.lane l).txn ∧
      ((s.forfeitAll l release).lane l).mode = (s.lane l).mode := by
  unfold forfeitAll
  split_ifs with none_left
  · exact ⟨none_left, rfl, rfl⟩
  · have aside := lane_forfeit (s.onLane l fun x => { x with leaf := .shut, holdTimer := none }) l (s.lane l).credits release
    rw [lane_onLane_self] at aside
    exact ⟨aside.credits, aside.txn, aside.mode⟩

namespace Sound

variable {s t : State} {d : Books} {p : Phase} {l : LaneId} {b : BerthId} {image : CardImage} {w : CardWrite}

/-! ### Credits (R25 to R27) -/

theorem forfeit (sound : s.Sound d p) (mode : (s.lane l).mode = .entry b) {n : Nat}
    (granted : n ≤ (s.berth b).counts.granted) (release : Bool) : (s.forfeit l n release).Sound (d - grantedBook b n) p := by
  unfold State.forfeit
  rw [mode]
  exact (((sound.forfeitPlaces granted).onCounters l _).record_free _)

theorem granted_of_lane (sound : s.Sound d p) (mode : (s.lane l).mode = .entry b) (given : 0 ≤ d.2.1 b) :
    (s.lane l).credits ≤ (s.berth b).counts.granted := by
  have places := sound.granted_eq b
  have own := le_creditsFor s l b
  rw [Lane.creditsAt, if_pos mode] at own
  omega

/-- Credits taken from a lane's leaf, which the berth still has granted. -/
theorem emptied (sound : s.Sound d p) (mode : (s.lane l).mode = .entry b) {leaf : Leaf} (none_left : leaf.credits = 0)
    (shut : ∀ n, leaf ≠ .opened n) :
    (s.onLane l fun x => { x with leaf := leaf, holdTimer := none }).Sound (d + grantedBook b (s.lane l).credits) p := by
  have law := sound.lane l
  refine (sound.onLane (f := fun x => { x with leaf := leaf, holdTimer := none }) ⟨?_, ?_, ?_, ?_, law.saved⟩
    ⟨.inl ⟨rfl, fun _ => ⟨rfl, none_left.trans_le (Nat.zero_le _)⟩⟩⟩).cast ?_
  · exact Lane.txnLawful_of_fewer law.txn rfl rfl (none_left.trans_le (Nat.zero_le _))
  · exact fun n opened => absurd opened (shut n)
  · show (none : Option Nat).isSome = decide (0 < leaf.credits)
    rw [none_left]
    rfl
  · exact law.online.imp_right (.imp_right fun idle => ⟨idle.1, none_left⟩)
  · rw [Lane.books, Lane.books, Lane.creditBook_entry mode, Lane.creditBook_of_none (by exact none_left)]
    abel

theorem forfeitAll (sound : s.Sound 0 p) (l : LaneId) (release : Bool) : (s.forfeitAll l release).Sound 0 p := by
  unfold State.forfeitAll
  split_ifs with none_left
  · exact sound
  · obtain ⟨b, mode, -⟩ := (sound.lane l).of_credits none_left
    have own := sound.granted_of_lane mode le_rfl
    refine ((sound.emptied mode (leaf := .shut) rfl nofun).forfeit (l := l) (b := b) ?_ own release).cast ?_
    · rw [lane_onLane_self]
      exact mode
    · abel

/-- Converted riders become the lane's credits, or are forfeited (R25). -/
theorem grantCredits (sound : s.Sound d p) {n : Nat} (mode : (s.lane l).mode = .entry b) (idle : (s.lane l).txn = .none)
    (online : (s.lane l).status = .online) (outside : s.releaseActive = false) (riders : 1 ≤ n)
    (room : (s.lane l).credits + n ≤ 15) (given : (n : Int) ≤ d.2.1 b) :
    (s.grantCredits l n).Sound (d - grantedBook b n) p := by
  have law := sound.lane l
  unfold State.grantCredits
  dsimp only
  split
  · have granted := sound.granted_eq b
    refine Sound.forfeit (sound.onCounters l _) ?_ ?_ false
    · rw [State.onCounters, lane_onLane_self]
      exact mode
    · show n ≤ (s.berth b).counts.granted
      omega
  · refine Sound.reworkGate (Sound.askShow ?_ l _) l
    have counted := sound.onCounters l fun c => { c with admissions := saturate top16 c.admissions 1 }
    set u := s.onCounters l fun c => { c with admissions := saturate top16 c.admissions 1 }
    have lane : (s.lane l).Aside (u.lane l) := by
      rw [show u.lane l = _ from lane_onLane_self ..]
      exact {}
    have some_credit : 0 < (s.lane l).credits + n := Nat.add_pos_right _ riders
    have idle_now : (u.lane l).txn = .none := lane.txn.trans idle
    refine (counted.onLane (f := fun x => { x with leaf := .opened ((s.lane l).credits + n), holdTimer := some s.settings.holdTime })
      ⟨Lane.txnLawful_of_idle idle_now, ?_, ?_, .inr (.inl (lane.status.trans online)), (counted.lane l).saved⟩
      ⟨.inr ⟨?_, ?_⟩⟩).cast ?_
    · rintro _ ⟨⟩
      refine ⟨some_credit, room, ?_, outside⟩
      rw [show _ = (u.lane l).mode from rfl, lane.mode, mode]
      rfl
    · exact (decide_eq_true some_credit).symm
    · rw [idle_now]
      rfl
    · rw [idle_now]
      rfl
    · rw [Lane.books_of_idle idle_now, Lane.books_of_idle (by exact idle_now),
        Lane.creditBook_entry (lane.mode.trans mode), Lane.creditBook_entry (b := b) (by exact lane.mode.trans mode),
        show Lane.credits { u.lane l with
          leaf := .opened ((s.lane l).credits + n), holdTimer := some s.settings.holdTime } = (s.lane l).credits + n from rfl,
        lane.credits, Nat.cast_add, grantedBook_add]
      abel

/-! ### The ends of a write (R85 to R90) -/

theorem writeDone (sound : s.Sound 0 p) (writing : (s.lane l).txn = .writing image w) (online : (s.lane l).status = .online) :
    (s.writeDone l image w).Sound 0 p := by
  unfold State.writeDone
  dsimp only
  split_ifs with orphan
  · exact sound.endOrphaned writing orphan _
  · have live := Bool.eq_false_of_not_eq_true orphan
    obtain ⟨-, riders, here⟩ := (sound.lane l).of_writing writing
    obtain ⟨mode, outside, room⟩ := here live
    have converted := sound.convert (sound.held_of_writing writing live) w.charge
    have rest : (s.convert w.berth w.riders w.charge).journal = s.journal ∧
        (s.convert w.berth w.riders w.charge).releaseActive = s.releaseActive := by
      rw [State.convert, atBerth_shape]
      exact ⟨rfl, rfl⟩
    set draft := writeDraft (confirmedKind w) l w (writeFields image.card w)
    have recorded := converted.record (reserved := w.reservation) (fun reserves => by
      rw [rest.1]
      exact sound.slot_of_writing writing reserves) draft
    have lane : ((s.convert w.berth w.riders w.charge).record w.reservation draft).lane l = s.lane l := by
      rw [lane_record, State.convert, lane_atBerth]
    have ended := recorded.endTransaction (l := l) (by rw [lane]; exact decided_of_writing writing)
    rw [lane, writing, Transaction.books_writing live] at ended
    have left : (((s.convert w.berth w.riders w.charge).record w.reservation draft).endTransaction l).lane l =
        { s.lane l with txn := .none } := by
      rw [State.endTransaction, lane_onLane_self, lane]
    refine (ended.grantCredits (b := w.berth) ?_ ?_ ?_ ?_ riders ?_ ?_).cast ?_
    · rw [left]
      exact mode
    · rw [left]
    · rw [left]
      exact online
    · exact (record_releaseActive ..).trans (rest.2.trans outside)
    · rw [left]
      exact room
    · simp [heldBook, grantedBook, reservedBook]
    · abel

theorem writeFailed (sound : s.Sound 0 p) (writing : (s.lane l).txn = .writing image w) :
    (s.writeFailed l image w).Sound 0 p := by
  unfold State.writeFailed
  dsimp only
  split_ifs with orphan
  · exact sound.endOrphaned writing orphan _
  · exact (sound.endReleased writing (Bool.eq_false_of_not_eq_true orphan) _).askShow l _

theorem writeUncertain (sound : s.Sound 0 p) (writing : (s.lane l).txn = .writing image w) :
    (s.writeUncertain l image w).Sound 0 p := by
  unfold State.writeUncertain
  split_ifs with orphan
  · exact sound.endOrphaned writing orphan _
  · exact (sound.endHandedOver writing (Bool.eq_false_of_not_eq_true orphan) _).askShow l _

theorem takeWriteResult (sound : s.Sound 0 p) (online : (s.lane l).status = .online) (tag : Byte) (card : CardNo)
    (outcome : WriteOutcome) : (s.takeWriteResult l tag card outcome).Sound 0 p := by
  unfold State.takeWriteResult
  split
  · next image w writing =>
    split_ifs
    · cases outcome with
      | done => exact sound.writeDone writing online
      | failed => exact sound.writeFailed writing
      | uncertain => exact sound.writeUncertain writing
    · exact sound
  · exact sound

/-! ### Passages (R28 to R30, R34) -/

theorem countUnpaid (sound : s.Sound d p) (l : LaneId) : (s.countUnpaid l).Sound d p :=
  (sound.onCounters l _).raise _

/-- One credit used (R29). -/
theorem useCredit (sound : s.Sound d p) (mode : (s.lane l).mode = .entry b) (credit : (s.lane l).credits ≠ 0)
    (holdTime : Nat) : (s.onLane l (.useCredit holdTime)).Sound (d + grantedBook b 1) p := by
  have law := sound.lane l
  unfold Lane.useCredit
  by_cases last : (s.lane l).credits ≤ 1
  · have one : (s.lane l).credits = 1 := by omega
    have used := sound.emptied mode (leaf := .shut) rfl nofun
    rw [one] at used
    rw [show s.onLane l (fun x => if x.credits ≤ 1 then { x with leaf := .shut, holdTimer := none } else
      { x with leaf := .opened (x.credits - 1), holdTimer := some holdTime }) =
        s.onLane l (fun x => { x with leaf := .shut, holdTimer := none }) from onLane_congr (if_pos last)]
    exact used
  · have some_left : 0 < (s.lane l).credits - 1 := by omega
    obtain ⟨-, most, entry, outside⟩ := law.leaf _ (Lane.leaf_of_credits credit)
    rw [show s.onLane l (fun x => if x.credits ≤ 1 then { x with leaf := .shut, holdTimer := none } else
      { x with leaf := .opened (x.credits - 1), holdTimer := some holdTime }) =
        s.onLane l (fun x => { x with leaf := .opened (x.credits - 1), holdTimer := some holdTime }) from
          onLane_congr (if_neg last)]
    refine (sound.onLane (f := fun x => { x with leaf := .opened (x.credits - 1), holdTimer := some holdTime })
      ⟨Lane.txnLawful_of_fewer law.txn rfl rfl (Nat.sub_le _ 1), ?_, (decide_eq_true some_left).symm, ?_, law.saved⟩
      ⟨.inl ⟨rfl, fun _ => ⟨rfl, Nat.sub_le _ 1⟩⟩⟩).cast ?_
    · rintro _ ⟨⟩
      exact ⟨some_left, (Nat.sub_le _ 1).trans most, entry, outside⟩
    · exact law.online.imp_right (.imp_right fun idle => absurd idle.2 credit)
    · have fewer : (((s.lane l).credits - 1 : Nat) : Int) = (s.lane l).credits + -1 := by omega
      rw [Lane.books, Lane.books, Lane.creditBook_entry mode, Lane.creditBook_entry (b := b) (by exact mode),
        show Lane.credits { s.lane l with
          leaf := .opened ((s.lane l).credits - 1), holdTimer := some holdTime } = (s.lane l).credits - 1 from rfl, fewer,
        grantedBook_add, grantedBook_neg]
      abel

theorem passInward (sound : s.Sound 0 p) (l : LaneId) : (s.passInward l).Sound 0 p := by
  unfold State.passInward
  split
  · next b mode =>
    split_ifs with none_left
    · exact ((sound.unpaid b).countUnpaid l).record_free _
    · have used := sound.useCredit mode none_left s.settings.holdTime
      have granted := used.granted_eq b
      refine (used.pass (b := b) ?_).cast (by abel)
      simp only [zero_add, grantedBook, Pi.single_eq_same] at granted
      omega
  · exact Sound.countUnpaid (s := { s with pier := _ }) sound.of_same l
  · exact Sound.countUnpaid (s := { s with pier := _ }) sound.of_same l
  · exact sound

theorem passOutward (sound : s.Sound 0 p) (l : LaneId) : (s.passOutward l).Sound 0 p := by
  unfold State.passOutward
  split
  · exact sound.reverse _
  · exact sound.of_same
  · exact sound.of_same
  · exact sound

theorem iterate {act : State → State} (keeps : ∀ t : State, t.Sound d p → (act t).Sound d p) (n : Nat)
    (sound : s.Sound d p) : (act^[n] s).Sound d p := by
  induction n generalizing s with
  | zero => exact sound
  | succ n ih => exact ih (keeps s sound)

theorem takePassage (sound : s.Sound 0 p) (l : LaneId) (inward outward : Nat) :
    (s.takePassage l inward outward).Sound 0 p := by
  have counted := sound.onCounters l fun c => { c with
    inward := saturate top16 c.inward inward, outward := saturate top16 c.outward outward }
  unfold State.takePassage
  dsimp only
  split_ifs
  · exact counted
  · exact (iterate (fun t kept => kept.passOutward l) _ (iterate (fun t kept => kept.passInward l) _ counted)).reworkGate l

/-! ### Taps (R20) -/

/-- A tap latched at an ONLINE ENTRY lane outside release. -/
theorem latch (sound : s.Sound d .midway) (idle : (s.lane l).txn = .none) (mode : (s.lane l).mode = .entry b)
    (outside : s.releaseActive = false) (online : (s.lane l).status = .online) {f : Lane → Lane}
    (latched : f (s.lane l) = { s.lane l with txn := .waiting image, link := (f (s.lane l)).link }) :
    (s.onLane l f).Sound d .midway where
  balance := by
    rw [balance_onLane, sound.balance, latched, Lane.books_of_idle idle]
    show d + (s.lane l).creditBook - (0 + (s.lane l).creditBook) = d
    abel
  berth := sound.berth
  lane m := by
    rw [lane_onLane]
    split_ifs with same
    · subst same
      have law := sound.lane m
      rw [latched]
      refine ⟨?_, law.leaf, law.timer, .inr (.inl online), law.saved⟩
      simp [Lane.txnLawful, mode, Mode.berth?, outside]
    · exact sound.lane m
  engine m := by
    rw [lane_onLane]
    split_ifs with same
    · subst same
      rw [latched]
      refine ⟨nofun, fun _ v busy own => ?_, nofun, nofun⟩
      cases idle.symm.trans ((sound.engine m).inFlight nofun v busy own).1
    · exact sound.engine m
  recovery := sound.recovery
  occupancy := sound.occupancy
  fields := sound.fields

theorem takeTap (sound : s.Sound d .midway) (online : (s.lane l).status = .online) (image : CardImage) :
    (s.takeTap l image).Sound d .midway := by
  have counted := sound.onCounters l fun c => { c with taps := saturate top16 c.taps 1 }
  unfold State.takeTap
  dsimp only
  split_ifs with latches
  · simp only [State.latches, Bool.and_eq_true, Bool.not_eq_true', beq_iff_eq] at latches
    obtain ⟨⟨⟨entry, outside⟩, idle⟩, -⟩ := latches
    obtain ⟨b, mode⟩ := Lane.exists_of_berth? entry
    have lane : (s.lane l).Aside ((s.onCounters l fun c => { c with taps := saturate top16 c.taps 1 }).lane l) := by
      rw [State.onCounters, lane_onLane_self]
      exact {}
    exact counted.latch (image := image) (lane.txn.trans idle) (lane.mode.trans mode) outside (lane.status.trans online) rfl
  · exact counted.askShow l _

end Sound
end State
end Sys2Proof.Machine
end

section
/-! Leaf conditions, lane resets and the ends of turns under the laws of admission (spec/01, spec/02). -/

namespace Sys2Proof.Machine
namespace State
namespace Sound

variable {s t : State} {d : Books} {p : Phase} {l : LaneId} {b : BerthId} {image : CardImage} {w : CardWrite}

/-! ### Leaf conditions (R35, R36) -/

/-- The leaf of a lane without credits set to one without. -/
theorem releafed (sound : s.Sound d p) (none_left : (s.lane l).credits = 0) {leaf : Leaf} (none_after : leaf.credits = 0)
    (shut : ∀ n, leaf ≠ .opened n) : (s.onLane l fun x => { x with leaf := leaf }).Sound d p := by
  have law := sound.lane l
  refine sound.onLane_balanced (f := fun x => { x with leaf := leaf })
    ⟨Lane.txnLawful_of_fewer law.txn rfl rfl (none_after.trans_le (Nat.zero_le _)), fun n opened => absurd opened (shut n),
      ?_, law.online.imp_right (.imp_right fun idle => ⟨idle.1, none_after⟩), law.saved⟩
    ⟨.inl ⟨rfl, fun _ => ⟨rfl, none_after.trans_le (Nat.zero_le _)⟩⟩⟩
    (Lane.books_congr rfl rfl (none_after.trans none_left.symm))
  refine law.timer.trans ?_
  rw [none_left]
  show _ = decide (0 < leaf.credits)
  rw [none_after]

theorem takeLeafFault (sound : s.Sound 0 p) (l : LaneId) : (s.takeLeafFault l).Sound 0 p := by
  unfold State.takeLeafFault
  split_ifs
  · exact sound
  · have none_left := (s.lane_forfeitAll l false).1
    exact (((sound.forfeitAll l false).releafed none_left (leaf := .fault) rfl nofun).raise _).reworkGate l

theorem takeLeafClear (sound : s.Sound d p) (l : LaneId) : (s.takeLeafClear l).Sound d p := by
  unfold State.takeLeafClear
  split_ifs with fault
  · have none_left : (s.lane l).credits = 0 := by
      rw [Lane.credits, fault]
      rfl
    exact (sound.releafed none_left (leaf := .shut) rfl nofun).renewGate l
  · exact sound

/-! ### Lane resets (R38) -/

/-- A lane without work that has parted is a lane like any other. -/
theorem parted (sound : s.Sound d (.parting l)) (idle : (s.lane l).txn = .none) (none_left : (s.lane l).credits = 0) :
    s.Sound d .midway where
  balance := sound.balance
  berth := sound.berth
  lane m := by
    obtain ⟨txn, leaf, timer, online, saved⟩ := sound.lane m
    refine ⟨txn, leaf, timer, ?_, saved⟩
    obtain parts | online := online
    · have same : l = m := by simpa [Phase.parts] using parts
      subst same
      exact .inr (.inr ⟨idle, none_left⟩)
    · exact .inr online
  engine m := ⟨nofun, fun _ => (sound.engine m).inFlight nofun, (sound.engine m).owned, nofun⟩
  recovery := sound.recovery
  occupancy := sound.occupancy
  fields := sound.fields

/-- What a reset makes of the lane's transaction (R38, R58). -/
theorem resetTransaction (sound : s.Sound 0 (.parting l)) (reason : ResetReason) :
    ((s.resetTransaction l reason).endTransaction l).Sound 0 (.parting l) := by
  have law := (sound.engine l).inFlight nofun
  have dropped := sound.drops
  have untouched (unflown : ∀ image, (s.lane l).txn ≠ .validating image) :
      (s.endTransaction l).abandon l = s.endTransaction l := by
    obtain ⟨same, -⟩ | ⟨-, v, busy, own⟩ := abandon_cases (s.endTransaction l) l
    · exact same
    · exact absurd (law v busy own).1 (unflown _)
  cases at_lane : (s.lane l).txn with
  | none | waiting image =>
    rw [untouched (by rw [at_lane]; exact nofun), at_lane, show Transaction.books _ = 0 from rfl, add_zero] at dropped
    rw [State.resetTransaction, at_lane]
    exact dropped
  | validating image =>
    rw [at_lane, show Transaction.books _ = 0 from rfl, add_zero] at dropped
    rw [State.resetTransaction, at_lane]
    have order : (s.abandon l).endTransaction l = (s.endTransaction l).abandon l := by
      unfold abandon
      rw [show (s.endTransaction l).engine = s.engine from rfl]
      split
      · split_ifs <;> rfl
      · rfl
    exact order ▸ dropped
  | writing image w =>
    rw [State.resetTransaction, at_lane]
    dsimp only
    split_ifs with orphan
    · exact sound.endOrphaned at_lane orphan _
    · exact sound.endReleased at_lane (Bool.eq_false_of_not_eq_true orphan) _
    · exact sound.endHandedOver at_lane (Bool.eq_false_of_not_eq_true orphan) _

theorem laneReset_parting (sound : s.Sound 0 (.parting l)) (reason : ResetReason) : (s.laneReset l reason).Sound 0 .midway := by
  set u := (s.resetTransaction l reason).endTransaction l with ended
  have idle : (u.lane l).txn = .none := by
    rw [ended, State.endTransaction, lane_onLane_self]
  obtain ⟨none_left, txn, -⟩ := u.lane_forfeitAll l false
  have emptied := ((sound.resetTransaction reason).forfeitAll l false).parted (txn.trans idle) none_left
  set v := u.forfeitAll l false
  have law := emptied.lane l
  have settled : (v.onLane l (.afterReset reason)).Sound 0 .midway := by
    have leaf : (if (v.lane l).leaf = .fault then Leaf.fault else .shut).credits = 0 := by split_ifs <;> rfl
    refine emptied.onLane_balanced (f := .afterReset reason) ⟨Lane.txnLawful_of_fewer law.txn rfl rfl (leaf.trans_le (Nat.zero_le _)), fun n opened => ?_, ?_,
      .inr (.inr ⟨txn.trans idle, leaf⟩), law.saved⟩
      ⟨.inl ⟨rfl, fun _ => ⟨rfl, leaf.trans_le (Nat.zero_le _)⟩⟩⟩ (Lane.books_congr rfl rfl (leaf.trans none_left.symm))
    · unfold Lane.afterReset at opened
      dsimp only at opened
      split_ifs at opened
    · show (none : Option Nat).isSome = decide (0 < (if (v.lane l).leaf = .fault then Leaf.fault else .shut).credits)
      rw [leaf]
      rfl
  exact (settled.renewGate l).showFreeExit l

theorem laneReset (sound : s.Sound 0 .midway) (l : LaneId) (reason : ResetReason) : (s.laneReset l reason).Sound 0 .midway :=
  (sound.parting l).laneReset_parting reason

/-! ### Reports and the ends of turns (R7 to R16) -/

theorem takeReport (sound : s.Sound 0 .midway) (online : (s.lane l).status = .online) (r : Report) :
    (s.takeReport l r).Sound 0 .midway := by
  cases r with
  | nothing => exact sound
  | tap image => exact sound.takeTap online image
  | writeResult tag card outcome => exact sound.takeWriteResult online tag card outcome
  | passage inward outward => exact sound.takePassage l inward outward
  | status condition =>
    cases condition with
    | leafFault => exact sound.takeLeafFault l
    | leafClear => exact sound.takeLeafClear l
    | headRestart => exact sound.laneReset l .headRestart

/-- An OFFLINE lane comes ONLINE, where it has had no work (R14). -/
theorem bringOnline (sound : s.Sound d .midway) (offline : (s.lane l).status = .offline) :
    (s.bringOnline l).Sound d .midway ∧ ((s.bringOnline l).lane l).status = .online := by
  have law := sound.lane l
  obtain ⟨idle, none_left⟩ : (s.lane l).txn = .none ∧ (s.lane l).credits = 0 := by
    obtain parts | online | idle := law.online
    · cases parts
    · cases offline.symm.trans online
    · exact idle
  have timer : (s.lane l).holdTimer.isSome = decide (0 < Leaf.shut.credits) := by
    rw [law.timer, none_left]
    rfl
  have shut : (s.onLane l fun x => { x with status := .online, leaf := .shut, txn := .none }).Sound d .midway := by
    refine sound.onLane_balanced (f := fun x => { x with status := .online, leaf := .shut, txn := .none })
      ⟨rfl, nofun, timer, .inr (.inl rfl), law.saved⟩ ⟨.inr ⟨?_, rfl⟩⟩ (Lane.books_congr idle.symm rfl none_left.symm)
    rw [idle]
    rfl
  refine ⟨(shut.renewGate l).showFreeExit l, ?_⟩
  rw [State.bringOnline, renewGate_eq, showFreeExit_eq, lane_onLane_self, lane_onLane_self, lane_onLane_self]
  exact ((Lane.aside_renewed _ _ _).trans (Lane.aside_freed _ _)).status

theorem noteReport (sound : s.Sound d p) (l : LaneId) (number : Byte) : (s.noteReport l number).Sound d p :=
  sound.onLink l _

theorem goodAnswer (sound : s.Sound 0 .midway) (t : Turn) (number : Byte) (r : Report) :
    (s.goodAnswer t number r).Sound 0 .midway := by
  unfold State.goodAnswer
  dsimp only
  split
  · split
    · exact sound.noteReport _ _
    · exact sound
  · have acknowledged : (s.acknowledge t.lane t.carried).Sound 0 .midway := sound.onLink t.lane _
    have status : ((s.acknowledge t.lane t.carried).lane t.lane).status = (s.lane t.lane).status := by
      rw [acknowledge, State.onLink, lane_onLane_self]
    set u := if (s.lane t.lane).status = .offline then (s.acknowledge t.lane t.carried).bringOnline t.lane
      else s.acknowledge t.lane t.carried
    obtain ⟨kept, online⟩ : u.Sound 0 .midway ∧ (u.lane t.lane).status = .online := by
      by_cases offline : (s.lane t.lane).status = .offline
      · rw [show u = _ from if_pos offline]
        exact acknowledged.bringOnline (status.trans offline)
      · rw [show u = _ from if_neg offline]
        refine ⟨acknowledged, status.trans ?_⟩
        cases here : (s.lane t.lane).status
        · exact absurd here offline
        · rfl
    split
    · refine (kept.noteReport t.lane number).takeReport ?_ r
      rw [State.noteReport, State.onLink, lane_onLane_self]
      exact online
    · exact kept

theorem missedTurn (sound : s.Sound 0 .midway) (t : Turn) : (s.missedTurn t).Sound 0 .midway := by
  unfold State.missedTurn
  dsimp only
  split_ifs with left lost
  · exact sound
  · have counted : (s.onLane t.lane Lane.countMiss).Sound 0 .midway := sound.onLane_aside {}
    set u := s.onLane t.lane Lane.countMiss
    have law := counted.lane t.lane
    have offline : (u.onLane t.lane fun x => { x with status := .offline }).Sound 0 (.parting t.lane) := by
      exact (counted.parting t.lane).onLane_balanced (f := fun x => { x with status := .offline })
        ⟨law.txn, law.leaf, law.timer, .inl (by simp [Phase.parts]), law.saved⟩
        ⟨.inl ⟨rfl, fun _ => ⟨rfl, le_rfl⟩⟩⟩ (Lane.books_congr rfl rfl rfl)
    exact (offline.raise _).laneReset_parting .offline
  · exact sound.onLane_aside {}

theorem endTurn (sound : s.Sound 0 .midway) (t : Turn) (bytes : List Byte) : (s.endTurn t bytes).Sound 0 .midway := by
  unfold State.endTurn
  split
  · exact sound.goodAnswer t _ _
  · exact sound.missedTurn t

/-! ### The end of an event (R42, R140) -/

/-- A state in which no tap waits on a free engine. -/
theorem rested (sound : s.Sound d .midway) (rest : s.engine = none → ∀ l, (s.lane l).txn.isWaiting = false) :
    s.Sound d .rest :=
  ⟨sound.balance, sound.berth, sound.lane, fun m => ⟨nofun, fun _ => (sound.engine m).inFlight nofun,
    (sound.engine m).owned, fun _ idle => rest idle m⟩, sound.recovery, sound.occupancy, sound.fields⟩

/-- The engine granted to a lane that waits (R42, R43). -/
theorem granted (sound : s.Sound d .midway) (idle : s.engine = none) (waits : (s.lane l).txn = .waiting image) :
    ({ s.onLane l fun x => { x with txn := .validating image } with
      engine := some (s.newValidation l image), lastGranted := l } : State).Sound d .rest where
  balance := by
    have latched := balance_onLane s l fun x => { x with txn := .validating image }
    have own : ({ s.lane l with txn := .validating image } : Lane).books = (s.lane l).books := by
      rw [Lane.books, Lane.books, waits]
      rfl
    rw [own, add_sub_cancel_right, sound.balance] at latched
    exact latched
  berth := sound.berth
  lane m := by
    show ((s.onLane l fun x => { x with txn := .validating image }).lane m).Law s.releaseActive false
    rw [lane_onLane]
    split_ifs with same
    · subst same
      have law := sound.lane m
      refine ⟨?_, law.leaf, law.timer, law.online.imp_right (.imp_right fun none => ?_), law.saved⟩
      · have txn := law.txn
        rw [Lane.txnLawful, waits] at txn
        exact txn
      · cases waits.symm.trans none.1
    · exact sound.lane m
  engine m := by
    show ((s.onLane l fun x => { x with txn := .validating image }).lane m).EngineLaw .rest (some (s.newValidation l image)) m
    rw [lane_onLane]
    split_ifs with same
    · subst same
      obtain ⟨⟨b, mode⟩, -⟩ := (sound.lane m).of_undecided (by rw [waits]; rfl)
      refine ⟨nofun, ?_, fun _ _ => ⟨_, rfl, rfl⟩, nofun⟩
      rintro - _ ⟨⟩ -
      refine ⟨rfl, mode.trans ?_, nofun⟩
      rw [newValidation, mode]
      rfl
    · refine ⟨nofun, ?_, fun other validating => ?_, nofun⟩
      · rintro - _ ⟨⟩ own
        exact absurd own.symm same
      · obtain ⟨v, busy, -⟩ := (sound.engine m).owned other validating
        cases idle.symm.trans busy
  recovery := sound.recovery
  occupancy := sound.occupancy
  fields := sound.fields

theorem mem_rotation (k l : LaneId) : l ∈ rotation k := by
  rw [rotation, List.mem_map]
  exact ⟨l - (k + 1), mem_allLanes _, by abel⟩

/-- The arbiter's search leaves no tap to wait on a free engine (R42). -/
theorem arbitrate (sound : s.Sound d .midway) : s.arbitrate.Sound d .rest := by
  unfold State.arbitrate
  split
  · next l idle found =>
    have waits := List.find?_some found
    unfold grant
    split
    · next image latched => exact sound.granted idle latched
    · next others =>
      cases latched : (s.lane l).txn with
      | waiting image => exact absurd latched (others image)
      | _ =>
        rw [latched] at waits
        cases waits
  · next others =>
    refine sound.rested fun idle l => ?_
    cases search : s.nextWaiting with
    | some m => exact absurd search (others m idle)
    | none => exact Bool.eq_false_of_not_eq_true (List.find?_eq_none.mp search l (mem_rotation _ l))

/-! ### The Table Store (R131) -/

theorem bank (sound : s.Sound d p) (i : BankId) : (s.bank i).fieldsInRange := by
  cases i
  · exact sound.fields.1
  · exact sound.fields.2

theorem withShadow (sound : s.Sound d p) {k : Bank} (fields : k.fieldsInRange) : (s.withShadow k).Sound d p := by
  unfold State.withShadow withBank
  split
  · exact ⟨sound.balance, sound.berth, sound.lane, sound.engine, sound.recovery, sound.occupancy, fields, sound.fields.2⟩
  · exact ⟨sound.balance, sound.berth, sound.lane, sound.engine, sound.recovery, sound.occupancy, sound.fields.1, fields⟩

theorem swap (sound : s.Sound d p) : s.swap.Sound d p :=
  (Sound.raise (s := { s with active := some s.shadow, pendingActivation := none }) sound.of_same _).record_free _

theorem cancelActivation (sound : s.Sound d p) : s.cancelActivation.Sound d p := by
  rw [cancelActivation_shape]
  exact sound.of_same

theorem takeActivate (sound : s.Sound d p) (version : Quad) (expected : Half) (timing : Byte) (day : Half) (secs : Quad) :
    (s.takeActivate version expected timing day secs).1.Sound d p := by
  have versioned := sound.withShadow (k := { s.shadowBank with version := version }) (sound.bank s.shadow)
  unfold State.takeActivate
  split
  · exact sound
  · split
    · dsimp only
      split
      · exact versioned.swap
      · split
        · exact versioned.swap
        · exact versioned.of_same
    · exact sound

theorem takeTable (sound : s.Sound d p) (r : TableRequest) : (s.takeTable r).1.Sound d p := by
  cases r with
  | activate version expected timing day secs => exact sound.takeActivate version expected timing day secs
  | _ => exact sound.cancelActivation

theorem takeWaiting (sound : s.Sound d p) : s.takeWaiting.1.Sound d p := by
  obtain same | ⟨j, -, -, -, ⟨-, taken⟩ | ⟨-, taken⟩⟩ := s.takeWaiting_cases
  · rw [same]
    exact sound
  · rw [taken]
    exact (sound.takeTable j.request).of_same
  · rw [taken]
    exact (sound.takeTable j.request).of_same

theorem handTime (sound : s.Sound d p) : s.handTime.Sound d p := by
  obtain same | ⟨swapped, -⟩ := s.handTime_cases
  · rw [same]
    exact sound
  · rw [swapped]
    exact sound.swap

theorem workTable (sound : s.Sound d p) (r : TableRequest) : (s.workTable r).Sound d p := by
  have shadow := sound.bank s.shadow
  cases r with
  | write start body => exact sound.withShadow (Bank.fieldsInRange_writeChecked _ _ shadow)
  | insert entry => exact sound.withShadow (Bank.fieldsInRange_insert _ shadow)
  | remove card => exact sound.withShadow (Bank.fieldsInRange_remove _ shadow)
  | clear => exact sound.withShadow Bank.sound_empty.2.2.2.2
  | copy =>
    unfold State.workTable
    dsimp only
    split
    · exact sound.withShadow (sound.bank _)
    · exact sound
  | activate => exact sound

/-- The end of an event serves whatever waits (R42, R140). -/
theorem endEvent (sound : s.Sound d .midway) (before : Half) : (s.endEvent before).Sound d .rest :=
  (sound.takeWaiting.arbitrate.notify before).of_same

end Sound
end State
end Sys2Proof.Machine
end

section
/-! The stages of a validation under the laws of admission (spec/03). -/

namespace Sys2Proof.Machine

-- One proof after the other: proofs elaborated side by side take a thread each.
set_option Elab.async false

namespace State
namespace Sound

variable {s t : State} {d : Books} {p : Phase} {l : LaneId} {b : BerthId} {v : Validation} {e : RecoveryEntry}

/-! ### The validation in flight -/

theorem inFlight (sound : s.Sound d .midway) (busy : s.engine = some v) : v.InFlight (s.lane v.lane) :=
  (sound.engine v.lane).inFlight nofun v busy rfl

/-- The lane of a validation is an ONLINE ENTRY lane outside release. -/
theorem of_inFlight (sound : s.Sound d .midway) (busy : s.engine = some v) :
    (s.lane v.lane).mode = .entry v.berth ∧ (s.lane v.lane).status = .online ∧ s.releaseActive = false := by
  obtain ⟨at_engine, mode, -⟩ := sound.inFlight busy
  have law := sound.lane v.lane
  exact ⟨mode, law.online_of_work (.inl (by rw [at_engine]; exact nofun)),
    (law.of_undecided (Lane.isUndecided_of_validating at_engine)).2⟩

/-- A stage hands on a validation of the same lane and card (R45). -/
theorem goOn (sound : s.Sound d .midway) {w : Validation} {next : Stage} (busy : s.engine = some v) (lane : w.lane = v.lane)
    (image : w.image = v.image) (berth : w.berth = v.berth)
    (product : ∀ q, w.product = some q → 1 ≤ q.riders ∧ (next = .decision → (s.lane v.lane).credits + q.riders ≤ 15)) :
    (s.goOn w next).Sound d .midway where
  balance := sound.balance
  berth := sound.berth
  lane := sound.lane
  engine m := by
    show (s.lane m).EngineLaw .midway (some { w with stage := next }) m
    obtain ⟨at_engine, mode, -⟩ := sound.inFlight busy
    refine ⟨nofun, ?_, fun other validating => ?_, nofun⟩
    · rintro - _ ⟨⟩ rfl
      show Validation.InFlight { w with stage := next } (s.lane w.lane)
      rw [lane]
      exact ⟨at_engine.trans (by rw [image]), mode.trans (by rw [berth]), product⟩
    · obtain ⟨u, held, own⟩ := (sound.engine m).owned other validating
      cases busy.symm.trans held
      exact ⟨_, rfl, lane.trans own⟩
  recovery := sound.recovery
  occupancy := sound.occupancy
  fields := sound.fields

/-- A stage that finds no product hands on what it has been handed. -/
theorem goOn_same (sound : s.Sound d .midway) {w : Validation} {next : Stage} (busy : s.engine = some v) (early : next ≠ .decision)
    (lane : w.lane = v.lane := by rfl) (image : w.image = v.image := by rfl) (berth : w.berth = v.berth := by rfl)
    (product : w.product = v.product := by rfl) : (s.goOn w next).Sound d .midway := by
  refine sound.goOn busy lane image berth fun q found => ⟨?_, fun last => absurd last early⟩
  obtain ⟨-, -, riders⟩ := sound.inFlight busy
  exact (riders q (product.symm.trans found)).1

theorem books_of_inFlight (sound : s.Sound d .midway) (busy : s.engine = some v) : (s.lane v.lane).txn.books = 0 := by
  rw [(sound.inFlight busy).1]
  rfl

theorem freeEngine (sound : s.Sound d (.ended l)) (own : ∀ v, s.engine = some v → v.lane = l) (watch : Bool) :
    (s.freeEngine watch).Sound d .midway := (sound.freed own).raiseIf _ _

/-- A refusal (R56). -/
theorem refuse (sound : s.Sound d .midway) {w : Validation} (busy : s.engine = some v) (e : Option RecoveryEntry)
    (code : RefusalCode) (lane : w.lane = v.lane := by rfl) : (s.refuse w e code).Sound d .midway := by
  unfold State.refuse
  rw [lane]
  have recorded := sound.record_free (refusedDraft w e (s.versionOf w) code)
  set u := s.record false (refusedDraft w e (s.versionOf w) code) with taken
  have busy_still : u.engine = some v := (record_engine ..).trans busy
  have ended := recorded.leaves v.lane
  rw [recorded.books_of_inFlight busy_still, add_zero] at ended
  refine ((ended.onCounters v.lane _).askShow v.lane code.display).freeEngine (fun x held => ?_) _
  rw [askShow_shape] at held
  cases busy_still.symm.trans held
  rfl

/-- ADMIT: the places and the reservation become the write's (R23). -/
theorem takeAdmission (sound : s.Sound d .midway) (busy : s.engine = some v) {w : CardWrite} (berth : w.berth = v.berth)
    (live : w.orphaned = false) (riders : 1 ≤ w.riders) (room : (s.lane v.lane).credits + w.riders ≤ 15) (image : CardImage)
    (watch : Bool) : ((s.takeAdmission v.lane image w).freeEngine watch).Sound
      (d - (heldBook w.berth w.riders + reservedBook w.reservation)) .midway := by
  obtain ⟨at_engine, -⟩ := sound.inFlight busy
  obtain ⟨mode, online, outside⟩ := sound.of_inFlight busy
  have law := sound.lane v.lane
  set writes : Lane → Lane := fun x => { x with txn := .writing image w } with writing
  have books : (writes (s.lane v.lane)).books = heldBook w.berth w.riders + reservedBook w.reservation +
      (s.lane v.lane).creditBook := by
    rw [Lane.books, ← Transaction.books_writing live]
    rfl
  have own : (s.lane v.lane).books = (s.lane v.lane).creditBook := by
    rw [Lane.books, at_engine]
    exact zero_add _
  have admitted : (s.onLane v.lane writes).Sound (d - (heldBook w.berth w.riders + reservedBook w.reservation))
      (.ended v.lane) := by
    refine ⟨?_, sound.berth, fun m => ?_, fun m => ?_, sound.recovery, sound.occupancy, sound.fields⟩
    · rw [balance_onLane, sound.balance, books, own]
      abel
    · rw [lane_onLane]
      split_ifs with same
      · refine ⟨?_, law.leaf, law.timer, .inr (.inl online), law.saved⟩
        show (writes (s.lane v.lane)).txnLawful s.releaseActive = true
        have room_left : (writes (s.lane v.lane)).credits + w.riders ≤ 15 := room
        have at_berth : (writes (s.lane v.lane)).mode = .entry w.berth := mode.trans (by rw [berth])
        rw [Lane.txnLawful, show (writes (s.lane v.lane)).txn = .writing image w from rfl]
        simp [at_berth, Mode.berth?, riders, outside, room_left]
      · exact sound.lane m
    · rw [lane_onLane]
      split_ifs with same
      · subst same
        exact ⟨fun _ => rfl, fun flying => absurd rfl flying, nofun, nofun⟩
      · refine ⟨fun ended => ?_, fun _ => (sound.engine m).inFlight nofun, (sound.engine m).owned, nofun⟩
        cases ended
        exact absurd rfl same
  refine Sound.freeEngine (s := s.takeAdmission v.lane image w) (admitted.askCardWrite v.lane image.card w.image)
    (fun x held => ?_) watch
  rw [State.takeAdmission, askCardWrite_shape] at held
  cases busy.symm.trans held
  rfl

/-! ### Stage 2 (R97 to R100) -/

theorem held_of_entry (sound : s.Sound 0 p) (member : e ∈ s.recovery) : e.riders ≤ (s.berth e.berth).counts.held := by
  have places := sound.held_eq e.berth
  simp only [Prod.fst_zero, Pi.zero_apply, zero_add, Nat.cast_inj] at places
  exact (le_heldFor_of_entry member).trans places.ge

theorem slot_of_entry (sound : s.Sound 0 p) (member : e ∈ s.recovery) (reserves : e.reservation = true) :
    1 ≤ s.journal.reservations := by
  have taken := sound.reserved_eq
  simp only [Prod.snd_zero, zero_add, Nat.cast_inj] at taken
  exact (reservationsHeld_of_entry member reserves).trans taken.ge

theorem room_of_lacks {riders : Nat} (enough : ¬ s.lacksLaneRoom l riders = true) : (s.lane l).credits + riders ≤ 15 :=
  Nat.le_of_not_lt fun more => enough (decide_eq_true more)

theorem engine_grantCredits (s : State) (l : LaneId) (n : Nat) : (s.grantCredits l n).engine = s.engine := by
  unfold State.grantCredits
  dsimp only
  split
  · rw [State.forfeit, record_engine]
    split
    · rw [State.forfeitPlaces, State.onCounters, onLane_engine, atBerth_shape]
      rfl
    · rfl
  · rw [engine_reworkGate, askShow_shape]
    rfl

theorem took (sound : s.Sound 0 .midway) (busy : s.engine = some v) (member : e ∈ s.recovery) (berth : v.berth = e.berth)
    (room : (s.lane v.lane).credits + e.riders ≤ 15) : (s.took v e).Sound 0 .midway := by
  obtain ⟨mode, online, outside⟩ := sound.of_inFlight busy
  unfold State.took
  have converted := sound.convert (sound.held_of_entry member) e.charge
  have beside : (s.convert e.berth e.riders e.charge).journal = s.journal ∧
      (s.convert e.berth e.riders e.charge).releaseActive = s.releaseActive ∧
      (s.convert e.berth e.riders e.charge).recovery = s.recovery ∧
      (s.convert e.berth e.riders e.charge).engine = s.engine := by
    rw [State.convert, atBerth_shape]
    exact ⟨rfl, rfl, rfl, rfl⟩
  obtain ⟨journal, release, recovery, engine⟩ := beside
  have recorded := converted.record (reserved := e.reservation) (fun reserves => by
    rw [journal]
    exact sound.slot_of_entry member reserves) (entryDraft .recoveredTook v.lane false e)
  set u := (s.convert e.berth e.riders e.charge).record e.reservation (entryDraft .recoveredTook v.lane false e) with taken
  have lane : u.lane v.lane = s.lane v.lane := by
    rw [taken, lane_record, State.convert, lane_atBerth]
  have busy_still : (u.removeEntry e.card).engine = some v := by
    rw [show (u.removeEntry e.card).engine = u.engine from rfl, taken, record_engine, engine, busy]
  have removed := recorded.removeEntry (e := e) (by rw [taken, record_shape]; exact recovery ▸ member)
  have ended := removed.leaves v.lane
  rw [removed.books_of_inFlight busy_still, add_zero] at ended
  have left : ((u.removeEntry e.card).endTransaction v.lane).lane v.lane = { s.lane v.lane with txn := .none } := by
    rw [State.endTransaction, lane_onLane_self, show (u.removeEntry e.card).lane v.lane = u.lane v.lane from rfl, lane]
  have riders := sound.recovery.riders e member
  refine ((ended.grantCredits (n := e.riders) (b := e.berth) ?_ ?_ ?_ ?_ riders ?_ ?_).freeEngine (fun x held => ?_) _).cast ?_
  · rw [left, ← berth]
    exact mode
  · rw [left]
  · rw [left]
    exact online
  · exact (record_releaseActive ..).trans (release.trans outside)
  · rw [left]
    exact room
  · simp [heldBook, grantedBook, reservedBook, RecoveryEntry.books_granted]
  · rw [engine_grantCredits] at held
    cases busy_still.symm.trans held
    rfl
  · rw [RecoveryEntry.books]
    abel

theorem retry (sound : s.Sound 0 .midway) (busy : s.engine = some v) (member : e ∈ s.recovery) (berth : v.berth = e.berth)
    (room : (s.lane v.lane).credits + e.riders ≤ 15) : (s.retry v e).Sound 0 .midway := by
  have removed := sound.removeEntry member
  refine (removed.takeAdmission (w := retryWrite e s.settings.writeTime) busy berth.symm rfl (sound.recovery.riders e member)
    room v.image e.watch).cast ?_
  show 0 + (heldBook e.berth e.riders + reservedBook e.reservation) - _ = _
  exact (congrArg (· - _) (zero_add _)).trans (sub_self _)

theorem runRecoveryMatch (sound : s.Sound 0 .midway) (busy : s.engine = some v) : (s.runRecoveryMatch v).Sound 0 .midway := by
  unfold State.runRecoveryMatch
  split
  · next e found =>
    have member := List.mem_of_find?_eq_some found
    unfold resolve
    split_ifs with elsewhere after lacks before lacks
    · exact sound.refuse busy _ _
    · exact sound.refuse busy _ _
    · exact sound.took busy member (not_not.mp elsewhere) (room_of_lacks lacks)
    · exact sound.refuse busy _ _
    · exact sound.retry busy member (not_not.mp elsewhere) (room_of_lacks lacks)
    · exact (sound.closeEntry member false).goOn_same ((s.engine_closeEntry false e).trans busy) nofun
  · exact sound.goOn_same busy nofun

/-! ### The other stages (R46 to R53) -/

theorem runService (sound : s.Sound 0 .midway) (busy : s.engine = some v) : (s.runService v).Sound 0 .midway := by
  unfold State.runService
  split_ifs
  · exact sound.refuse busy _ _
  · exact sound.refuse busy _ _
  · exact sound.goOn_same busy nofun

theorem runCardStatus (sound : s.Sound 0 .midway) (busy : s.engine = some v) : (s.runCardStatus v).Sound 0 .midway := by
  unfold State.runCardStatus
  split
  · exact sound
  · split
    · exact sound.refuse busy _ _
    · exact sound.goOn_same busy nofun
    · exact sound.goOn_same busy nofun
    · exact sound.goOn_same busy nofun

theorem runProduct (sound : s.Sound 0 .midway) (busy : s.engine = some v) : (s.runProduct v).Sound 0 .midway := by
  unfold State.runProduct
  split
  · exact sound
  · next k referenced =>
    have fields : k.fieldsInRange := by
      obtain ⟨i, -, rfl⟩ := Option.map_eq_some_iff.mp referenced
      exact sound.bank i
    dsimp only
    split
    · exact sound.refuse busy _ _
    · split
      · exact sound.refuse busy _ _
      · refine sound.goOn busy rfl rfl rfl fun q found => ⟨?_, nofun⟩
        obtain rfl := Option.some.inj found
        exact (fields.1 _).1

theorem runPassback (sound : s.Sound 0 .midway) (busy : s.engine = some v) : (s.runPassback v).Sound 0 .midway := by
  unfold State.runPassback
  split
  · exact sound
  · split_ifs
    · exact sound.refuse busy _ _
    · exact sound.goOn_same busy nofun

theorem runBerthState (sound : s.Sound 0 .midway) (busy : s.engine = some v) : (s.runBerthState v).Sound 0 .midway := by
  unfold State.runBerthState
  split
  · exact sound.refuse busy _ _
  · exact sound.goOn_same busy nofun

theorem countFree (sound : s.Sound d p) (used : Bool) : (s.countFree used).Sound d p := by
  cases used
  · exact sound
  · exact sound.of_same

theorem runFare (sound : s.Sound 0 .midway) (busy : s.engine = some v) : (s.runFare v).Sound 0 .midway := by
  have counted (used : Bool) : (s.countFree used).engine = some v := by
    cases used <;> exact busy
  unfold State.runFare
  split
  · dsimp only
    split
    · exact (sound.countFree _).refuse (counted _) _ _
    · exact (sound.countFree _).goOn_same (counted _) nofun
  · exact sound

theorem runLaneRoom (sound : s.Sound 0 .midway) (busy : s.engine = some v) : (s.runLaneRoom v).Sound 0 .midway := by
  unfold State.runLaneRoom
  split
  · exact sound
  · next q found =>
    split_ifs with lacks
    · exact sound.refuse busy _ _
    · refine sound.goOn busy rfl rfl rfl fun r same => ?_
      cases found.symm.trans same
      exact ⟨((sound.inFlight busy).2.2 q found).1, fun _ => room_of_lacks lacks⟩

/-! ### The decision event (R54, R55) -/

theorem admission (sound : s.Sound 0 .midway) (busy : s.engine = some v) {q : Product} {charge : Nat} {priority : Bool}
    (places : (s.berth v.berth).holdRefusal q.riders priority = none) (journal : ¬ s.lacksJournalRoom charge = true)
    (riders : 1 ≤ q.riders) (room : (s.lane v.lane).credits + q.riders ≤ 15) (image : NewImage) :
    (s.admission v q charge image).Sound 0 .midway := by
  have held := sound.hold places
  have beside : (s.hold v.berth q.riders).engine = s.engine ∧ (s.hold v.berth q.riders).journal = s.journal := by
    rw [State.hold, atBerth_shape]
    exact ⟨rfl, rfl⟩
  have lane : (s.hold v.berth q.riders).lane v.lane = s.lane v.lane := lane_atBerth ..
  obtain ⟨engine, same⟩ := beside
  set u := s.hold v.berth q.riders
  have reserved : (if 0 < charge then u.reserve else u).Sound (0 + heldBook v.berth q.riders + reservedBook (decide (0 < charge)))
      .midway ∧ (if 0 < charge then u.reserve else u).engine = some v ∧
      (if 0 < charge then u.reserve else u).lane v.lane = s.lane v.lane := by
    by_cases paid : 0 < charge
    · have free : u.journal.occupancy < 2048 := by
        rw [same]
        refine Nat.lt_of_not_le fun full => journal ?_
        rw [lacksJournalRoom, decide_eq_true paid, Bool.true_and]
        exact decide_eq_true full
      rw [if_pos paid, decide_eq_true paid]
      exact ⟨held.reserve free, by rw [reserve_engine, engine, busy], by rw [lane_reserve, lane]⟩
    · rw [if_neg paid, decide_eq_false paid, reservedBook_false, add_zero]
      exact ⟨held, engine.trans busy, lane⟩
  obtain ⟨kept, still, lane⟩ := reserved
  refine (kept.takeAdmission (w := s.newWrite v q charge image) still rfl rfl riders (by rw [lane]; exact room) v.image
    v.watch).cast ?_
  show 0 + heldBook v.berth q.riders + reservedBook (decide (0 < charge)) -
    (heldBook v.berth q.riders + reservedBook (decide (0 < charge))) = 0
  abel

theorem runDecision (sound : s.Sound 0 .midway) (busy : s.engine = some v) (last : v.stage = .decision) :
    (s.runDecision v).Sound 0 .midway := by
  unfold State.runDecision
  split
  · next k q charge image referenced found fare =>
    obtain ⟨riders, room⟩ := (sound.inFlight busy).2.2 q found
    split_ifs with full
    · exact sound.refuse busy _ _
    · split
      · exact (sound.countHoldRefusal v.berth).refuse busy _ _
      · next places => exact sound.admission busy places full riders (room last) image
  · exact sound

theorem atStage (sound : s.Sound 0 .rest) (stage : Stage) {run : State → Validation → State}
    (keeps : ∀ v, s.engine = some v → v.stage = stage → (run s v).Sound 0 .midway) : (s.atStage stage run).Sound 0 .rest := by
  unfold State.atStage
  split
  · next v busy =>
    split_ifs with here
    · exact (keeps v busy here).endEvent _
    · exact sound
  · exact sound

end Sound
end State
end Sys2Proof.Machine
end

section
/-! Release, the turnover and the control reset under the laws of admission (spec/06, spec/09, spec/10). -/

namespace Sys2Proof.Machine

/-- The law of a berth does not speak of its halt flag. -/
theorem Berth.Law.told {y : Berth} (law : y.Law) (halted : Bool) : ({ y with halted := halted } : Berth).Law := law

namespace State
namespace Sound

variable {s t : State} {d : Books} {p : Phase} {l : LaneId} {b : BerthId}

theorem foldl {α : Type} {act : State → α → State} (keeps : ∀ (t : State) x, t.Sound d p → (act t x).Sound d p)
    (xs : List α) (sound : s.Sound d p) : (xs.foldl act s).Sound d p := by
  induction xs generalizing s with
  | nil => exact sound
  | cons x xs ih => exact ih (keeps s x sound)

theorem eachLane {act : State → LaneId → State} (keeps : ∀ (t : State) l, t.Sound d p → (act t l).Sound d p)
    (sound : s.Sound d p) : (s.eachLane act).Sound d p := sound.foldl keeps allLanes

/-- Entries closed one after another (R102). -/
theorem closeEntries (sound : s.Sound 0 p) (release : Bool) (which : RecoveryEntry → Bool) :
    (s.closeEntries release which).Sound 0 p := by
  have each (es : List RecoveryEntry) (u : State) (sound : u.Sound 0 p) (distinct : (es.map (·.card)).Nodup)
      (listed : ∀ e ∈ es, e ∈ u.recovery) : (es.foldl (fun t e => t.closeEntry release e) u).Sound 0 p := by
    induction es generalizing u with
    | nil => exact sound
    | cons e es ih =>
      rw [List.map_cons, List.nodup_cons] at distinct
      refine ih _ (sound.closeEntry (listed e List.mem_cons_self) release) distinct.2 fun x later => ?_
      show x ∈ (u.closeEntry release e).recovery
      rw [closeEntry_shape]
      have apart : x.card ≠ e.card := fun same => distinct.1 (same ▸ List.mem_map_of_mem later)
      exact (List.mem_eraseP_of_neg (by simpa using apart)).mpr (listed x (List.mem_cons_of_mem e later))
  exact each _ s sound (sound.recovery.distinct.sublist (List.filter_sublist.map _)) fun e member => List.mem_of_mem_filter member

theorem lane_closeEntries (s : State) (release : Bool) (which : RecoveryEntry → Bool) (l : LaneId) :
    (s.closeEntries release which).lane l = s.lane l := by
  unfold State.closeEntries
  generalize s.recovery.filter which = es
  induction es generalizing s with
  | nil => rfl
  | cons e es ih => rw [List.foldl_cons, ih, lane_closeEntry]

/-- A change of every lane, of release and of the engine. -/
theorem relaned (sound : s.Sound d p) {q : Phase} (books : ∀ l, (t.lane l).books = (s.lane l).books)
    (law : ∀ l, (t.lane l).Law t.releaseActive (q.parts l)) (engine : ∀ l, (t.lane l).EngineLaw q t.engine l)
    (emptied : t.releaseActive = true → s.recovery = []) (berths : t.berths = s.berths := by rfl)
    (recovery : t.recovery = s.recovery := by rfl) (journal : t.journal = s.journal := by rfl)
    (bankA : t.bankA = s.bankA := by rfl) (bankB : t.bankB = s.bankB := by rfl) : t.Sound d q where
  balance := by
    have owned : t.owned = s.owned := by simp only [State.owned, books, recovery]
    have entered : t.entered = s.entered :=
      entered_of_same (fun b => by rw [berth_congr berths]; exact ⟨rfl, rfl⟩) (by rw [journal])
    rw [← sound.balance, State.balance, State.balance, owned, entered]
  berth b := by
    rw [berth_congr berths]
    exact sound.berth b
  lane := law
  engine := engine
  recovery := by
    obtain ⟨few, distinct, riders, -⟩ := sound.recovery
    rw [recovery]
    exact ⟨few, distinct, riders, emptied⟩
  occupancy := by
    rw [journal]
    exact sound.occupancy
  fields := by
    rw [bankA, bankB]
    exact sound.fields

/-- With no tap undecided the engine may be let go. -/
theorem decided (undecided : ∀ l, (t.lane l).txn.isUndecided = false) (free : t.engine = none) (l : LaneId) :
    (t.lane l).EngineLaw .rest t.engine l := by
  refine ⟨nofun, fun _ v busy => ?_, fun image validating => ?_, fun _ _ => Lane.isWaiting_of_decided (undecided l)⟩
  · cases free.symm.trans busy
  · cases (undecided l).symm.trans (Lane.isUndecided_of_validating validating)

/-! ### The start of release (R161) -/

theorem law_enterRelease {x : Lane} (law : x.Law false false) : x.enterRelease.Law false false := by
  refine ⟨?_, law.leaf, law.timer, law.online.imp_right (.imp_right fun idle => ⟨?_, idle.2⟩), nofun⟩
  · cases at_lane : x.txn with
    | writing image w =>
      exact Lane.txnLawful_of_fewer (y := x.enterRelease) law.txn (by rw [Lane.enterRelease, at_lane]) rfl le_rfl
    | _ => exact Lane.txnLawful_of_idle (by rw [Lane.enterRelease, at_lane])
  · rw [Lane.enterRelease, idle.1]

theorem books_enterRelease (x : Lane) : x.enterRelease.books = x.books := by
  have txn : x.enterRelease.txn.books = x.txn.books := by
    rw [Lane.enterRelease]
    cases x.txn <;> rfl
  rw [Lane.books, txn, Lane.books]
  rfl

theorem releaseActive_dropped (s : State) : s.dropped.releaseActive = s.releaseActive := by rw [State.dropped, onLanes]

theorem dropped (sound : s.Sound 0 .rest) (outside : s.releaseActive = false) : s.dropped.Sound 0 .rest := by
  refine sound.relaned (fun l => ?_) (fun l => ?_) (decided (fun l => ?_) rfl) (fun active => ?_)
    (by rw [State.dropped, onLanes]) (by rw [State.dropped, onLanes]) (by rw [State.dropped, onLanes])
    (by rw [State.dropped, onLanes]) (by rw [State.dropped, onLanes])
  · rw [lane_dropped, books_enterRelease]
  · have law := sound.lane l
    rw [lane_dropped, releaseActive_dropped, outside]
    rw [outside] at law
    exact law_enterRelease law
  · rw [lane_dropped, Lane.enterRelease]
    cases (s.lane l).txn <;> rfl
  · rw [releaseActive_dropped, outside] at active
    cases active

theorem listed_frame {v w : State} {es : List RecoveryEntry} {m : Half} (whole : v = { w with recovery := es, flags := m }) :
    (∀ l, v.lane l = w.lane l) ∧ (∀ b, v.berth b = w.berth b) ∧ v.engine = w.engine ∧ v.recovery = es := by
  subst whole
  exact ⟨fun _ => rfl, fun _ => rfl, rfl, rfl⟩

/-- The device once the credits are forfeited, the writes orphaned and the entries closed. -/
theorem emptied_frame (sound : s.placesSound) (outside : s.releaseActive = false) {u : State}
    (emptied : ((s.dropped.eachLane fun t l => t.forfeitAll l true).eachLane State.orphan).closeEntries true (fun _ => true) =
      u) : (∀ l, u.lane l = (s.lane l).stopped) ∧ u.engine = none ∧ u.recovery = [] := by
  set c := s.dropped.charge s.releaseRecords fun b =>
    .releases (s.berth b).counts.held ∘ .forfeits (s.berth b).counts.granted with charged
  obtain ⟨lanes, -, engine, recovery⟩ := listed_frame (w := c.onLanes fun _ x => { x.losing with txn := x.losing.txn.orphan })
    (emptied.symm.trans (releaseEmptied sound))
  refine ⟨fun l => ?_, ?_, recovery⟩
  · have lawful := sound.lane_lawful l
    rw [outside] at lawful
    rw [lanes, lane_onLanes, charged, lane_charge, lane_dropped, Lane.stopped_eq lawful]
  · rw [engine, State.onLanes, charged, charge_shape]
    rfl

theorem releaseBegins (sound : s.Sound 0 .rest) (outside : s.releaseActive = false) : s.releaseBegins.Sound 0 .rest := by
  have places := placesSound_iff.mpr sound
  have begins : s.dropped = { s.eachLane fun t l => t.onLane l Lane.enterRelease with engine := none } := by
    rw [eachLane_onLane fun _ => Lane.enterRelease, State.dropped]
  have kept := (((sound.dropped outside).eachLane fun t l now => now.forfeitAll l true).eachLane
    fun t l now => now.orphan l).closeEntries true fun _ => true
  generalize emptied : ((s.dropped.eachLane fun t l => t.forfeitAll l true).eachLane State.orphan).closeEntries true
    (fun _ => true) = u at kept
  obtain ⟨lane, engine, recovery⟩ := emptied_frame places outside emptied
  have active : ({ u with releaseActive := true } : State).Sound 0 .rest := by
    refine kept.relaned (fun l => rfl) (fun l => ?_) (decided (fun l => ?_) engine) fun _ => recovery
    · show (u.lane l).Law true false
      have law := kept.lane l
      rw [lane] at law ⊢
      have none_left : (s.lane l).stopped.credits = 0 := by
        show Leaf.credits (if (s.lane l).leaf = .fault then .fault else .shut) = 0
        split_ifs <;> rfl
      refine ⟨?_, fun n opened => ?_, law.timer, law.online, fun _ => rfl⟩
      · cases at_lane : (s.lane l).txn with
        | writing image w =>
          have writing : (s.lane l).stopped.txn = .writing image { w with orphaned := true } := by
            rw [Lane.stopped, at_lane]
          obtain ⟨⟨b, mode⟩, riders, -⟩ := law.of_writing writing
          rw [Lane.txnLawful, writing]
          simp [mode, Mode.berth?, riders]
        | _ => exact Lane.txnLawful_of_idle (by rw [Lane.stopped, at_lane])
      · rw [Lane.credits, opened] at none_left
        obtain ⟨least, -⟩ := law.leaf n opened
        cases none_left
        cases least
    · show (u.lane l).txn.isUndecided = false
      rw [lane, Lane.stopped]
      cases (s.lane l).txn <;> rfl
  have opened := (active.eachLane fun t l now => (now.reworkGate l).showFreeExit l).raise .releaseChange
  rw [← emptied, begins] at opened
  exact opened

/-! ### The end of release (R163) -/

theorem showAfterRelease (sound : s.Sound d p) (l : LaneId) : (s.showAfterRelease l).Sound d p := by
  unfold State.showAfterRelease
  split
  · exact sound.askShow l _
  · exact sound.askShow l _
  · exact sound

theorem releaseEnds (sound : s.Sound 0 .rest) (active : s.releaseActive = true) : s.releaseEnds.Sound 0 .rest := by
  set u : State := { s.eachLane fun t l => t.onLane l Lane.leaveRelease with releaseActive := false } with restored
  have shape : u = { s.onLanes fun _ => Lane.leaveRelease with releaseActive := false } := by
    rw [restored, eachLane_onLane fun _ => Lane.leaveRelease]
  have lane (l : LaneId) : u.lane l = (s.lane l).leaveRelease := by
    rw [lane_congr (t := s.onLanes fun _ => Lane.leaveRelease) (s := u) (by rw [shape]), lane_onLanes]
  have off : u.releaseActive = false := by
    rw [shape]
  have law (l : LaneId) : (s.lane l).Law true false := active ▸ sound.lane l
  have mode (l : LaneId) : (s.lane l).leaveRelease.mode = (s.lane l).mode := (law l).saved rfl
  have none_left (l : LaneId) : (s.lane l).credits = 0 := by
    by_contra credits
    obtain ⟨-, -, outside, -⟩ := (law l).of_credits credits
    cases outside
  have undecided (l : LaneId) : (s.lane l).txn.isUndecided = false := by
    by_contra undecided
    obtain ⟨-, outside⟩ := (law l).of_undecided (Bool.eq_true_of_not_eq_false undecided)
    cases outside
  have kept : u.Sound 0 .rest := by
    refine sound.relaned (fun l => ?_) (fun l => ?_) (fun l => ?_) (fun release => ?_) (by rw [shape, onLanes]) (by rw [shape, onLanes])
      (by rw [shape, onLanes]) (by rw [shape, onLanes]) (by rw [shape, onLanes])
    · rw [lane]
      exact Lane.books_congr rfl (mode l) (none_left l).symm
    · rw [lane, off]
      have law := law l
      have work : (s.lane l).leaveRelease.txnLawful false = true := by
        cases at_lane : (s.lane l).txn with
        | writing image w =>
          obtain ⟨⟨b, entry⟩, riders, live⟩ := law.of_writing at_lane
          have orphan : w.orphaned = true := by
            by_contra live'
            obtain ⟨-, outside, -⟩ := live (Bool.eq_false_of_not_eq_true live')
            cases outside
          have writing : (s.lane l).leaveRelease.txn = .writing image w := at_lane
          simp [Lane.txnLawful, writing, mode, entry, Mode.berth?, riders, orphan]
        | none => exact Lane.txnLawful_of_idle at_lane
        | waiting image | validating image =>
          have decided := undecided l
          rw [at_lane] at decided
          cases decided
      refine ⟨work, nofun, ?_, law.online.imp_right (.imp_right fun idle => ⟨idle.1, rfl⟩), nofun⟩
      refine law.timer.trans ?_
      rw [none_left]
      rfl
    · have engine : u.engine = s.engine := by
        rw [shape, onLanes]
      rw [lane, engine]
      exact (sound.engine l).eased ⟨.inr ⟨undecided l, undecided l⟩⟩
    · cases off.symm.trans release
  exact ((kept.eachLane fun t l now => now.renewGate l).eachLane fun t l now => now.showAfterRelease l).raise .releaseChange

theorem workOutRelease (sound : s.Sound 0 .rest) : s.workOutRelease.Sound 0 .rest := by
  unfold State.workOutRelease
  split_ifs with starts ends
  · exact sound.releaseBegins (by simpa using (Bool.and_eq_true_iff.mp starts).2)
  · exact sound.releaseEnds (Bool.and_eq_true_iff.mp ends).2
  · exact sound

/-- The halts and release follow the lines (R157). -/
theorem followLines (sound : s.Sound 0 .rest) : s.followLines.Sound 0 .rest := by
  have told : s.tellHalts.Sound 0 .rest := sound.foldl (act := fun t b => t.onBerth b fun x =>
    { x with halted := s.haltCondition b }) (fun t b now => now.onBerth_aside ((now.berth b).told _) rfl rfl) allBerths
  unfold State.followLines
  dsimp only
  split_ifs
  · exact told
  · exact Sound.workOutRelease (s := { s.tellHalts with lineSource := s.tellHalts.releaseLineLow }) told.of_same

/-! ### The turnover (R110, R111) -/

theorem turnoverForfeit (sound : s.Sound 0 p) (b : BerthId) (l : LaneId) : (s.turnoverForfeit b l).Sound 0 p := by
  unfold State.turnoverForfeit
  split_ifs
  · exact (sound.forfeitAll l false).reworkGate l
  · exact sound

theorem turnoverOrphan (sound : s.Sound 0 p) (b : BerthId) (l : LaneId) : (s.turnoverOrphan b l).Sound 0 p := by
  unfold State.turnoverOrphan
  split
  · split_ifs
    · exact sound.orphan l
    · exact sound
  · exact sound

theorem berth_onLanes (s : State) (f : LaneId → Lane → Lane) (b : BerthId) : (s.onLanes f).berth b = s.berth b :=
  berth_congr (by rw [onLanes]) b

/-- A berth that neither holds nor grants a place closes its manifest and is IDLE (R110, R111). -/
theorem finishTurnover (sound : s.Sound d p) (held : (s.berth b).counts.held = 0) (granted : (s.berth b).counts.granted = 0) :
    (s.finishTurnover b).Sound d p := by
  have recorded := sound.record_free (manifestDraft b ⟨((s.berth b).vessel.map (·.number)).getD 0, (s.berth b).counts⟩)
  rw [finishTurnover_eq]
  refine Sound.onBerth_aside (b := b) (f := fun _ => (s.berth b).closeManifest.clearVessel) recorded ?_ ?_ ?_
  · exact ⟨rfl, le_rfl⟩
  · rw [berth_record, held]
    rfl
  · rw [berth_record, granted]
    rfl

theorem turnover (sound : s.Sound 0 .rest) (b : BerthId) : (s.turnover b).Sound 0 .rest := by
  have places := placesSound_iff.mpr sound
  have kept := ((sound.eachLane fun t l now => now.turnoverForfeit b l).eachLane
    fun t l now => now.turnoverOrphan b l).closeEntries false (·.berth == b)
  obtain ⟨-, berths, -⟩ := listed_frame (turnoverEmptied places b)
  have own := berths b
  rw [berth_onLanes, berth_withBerth, Berth.emptied (places.1 b).1] at own
  have counts := (congrArg Berth.counts own).trans (Berth.follow_frame _).1
  exact kept.finishTurnover (congrArg Counts.held counts) (congrArg Counts.granted counts)

end Sound
end State
end Sys2Proof.Machine
end

section
/-! The requests of the depot under the laws of admission, and the control reset (spec/10). -/

namespace Sys2Proof.Machine

-- One proof after the other: proofs elaborated side by side take a thread each.
set_option Elab.async false

namespace Berth

variable {y : Berth}

/-- A vessel arrives at a berth that has nothing open (R107). -/
theorem Law.arrive (law : y.Law) (idle : y.state = .idle) (gangway number capacity aboard reserve : Nat) (band : RouteBand) :
    (y.arrive gangway number capacity aboard reserve band).Law := by
  have zero := law.zero_of_idle idle
  refine ⟨?_, ?_⟩
  · simp [Berth.lawful, Berth.arrive, zero, Counts.zero]
  · have none_committed : y.counts.committed = 0 := by
      rw [zero]
      rfl
    show y.counts.committed ≤ _
    omega

/-- A berth with a vessel at which the state alone changes. -/
theorem Law.loaded (law : y.Law) (alongside : y.state = .alongside) (unit : Nat) :
    (loadQuiet unit { y with state := .boarding }).Unfollowed := by
  obtain ⟨fits, -, moored, -⟩ := law.unfollowed
  exact ⟨fits, nofun, fun _ => moored (by rw [alongside]; decide), nofun⟩

theorem Law.shut (law : y.Law) (takes : y.state.takesPassengers = true) :
    ({ y with state := .closed, quietTimer := none, lastCall := false } : Berth).Law := by
  obtain ⟨fits, -, moored, -⟩ := law.unfollowed
  refine ⟨moored ?_, fits⟩
  rintro idle
  rw [idle] at takes
  cases takes

theorem Law.restate (law : y.Law) (busy : y.state ≠ .idle) (gangway capacity aboard : Nat) :
    (y.restate gangway capacity aboard).Unfollowed := by
  obtain ⟨-, -, moored, alongside⟩ := law.unfollowed
  refine ⟨le_max_right _ _, fun idle => absurd idle busy, fun _ => ?_, alongside⟩
  rw [Berth.restate, Option.isSome_map]
  exact moored busy

/-- The law of a berth does not speak of its count source, its quiet timer or its last-call mark. -/
theorem Law.sourced (law : y.Law) (source : CountSource) : ({ y with source := source } : Berth).Law := law

theorem Law.callLast (law : y.Law) (unit : Nat) : (y.callLast unit).Law := law

end Berth

namespace State
namespace Sound

variable {s t : State} {d : Books} {p : Phase} {l : LaneId} {b : BerthId}

/-! ### The control reset (R173) -/

theorem endEverything (sound : s.Sound 0 .rest) : s.endEverything.Sound 0 .rest := by
  have places := placesSound_iff.mpr sound
  have reset := sound.opened.eachLane fun t l now => now.laneReset l .controlReset
  have own (l : LaneId) : s.endEverything.lane l = (s.lane l).resetFor s.releaseActive .controlReset := by
    obtain ⟨m, whole⟩ := endEverything_shape places
    rw [whole]
    simp [State.lane]
  unfold State.endEverything at own ⊢
  generalize s.eachLane (fun t l => t.laneReset l .controlReset) = u at reset own
  have idle (l : LaneId) : (u.lane l).txn = .none := by
    rw [← show State.lane { u with engine := none } l = u.lane l from rfl,
      ← lane_closeEntries _ false (fun _ => true) l, own, Lane.txn_resetFor]
  have free : ({ u with engine := none } : State).Sound 0 .rest :=
    reset.relaned (fun _ => rfl) reset.lane
      (decided (fun l => by rw [show State.lane { u with engine := none } l = u.lane l from rfl, idle]; rfl) rfl)
      reset.recovery.release
  exact free.closeEntries false _

theorem reloadSilence (sound : s.Sound d p) : s.reloadSilence.Sound d p := by
  unfold State.reloadSilence
  split_ifs
  · exact sound.of_same
  · exact sound.of_same

theorem defaultSettings (sound : s.Sound 0 .rest) : s.defaultSettings.Sound 0 .rest := by
  have defaults : ({ s with settings := Settings.defaults } : State).Sound 0 .rest := sound.of_same
  exact (defaults.foldl (act := fun t i => t.onLine i (.remap .unused)) (fun t i now => now.of_same)
    allLines).reloadSilence.followLines

theorem clearAndDefault (sound : s.Sound 0 .rest) : s.clearAndDefault.Sound 0 .rest := by
  have cleared : ({ s with flags := 0 } : State).Sound 0 .rest := sound.of_same
  unfold State.clearAndDefault
  dsimp only
  split_ifs
  · exact cleared
  · exact cleared.defaultSettings

theorem controlReset (sound : s.Sound 0 .rest) : s.controlReset.Sound 0 .rest := by
  have cleared := sound.endEverything.clearAndDefault
  unfold State.controlReset
  generalize s.endEverything.clearAndDefault = u at cleared
  exact Sound.arbitrate (Sound.workOutRelease (s := { u with frameSource := false }) cleared.of_same).opened

/-! ### The berth requests -/

theorem takeArrive (sound : s.Sound d p) (vessel capacity aboard : Half) (reserve band : Byte) (b : BerthId) :
    (takeArrive vessel capacity aboard reserve band b s).1.Sound d p := by
  unfold Machine.takeArrive
  split
  · exact sound
  · split_ifs with idle
    · exact sound.onBerth_aside ((sound.berth b).arrive idle _ _ _ _ _ _) rfl rfl
    · exact sound

theorem takeOpen (sound : s.Sound d p) (b : BerthId) : (takeOpen b s).1.Sound d p := by
  unfold Machine.takeOpen
  split_ifs with alongside
  · exact sound.atBerth_aside (f := fun x => { x with state := .boarding }.loadQuiet s.settings.quietUnit)
      ((sound.berth b).loaded alongside _) rfl rfl
  · exact sound

theorem takeClose (sound : s.Sound d p) (b : BerthId) : (takeClose b s).1.Sound d p := by
  unfold Machine.takeClose
  split_ifs with takes
  · exact sound.onBerth_aside (f := fun x => { x with state := .closed, quietTimer := none, lastCall := false })
      ((sound.berth b).shut takes) rfl rfl
  · exact sound

theorem takeDepart (sound : s.Sound 0 .rest) (b : BerthId) : (takeDepart b s).1.Sound 0 .rest := by
  unfold Machine.takeDepart
  split_ifs
  · exact sound
  · exact sound.turnover b

theorem takeCapacity (sound : s.Sound d p) (capacity aboard : Half) (b : BerthId) :
    (takeCapacity capacity aboard b s).1.Sound d p := by
  unfold Machine.takeCapacity
  split_ifs with idle
  · exact sound
  · have raised := sound.raiseIf (decide (effectiveCapacity (clamp 0 Config.maxPlaces capacity.toNat)
      (clamp 0 Config.maxPlaces aboard.toNat) (s.gangway b) < (s.berth b).counts.committed)) .capacityClamped
    have same : (s.raiseIf (decide (effectiveCapacity (clamp 0 Config.maxPlaces capacity.toNat)
      (clamp 0 Config.maxPlaces aboard.toNat) (s.gangway b) < (s.berth b).counts.committed)) .capacityClamped).berth b =
        s.berth b := by
      unfold State.raiseIf
      split_ifs <;> rfl
    refine raised.atBerth_aside ?_ ?_ ?_
    · rw [same]
      exact (sound.berth b).restate idle _ _ _
    · rfl
    · rfl

theorem takeSource (sound : s.Sound d p) (source : Byte) (b : BerthId) : (takeSource source b s).1.Sound d p := by
  unfold Machine.takeSource
  split
  · exact sound
  · split_ifs
    · exact sound
    · next source _ _ =>
      exact sound.onBerth_aside (f := fun y => { y with source := source }) ((sound.berth b).sourced _) rfl rfl

/-! ### The lane requests -/

/-- A mode taken at an idle lane with a SHUT leaf (R39). -/
theorem takeMode (sound : s.Sound d p) (idle : (s.lane l).txn = .none) (shut : (s.lane l).leaf = .shut)
    (outside : s.releaseActive = false) (m : Mode) : (s.takeMode l m).Sound d p := by
  have law := sound.lane l
  have kept : ((s.lane l).takeMode m).txn = .none ∧ ((s.lane l).takeMode m).leaf = .shut ∧
      ((s.lane l).takeMode m).holdTimer = (s.lane l).holdTimer := by
    unfold Lane.takeMode
    split_ifs <;> exact ⟨idle, shut, rfl⟩
  obtain ⟨txn, leaf, timer⟩ := kept
  have none_left {x : Lane} (leaf : x.leaf = .shut) : x.credits = 0 := by
    rw [Lane.credits, leaf]
    rfl
  refine Sound.of_same (s := s.onLane l (.takeMode m)) (sound.onLane_balanced ⟨Lane.txnLawful_of_idle txn, fun n opened => ?_, ?_,
    .inr (.inr ⟨txn, none_left leaf⟩), fun release => ?_⟩ ⟨.inr ⟨by rw [idle]; rfl, by rw [txn]; rfl⟩⟩ ?_)
  · cases leaf.symm.trans opened
  · rw [timer, law.timer, none_left leaf, none_left shut]
  · cases outside.symm.trans release
  · rw [Lane.books_of_idle txn, Lane.books_of_idle idle, Lane.creditBook_of_none (none_left leaf),
      Lane.creditBook_of_none (none_left shut)]

theorem takeLaneSetup (sound : s.Sound d p) (lane mode berth : Byte) : (takeLaneSetup lane mode berth s).1.Sound d p := by
  unfold Machine.takeLaneSetup
  split
  · next l m _ _ =>
    split_ifs with release free
    · exact sound
    · obtain ⟨idle, shut⟩ := free
      exact (sound.takeMode idle shut (Bool.eq_false_of_not_eq_true release) m).renewGate l
    · exact sound
  · exact sound

theorem takeLaneReset (sound : s.Sound 0 .rest) (l : LaneId) : (takeLaneReset l s).1.Sound 0 .rest :=
  (sound.opened.laneReset l .depot).arbitrate

theorem takeLaneRead (sound : s.Sound d p) (option : Byte) (l : LaneId) : (takeLaneRead option l s).1.Sound d p := by
  unfold Machine.takeLaneRead
  dsimp only
  split_ifs
  · exact sound.onLane_aside {}
  · exact sound

/-! ### The requests of the Journal, the settings, the clock, the lines and release -/

theorem takeJournalRelease (sound : s.Sound d p) (sequence : Quad) : (takeJournalRelease sequence s).1.Sound d p := by
  unfold Machine.takeJournalRelease
  split
  · exact sound.of_same (records := by
      dsimp only
      rw [List.length_drop]
      exact Nat.sub_le _ _)
  · exact sound

theorem takeJournalStatus (sound : s.Sound d p) (option : Byte) : (takeJournalStatus option s).1.Sound d p := by
  unfold Machine.takeJournalStatus
  dsimp only
  split_ifs
  · exact sound.of_same
  · exact sound

theorem takeSettingWrite (sound : s.Sound d p) (setting berth : Byte) (value : Half) :
    (takeSettingWrite setting berth value s).1.Sound d p := by
  unfold Machine.takeSettingWrite
  split
  · exact sound
  · split
    · exact sound
    · rw [putSetting_shape]
      exact sound.of_same

theorem takeClockSet (sound : s.Sound d p) (day : Half) (secs : Quad) : (takeClockSet day secs s).1.Sound d p :=
  Sound.handTime (s := s.setClock _ _) sound.of_same

theorem takeRelease (sound : s.Sound 0 .rest) (source : Bool) : (takeRelease source s).1.Sound 0 .rest :=
  Sound.arbitrate (Sound.workOutRelease (s := { s with frameSource := source }) sound.of_same).opened

theorem takeLineSetup (sound : s.Sound 0 .rest) (line entry parameter options : Byte) :
    (takeLineSetup line entry parameter options s).1.Sound 0 .rest := by
  unfold Machine.takeLineSetup
  split
  · next i e _ _ => exact Sound.arbitrate (Sound.followLines (s := s.onLine i (.remap e)) sound.of_same).opened
  · exact sound

end Sound
end State
end Sys2Proof.Machine
end

section
/-! Every step keeps the laws of admission (R42, R91, R106, R114, R117, R147, R162). -/

namespace Sys2Proof.Machine

-- One proof after the other: proofs elaborated side by side take a thread each.
set_option Elab.async false

namespace State
namespace Sound

variable {s t : State} {l : LaneId} {b : BerthId}

/-! ### Requests and replies (R166, R167) -/

theorem goodFrame (sound : s.Sound 0 .rest) : s.goodFrame.Sound 0 .rest := sound.of_same

theorem reply (sound : s.Sound 0 .rest) (kind : RequestKind) (tag : Byte) (body : ReplyBody) :
    (s.reply kind tag body).Sound 0 .rest := sound.of_same

/-- An answer keeps what its owner keeps. -/
theorem answer {kind : RequestKind} {tag : Byte} {owner : State → State × ReplyBody}
    (keeps : ∀ u : State, u.Sound 0 .rest → (owner u).1.Sound 0 .rest) (sound : s.Sound 0 .rest) :
    (s.answer kind tag owner).Sound 0 .rest := by
  unfold State.answer
  dsimp only
  split
  · exact sound.goodFrame.reply ..
  · exact ((keeps _ sound.goodFrame).notify _).reply ..

theorem inRange {α : Type} {unit : Option α} {owner : α → State → State × ReplyBody}
    (keeps : ∀ x (u : State), u.Sound 0 .rest → (owner x u).1.Sound 0 .rest) (sound : s.Sound 0 .rest) :
    (inRange unit owner s).1.Sound 0 .rest := by
  unfold Machine.inRange
  split
  · exact keeps _ s sound
  · exact sound

theorem arrive (sound : s.Sound 0 .rest) (tag : Byte) (r : TableRequest) : (s.arrive tag r).Sound 0 .rest := by
  unfold State.arrive
  dsimp only
  split
  · exact sound.goodFrame.reply ..
  · have waiting : ({ s.goodFrame with request := some ⟨tag, r, .waiting⟩ } : State).Sound 0 .rest := sound.of_same
    exact (waiting.takeWaiting.notify s.flags).of_same

/-! ### The timers (R26, R89, R96, R123, R170) -/

/-- Credits that are forfeited stop the hold timer, whether or not it has expired (R26). -/
theorem forfeitAll_of_expired (credits : (s.lane l).credits ≠ 0) (release : Bool) :
    (s.onLane l fun x => { x with holdTimer := none }).forfeitAll l release = s.forfeitAll l release := by
  have same : ((s.onLane l fun x => { x with holdTimer := none }).lane l).credits = (s.lane l).credits := by
    rw [lane_onLane_self]
    rfl
  rw [State.forfeitAll, State.forfeitAll, same, if_neg credits, if_neg credits, onLane_onLane]
  rfl

theorem execHoldTimerExpiry (sound : s.Sound 0 .rest) (h : execHoldTimerExpiry l s = .next t) : t.Sound 0 .rest := by
  obtain rfl := Host.Outcome.next.inj h
  split
  · next k runs =>
    have credits : (s.lane l).credits ≠ 0 := by
      have timer := (sound.lane l).timer
      rw [runs] at timer
      exact Nat.ne_of_gt (of_decide_eq_true timer.symm)
    rw [forfeitAll_of_expired credits]
    exact ((sound.forfeitAll l false).reworkGate l).notify _
  · exact sound

theorem execWriteTimerExpiry (sound : s.Sound 0 .rest) (h : execWriteTimerExpiry l s = .next t) : t.Sound 0 .rest := by
  obtain rfl := Host.Outcome.next.inj h
  split
  · next image w writing => exact (sound.writeUncertain writing).notify _
  · exact sound

theorem execRecoveryExpiry {card : CardNo} (sound : s.Sound 0 .rest) (h : execRecoveryExpiry card s = .next t) :
    t.Sound 0 .rest := by
  obtain rfl := Host.Outcome.next.inj h
  split
  · next e found => exact (sound.closeEntry (List.mem_of_find?_eq_some found) false).notify _
  · exact sound

theorem showLastCall (sound : s.Sound 0 .rest) (b : BerthId) : (s.showLastCall b).Sound 0 .rest := by
  unfold State.showLastCall
  split_ifs
  · exact sound
  · refine sound.eachLane fun t l now => ?_
    split_ifs
    · exact now.askShow l _
    · exact now

theorem execQuietTimerExpiry (sound : s.Sound 0 .rest) (h : execQuietTimerExpiry b s = .next t) : t.Sound 0 .rest := by
  obtain rfl := Host.Outcome.next.inj h
  split_ifs
  · have called : (s.onBerth b (.callLast s.settings.quietUnit)).Sound 0 .rest :=
      sound.onBerth_aside ((sound.berth b).callLast _) rfl rfl
    exact ((called.raise .lastCall).showLastCall b).notify _
  · exact sound

theorem execSilenceTimerExpiry (sound : s.Sound 0 .rest) (h : execSilenceTimerExpiry s = .next t) : t.Sound 0 .rest := by
  obtain rfl := Host.Outcome.next.inj h
  split
  · have lost : ({ s with silenceTimer := none, depotLost := true } : State).Sound 0 .rest := sound.of_same
    exact (lost.raise _).notify _
  · exact sound

theorem advanceClock (sound : s.Sound 0 .rest) : s.advanceClock.Sound 0 .rest := by
  unfold State.advanceClock
  split
  · exact sound.of_same
  · exact sound.of_same

theorem execClockAdvance (sound : s.Sound 0 .rest) (h : execClockAdvance s = .next t) : t.Sound 0 .rest := by
  obtain rfl := Host.Outcome.next.inj h
  split
  · exact sound.advanceClock.handTime.notify _
  · exact sound

/-! ### The lane link (R1 to R3) -/

theorem execPollTurn (sound : s.Sound 0 .rest) (h : execPollTurn s = .next t) : t.Sound 0 .rest := by
  obtain rfl := Host.Outcome.next.inj h
  split
  · next l _ _ => exact Sound.of_same (s := s.onLink l _) (sound.onLink l _)
  · exact sound

theorem execAnswerBegins (sound : s.Sound 0 .rest) (h : execAnswerBegins s = .next t) : t.Sound 0 .rest := by
  obtain rfl := Host.Outcome.next.inj h
  split
  · exact sound.of_same
  · exact sound

theorem execAnswer {bytes : List Byte} (sound : s.Sound 0 .rest) (h : execAnswer bytes s = .next t) : t.Sound 0 .rest := by
  obtain rfl := Host.Outcome.next.inj h
  split
  · next turn _ =>
    have turned : ({ s with turn := none } : State).Sound 0 .midway := sound.opened.of_same
    exact (turned.endTurn turn bytes).endEvent _
  · exact sound

theorem execAnswerWindowExpiry (sound : s.Sound 0 .rest) (h : execAnswerWindowExpiry s = .next t) : t.Sound 0 .rest := by
  obtain rfl := Host.Outcome.next.inj h
  split
  · next turn _ =>
    have turned : ({ s with turn := none } : State).Sound 0 .midway := sound.opened.of_same
    split_ifs
    · exact sound
    · exact (turned.missedTurn turn).endEvent _
  · exact sound

/-! ### The lines, the tables, the control reset and the power -/

theorem execLineDebounce {i : LineId} (sound : s.Sound 0 .rest) (h : execLineDebounce i s = .next t) : t.Sound 0 .rest := by
  obtain rfl := Host.Outcome.next.inj h
  split
  · have debounced : (s.debounce i).Sound 0 .rest := sound.of_same
    have pulsed : ((s.debounce i).pulse i).Sound 0 .rest := by
      unfold State.pulse
      split
      · split
        · exact debounced.tally _
        · exact debounced
      · exact debounced
    exact pulsed.followLines.opened.endEvent _
  · exact sound

theorem execTableWorkDone (sound : s.Sound 0 .rest) (h : execTableWorkDone s = .next t) : t.Sound 0 .rest := by
  obtain rfl := Host.Outcome.next.inj h
  split
  · next tag request body _ =>
    have worked : ({ s.workTable request with request := none } : State).Sound 0 .rest := (sound.workTable request).of_same
    exact worked.reply ..
  · exact sound

theorem execControlReset {tag : Byte} (sound : s.Sound 0 .rest) (h : execControlReset tag s = .next t) : t.Sound 0 .rest := by
  obtain rfl := Host.Outcome.next.inj h
  split
  · exact sound.goodFrame.reply ..
  · exact (sound.goodFrame.controlReset.notify 0).reply ..

theorem powerOn (s : State) : s.powerOn.Sound 0 .rest := by
  obtain ⟨-, -, -, -, -, -, sound, -⟩ := theInvariantsHoldAtReset
  exact (placesSound_iff.mp sound).of_same

end Sound
end State

open State in
/-- Every command keeps the laws of admission. -/
theorem exec_sound {c : Instr} {s t : State} (h : exec c s = .next t) (sound : s.Sound 0 .rest) : t.Sound 0 .rest := by
  have request {kind : RequestKind} {tag : Byte} {owner : State → State × ReplyBody}
      (keeps : ∀ u : State, u.Sound 0 .rest → (owner u).1.Sound 0 .rest)
      (h : Host.Outcome.next (s.answer kind tag owner) = (.next t : Host.Outcome State Fault Refusal)) :
      t.Sound 0 .rest := Host.Outcome.next.inj h ▸ sound.answer keeps
  have table {tag : Byte} {r : TableRequest}
      (h : Host.Outcome.next (s.arrive tag r) = (.next t : Host.Outcome State Fault Refusal)) : t.Sound 0 .rest :=
    Host.Outcome.next.inj h ▸ sound.arrive tag r
  have stage {n : Stage} {run : State → Validation → State}
      (keeps : ∀ v, s.engine = some v → v.stage = n → (run s v).Sound 0 .midway)
      (h : Host.Outcome.next (s.atStage n run) = (.next t : Host.Outcome State Fault Refusal)) : t.Sound 0 .rest :=
    Host.Outcome.next.inj h ▸ sound.atStage n keeps
  have same (h : Host.Outcome.next s = (.next t : Host.Outcome State Fault Refusal)) : t.Sound 0 .rest :=
    Host.Outcome.next.inj h ▸ sound
  cases c with
  | powerOn => exact Host.Outcome.next.inj h ▸ Sound.powerOn s
  | pollTurn => exact sound.execPollTurn h
  | answer bytes => exact sound.execAnswer h
  | answerBegins => exact sound.execAnswerBegins h
  | answerWindowExpiry => exact sound.execAnswerWindowExpiry h
  | holdTimerExpiry l => exact sound.execHoldTimerExpiry h
  | writeTimerExpiry l => exact sound.execWriteTimerExpiry h
  | recoveryExpiry card => exact sound.execRecoveryExpiry h
  | quietTimerExpiry b => exact sound.execQuietTimerExpiry h
  | silenceTimerExpiry => exact sound.execSilenceTimerExpiry h
  | clockAdvance => exact sound.execClockAdvance h
  | tableWorkDone => exact sound.execTableWorkDone h
  | lineDebounce i => exact sound.execLineDebounce h
  | lineLevelChange i level => exact Host.Outcome.next.inj h ▸ sound.of_same
  | controlReset tag => exact sound.execControlReset h
  | stageService => exact stage (fun _ busy _ => sound.opened.runService busy) h
  | stageRecoveryMatch => exact stage (fun _ busy _ => sound.opened.runRecoveryMatch busy) h
  | stageCardStatus => exact stage (fun _ busy _ => sound.opened.runCardStatus busy) h
  | stageProduct => exact stage (fun _ busy _ => sound.opened.runProduct busy) h
  | stagePassback => exact stage (fun _ busy _ => sound.opened.runPassback busy) h
  | stageBerthState => exact stage (fun _ busy _ => sound.opened.runBerthState busy) h
  | stageFare => exact stage (fun _ busy _ => sound.opened.runFare busy) h
  | stageLaneRoom => exact stage (fun _ busy _ => sound.opened.runLaneRoom busy) h
  | decisionEvent => exact stage (fun _ busy last => sound.opened.runDecision busy last) h
  | depotBadFrame => exact same h
  | depotUnknownFrame kind tag => exact Host.Outcome.next.inj h ▸ sound.of_same
  | tableWrite | cardInsert | cardRemove | tableClear | tableCopy | tableActivate => exact table h
  | tableStatus tag => exact Host.Outcome.next.inj h ▸ sound.goodFrame.reply ..
  | berthArrive => exact request (fun _ => .inRange fun b _ now => now.takeArrive _ _ _ _ _ b) h
  | berthOpen => exact request (fun _ => .inRange fun b _ now => now.takeOpen b) h
  | berthClose => exact request (fun _ => .inRange fun b _ now => now.takeClose b) h
  | berthDepart => exact request (fun _ => .inRange fun b _ now => now.takeDepart b) h
  | berthCapacity => exact request (fun _ => .inRange fun b _ now => now.takeCapacity _ _ b) h
  | berthSource => exact request (fun _ => .inRange fun b _ now => now.takeSource _ b) h
  | berthRead | journalRead => exact request (fun _ => .inRange fun _ _ now => now) h
  | laneSetup => exact request (fun _ now => now.takeLaneSetup _ _ _) h
  | laneReset => exact request (fun _ => .inRange fun l _ now => now.takeLaneReset l) h
  | laneRead => exact request (fun _ => .inRange fun l _ now => now.takeLaneRead _ l) h
  | journalRelease => exact request (fun _ now => now.takeJournalRelease _) h
  | journalStatus => exact request (fun _ now => now.takeJournalStatus _) h
  | clockSet => exact request (fun _ now => now.takeClockSet _ _) h
  | settingWrite => exact request (fun _ now => now.takeSettingWrite _ _ _) h
  | lineSetup => exact request (fun _ now => now.takeLineSetup _ _ _ _) h
  | releaseStart | releaseEnd => exact request (fun _ now => now.takeRelease _) h
  | noticeClear => exact request (fun _ now => now.of_same) h
  | clockRead | settingRead | lineRead | noticeRead | identify => exact request (fun _ => id) h

end Sys2Proof.Machine
open Sys2Proof Sys2Proof.Machine

/-- Settles O58: each operation keeps the books of the pier in balance, and an event ends with the engine granted or no
lane waiting. -/
theorem everyStepKeepsThePlacesSound : Obligations.EveryStepKeepsThePlacesSound := by
  refine ⟨fun _ _ => step_keeps (fun _ _ => id) fun _ _ _ sound ran =>
    State.placesSound_iff.mpr (exec_sound ran (State.placesSound_iff.mp sound)), fun s sound tables => ⟨fun idle l => ?_, ?_⟩⟩
  · obtain ⟨-, -, engine, -⟩ := sound
    exact State.engineSound.none_waiting engine idle l
  · exact (State.tablesSound_iff.mp tables).2
end
